-- ==== Sys2Proof/Word.lean ====
section
/-! DEFINITION. The words of the device: bytes, link words and binary32 bit patterns (R3, R8). -/

namespace Sys2Proof

/-- One byte of a packet, a ring, a galley line or a descriptor page (R3). -/
abbrev Byte := BitVec 8

/-- A binary32 value as its bit pattern (R8): the host interface carries physical quantities in this form. -/
abbrev F32 := BitVec 32

/-- A 64-bit word of a link block or a Zhepin cell. -/
abbrev Word64 := BitVec 64

end Sys2Proof
end

