-- ==== Sys2Proof/Syntax.lean ====
section
/-! DEFINITION. The commands of the device: one constructor of Instr per row of spec/opcode_table.json.
A row is a command of the host (an opcode of the command reference, a register or slot write, an SMBus transaction),
a message of a front-end or of a neighbour device, a level or edge on a pin, or an event whose instant the environment fixes. -/

namespace Sys2Proof

/-- One command packet as it stands in a command ring of a function (R360): the function, the ring's queue ID,
the instant at which the Press takes it, and the packet body (32-byte header and parameters); the ring packet's
length word is the length of `body`. -/
structure Packet where
  fn : Fin 64
  qid : BitVec 20
  at_ : Nat
  body : List Byte
  deriving DecidableEq, Repr

/-- A block or unit that has a ready bit and announces readiness by BLOCK_READY (R506, R507). -/
inductive ReadyUnit where
  /-- A bit of BLK_READY (R507). -/
  | blk (b : Fin 22)
  /-- A bit of ENG_READY (R506). -/
  | engine (e : Fin 72)
  /-- A bit of CASE_READY (R506). -/
  | caseRegion (r : Fin 8)
  deriving DecidableEq, Repr

/-- A block that can lie in a reaction shadow (R488). -/
inductive ShadowBlock where
  | engine (e : Fin 72)
  | link (l : Fin 512)
  | calib
  | zhepin
  | standbyPress
  | activePress
  | flash
  deriving DecidableEq, Repr

/-- Where the 64-bit word of an uncorrectable Case memory error lies (R560). -/
inductive CaseWord where
  /-- A word of a slot's mirror entry. -/
  | mirror (slot : Fin 64)
  /-- A word of a channel's calibration bank or pre-staged granules. -/
  | channelData (ch : Fin 512)
  /-- A word of the sequence program cache, of the channel whose program holds it. -/
  | program (ch : Fin 512)
  /-- A word of an energy profile, of the channel whose forme holds it. -/
  | profile (ch : Fin 512)
  /-- A word that belongs to no channel. -/
  | other
  deriving DecidableEq, Repr

/-- One failing check cycle as a block reports it (R472..R474, R489, R494). `bit` is the PF_WORD bit of the unit and
`unit` its place within the bit; `real` and `inj` are R495's flags; `fedBy` is the block from which the checked item came;
`ch` the channel whose context, line or ring failed; `region` and `word` the place of a Case memory error (R560). -/
structure ErrEvent where
  bit : Fin 64
  unit : Fin 16
  check : BitVec 4
  real : Bool
  inj : Bool
  fedBy : Option ShadowBlock
  ch : Option (Fin 512)
  region : Fin 8
  word : CaseWord
  deriving DecidableEq, Repr

/-- A reading of a temperature sensor in units of 1/16 °C, or a failed input (R290, R291, R377). -/
structure Reading where
  value : Int
  ok : Bool
  deriving DecidableEq, Repr

/-- A Zhepin cell as a port receives it (R321..R324): the header word, the payload words, and whether the check
fields of the header and of the payload match. -/
structure Cell where
  header : Word64
  words : List Word64
  crcOk : Bool
  deriving DecidableEq, Repr

/-- A ring neighbour port ZP0..ZP5 (R318). -/
abbrev Port := Fin 6

/-- The commands of the device, one per row of the opcode table, in the table's order. `t` is the instant of the
event in tick units since the epoch (R10), and `t16` that instant in 1/16 tick unit, to which the device measures it (R179). -/
inductive Instr where
  -- power, reset and bring-up
  | powerLoss (t : Nat)
  | porstNAssert (t : Nat)
  | warmRstNAssert (t : Nat)
  | pgFall (pg : Fin 4) (t : Nat)
  | heldRelease (bootSel : BitVec 2)
  | blockReady (u : ReadyUnit) (ok : Bool)
  | regionWipeComplete (r : Fin 64)
  | delayScanComplete (dev : Fin 5) (found : Option (List Byte))
  | refclkLoss (t : Nat)
  | refclkReturn (t : Nat)
  | pciePerstNFall (t : Nat)
  | pciePerstNRise (t : Nat)
  | flr (fn : Fin 64)
  | vfRemoval (numVFs : Fin 64)
  | dieShutdown (sensor : Fin 48) (t : Nat)
  | jtagDebugAttempt (t : Nat)
  -- the phases of a frame
  | frameTick
  | upstreamBlock (link : Fin 512) (u0 u1 : Word64) (dz : List Word64) (crcOk : Bool) (t16 : Nat)
  | computePhase (slot : Fin 64)
  | apertureEnd (ch : Fin 512)
  | collectionPhase (slot : Fin 64)
  | budgetPhase
  | engineDeadlineMiss (slot : Fin 64) (done : Fin 8)
  | upstreamDeadlineMiss (link : Fin 512)
  | collectorDrainMiss (slot : Fin 64)
  | budgetPhaseMiss
  | notBeforeBoundary
  | armingComplete (ch : Fin 512)
  | softParkRampComplete (ch : Fin 512)
  | ovMakeEnd (ch : Fin 512)
  | ovFadeEnd (ch : Fin 512)
  | hsHoldEnd (ch : Fin 512)
  | seqWalk (ch : Fin 512)
  | continuationWalk (ch : Fin 512)
  | waitTimeout (ch : Fin 512)
  | deferralTimeout (ch : Fin 512)
  | galleyLineArrival (ch : Fin 512) (ok : Bool)
  -- calibration
  | calFitComplete (ch : Fin 512)
  | calPersistTimer (ch : Fin 512)
  | sensorRevalidated (zone : Fin 64) (pos : Fin 8)
  -- Elvux links
  | syncBlocksFound (link : Fin 512)
  | linkLoss (link : Fin 512)
  | pageData (link : Fin 512) (page : Fin 6) (data : List Byte)
  | ack (link : Fin 512) (code : Byte)
  | nvmData (link : Fin 512) (slot : Fin 2) (offset : Nat) (data : List Byte)
  | mgmtReplyTimeout (link : Fin 512)
  -- triggers and monitors
  | triggerEdge (pin : Fin 64) (rising : Bool) (t : Nat)
  | triggerResample (pin : Fin 64) (t : Nat)
  | triggerStuck (pin : Fin 64)
  | monitorTrip (mon : Fin 64) (t : Nat)
  | monitorRelease (mon : Fin 64) (t : Nat)
  | blankingWindowEnd (mon : Fin 64) (tripped : Bool) (t : Nat)
  | monitorPeriodClear (mon : Fin 64)
  -- imposition
  | zoneEvaluation (zone : Fin 64)
  | railEvaluation (rail : Fin 32)
  | dieEvaluation (sensors : List Reading)
  -- registration and multi-device cells
  | neighbor (port : Port) (c : Cell) (t : Nat)
  | neighborSend (port : Port)
  | neighborTimeout (port : Port)
  | ping (port : Port) (c : Cell) (t : Nat)
  | pingSend (port : Port) (t : Nat)
  | echo (port : Port) (c : Cell) (t : Nat)
  | resend (port : Port) (c : Cell)
  | epoch (port : Port) (c : Cell) (t : Nat)
  | epochBroadcast
  | epochTimeout
  | regPulseEdge (t : Nat) (low : Nat)
  | markDrive
  | markWaitTimeout
  | timeSlew
  | eventCell (port : Port) (c : Cell) (t : Nat)
  | armCell (port : Port) (c : Cell) (t : Nat)
  | ledger (port : Port) (c : Cell) (t : Nat)
  | ledgerWindowEnd
  | stateCell (port : Port) (c : Cell) (t : Nat)
  | shareSilenceTimeout (index : Nat)
  | req (port : Port) (c : Cell) (t : Nat)
  | grantCell (port : Port) (c : Cell) (t : Nat)
  | cancelCell (port : Port) (c : Cell) (t : Nat)
  | msg (port : Port) (c : Cell) (t : Nat)
  | msgAnswerTimeout (qid : BitVec 20)
  -- host transport
  | doorbell (fn : Fin 64) (index : Nat) (value : Word64) (single : Bool) (bytes : List Byte) (t : Nat)
  | fastSlotWrite (fn : Fin 64) (slot : Fin 64) (bytes : List Byte) (t : Nat)
  | adminEnable (fn : Fin 64) (value : BitVec 32)
  | adminDisable (fn : Fin 64) (value : BitVec 32)
  | adminRingsReady (fn : Fin 64)
  | intStatusClear (fn : Fin 64) (value : BitVec 32)
  | fpLateClear (fn : Fin 64) (value : BitVec 32)
  | faultnCtrlWrite (fn : Fin 64) (value : BitVec 32)
  | registerWrite (fn : Fin 64) (offset : Nat) (value : BitVec 32)
  | smbIdent
  | smbMode
  | smbPfWord
  | smbDie
  | smbDiodes
  | smbSensors
  | smbSerial
  | smbReadFaultn
  | smbWriteFaultn (value : Byte) (pecOk : Bool)
  | smbAlertResponse
  -- firmware-interpreted commands
  | nop (p : Packet)
  | identify (p : Packet)
  | getMode (p : Packet)
  | setModeRun (p : Packet)
  | setModeStandby (p : Packet)
  | setModeSafe (p : Packet)
  | getReady (p : Packet)
  | setFrame (p : Packet)
  | getTime (p : Packet)
  | resetBlock (p : Packet)
  | assign (p : Packet)
  | chConfig (p : Packet)
  | chFunction (p : Packet)
  | chSetpoint (p : Packet)
  | chLimits (p : Packet)
  | chRange (p : Packet)
  | chAutorange (p : Packet)
  | chArm (p : Packet)
  | chPark (p : Packet)
  | chParkSoft (p : Packet)
  | chMeasure (p : Packet)
  | chMeasureComplete (ch : Fin 512)
  | chAperture (p : Packet)
  | chStatus (p : Packet)
  | chStrobe (p : Packet)
  | chMigrate (p : Packet)
  | migrateSelftestDone (slot : Fin 64) (ok : Bool)
  | fmLoad (p : Packet)
  | fmSegmentDefine (p : Packet)
  | fmSegmentWrite (p : Packet)
  | fmSegmentDelete (p : Packet)
  | fmLockup (p : Packet)
  | fmStart (p : Packet)
  | fmStop (p : Packet)
  | fmJump (p : Packet)
  | fmStreamBind (p : Packet)
  | fmStatus (p : Packet)
  | fmStatusSegment (p : Packet)
  | fmRelease (p : Packet)
  | qCreate (p : Packet)
  | qDestroy (p : Packet)
  | qReset (p : Packet)
  | qStatus (p : Packet)
  | qStatusClear (p : Packet)
  | qNotify (p : Packet)
  | qBind (p : Packet)
  | imZone (p : Packet)
  | imRail (p : Packet)
  | imModel (p : Packet)
  | imSensor (p : Packet)
  | imStatus (p : Packet)
  | imPolicy (p : Packet)
  | calMode (p : Packet)
  | calStatus (p : Packet)
  | calCommit (p : Packet)
  | calCommitForce (p : Packet)
  | calCommitDiscard (p : Packet)
  | calRead (p : Packet)
  | calWrite (p : Packet)
  | calPersist (p : Packet)
  | tsWrite (p : Packet)
  | tsSelect (p : Packet)
  | mkRoute (p : Packet)
  | trigConfig (p : Packet)
  | trigConfigClear (p : Packet)
  | trigConfigQuery (p : Packet)
  | regJoinMember (p : Packet)
  | regJoinTimekeeper (p : Packet)
  | regJoinLeave (p : Packet)
  | regStatus (p : Packet)
  | regSkew (p : Packet)
  | regArmAt (p : Packet)
  | monConfig (p : Packet)
  | monStatus (p : Packet)
  | monStatusClear (p : Packet)
  | axdWrite (p : Packet)
  | axdStrobe (p : Packet)
  | fltStatus (p : Packet)
  | fltClear (p : Packet)
  | fltReaction (p : Packet)
  | fltLog (p : Packet)
  | memStatus (p : Packet)
  | memDelays (p : Packet)
  | memDelaysWrite (p : Packet)
  | memScan (p : Packet)
  | memFreq (p : Packet)
  | memFreqComplete
  | memRetireDevice (p : Packet)
  | memRestore (p : Packet)
  | rebuildComplete (dev : Fin 5)
  | memRetireRow (p : Packet)
  | rowCopyComplete (dev : Fin 5)
  | memRead (p : Packet)
  | memWrite (p : Packet)
  | refreshDeadline (dev : Fin 5) (bank : Nat)
  | writeCombineTimeout
  | pageIdleTimeout (dev : Fin 5) (bank : Nat)
  | scrub (row : Nat)
  | lcStatus (p : Packet)
  | lcAdvance (p : Packet)
  | wipeComplete
  | updStage (p : Packet)
  | updStageComplete (authentic : Bool)
  | updSwitch (p : Packet)
  | updateEnd (ok : Bool)
  | retRecord (p : Packet)
  | retRecordComplete
  | prfEnter (p : Packet)
  | prfInject (p : Packet)
  | prfPerturb (p : Packet)
  | prfExit (p : Packet)
  | elStatus (p : Packet)
  | elStatusClear (p : Packet)
  | elDescriptor (p : Packet)
  | elPair (p : Packet)
  | elPairSplit (p : Packet)
  | elPairSwap (p : Packet)
  | elSkew (p : Packet)
  | elResetDisable (p : Packet)
  | elResetEnable (p : Packet)
  -- faults, the Press and the boot flash
  | errorLineRise (e : ErrEvent) (t : Nat)
  | faultReaction
  | shadowEnd (b : ShadowBlock) (persists : List ErrEvent)
  | pressLockstepMismatch (standby : Bool) (t : Nat)
  | pressReloadComplete (ok : Bool)
  | proofreaderMismatch (t : Nat)
  | spareSelftest (e : Fin 72) (ok : Bool)
  | journalProgram
  | hourlyHistory
  | sectorEraseStart
  | powerOn (bootSel : BitVec 2)
  | invalidHeaders (port : Port) (t : Nat)
  | unsettledClears (mon : Fin 64) (tripSide : Bool)
  | sectorEraseComplete
  deriving DecidableEq, Repr

end Sys2Proof
end

