-- ==== Sys2Proof/Config.lean ====
section
/-! DEFINITION. What the spec leaves to an implementation or leaves open: constants without a body, of which nothing can be
proved but what holds for every value. -/

namespace Sys2Proof

/-- Rounding of a control-law quantity to the engines' 36-bit fixed point (R8, R67): the spec gives the width and not the
place of the point. DESIGN CHOICE (log 3): a free function. -/
opaque Config.fix36 : Rat → Rat

/-- Does the slot schedule of the Chase fabric fit 90 % of every port (R17), as a function of N: the spec gives the rule and no
per-port traffic figures. DESIGN CHOICE (log 4): a free function. -/
opaque Config.fabricFits : Nat → Bool

/-- The OTP trims of R146 in the order of R405, as the bytes that CAL_READ returns. They are fixed at manufacture. -/
opaque Config.trims : List (BitVec 8)

/-- The bytes of the colophon (R525) that manufacture fixes and the spec does not name: serial and lot number, wafer and die,
ordering code, time of manufacture and test program version, by their offset in the colophon. -/
opaque Config.factory : Nat → BitVec 8

/-- The SHA-384 digest of a customer key, as the colophon holds it (R525): the spec names the function and does not define it. DESIGN
CHOICE (log 60): a free function, by the key and the byte of the digest. -/
opaque Config.keyDigest : List (BitVec 8) → Nat → BitVec 8

/-- A value that the spec leaves open, fresh for each use number. DESIGN CHOICE (log 6): a free function. -/
opaque Config.freeNat : Nat → Nat

/-- A rational value that the spec leaves open, fresh for each use number. DESIGN CHOICE (log 6): a free function. -/
opaque Config.freeRat : Nat → Rat

end Sys2Proof
end

