-- ==== Sys2Proof/Machine/Bytes.lean ====
section
/-! DEFINITION. Little-endian fields of byte lists (R3), bit fields of numbers, and the CRC of slugs and journal records (R85). -/

namespace Sys2Proof.Machine

/-- Byte `o` of a structure; bytes past its end read 0. -/
def byteAt (l : List Byte) (o : Nat) : Nat := (l.getD o 0).toNat

/-- The 16-bit field at byte offset `o`, least significant byte first (R3). -/
def u16At (l : List Byte) (o : Nat) : Nat := byteAt l o + 256 * byteAt l (o + 1)

/-- The 32-bit field at byte offset `o` (R3). -/
def u32At (l : List Byte) (o : Nat) : Nat := u16At l o + 65536 * u16At l (o + 2)

/-- The 64-bit field at byte offset `o` (R3). -/
def u64At (l : List Byte) (o : Nat) : Nat := u32At l o + 4294967296 * u32At l (o + 4)

/-- The binary32 field at byte offset `o`, as a bit pattern. -/
def f32At (l : List Byte) (o : Nat) : F32 := BitVec.ofNat 32 (u32At l o)

/-- `n` bytes of `v`, least significant first (R3). -/
def leBytes : Nat → Nat → List Byte
  | 0, _ => []
  | n + 1, v => BitVec.ofNat 8 v :: leBytes n (v / 256)

/-- `n` zero bytes. -/
def zeros (n : Nat) : List Byte := List.replicate n 0

/-- Two, four and eight bytes of a number. -/
def le16 (v : Nat) : List Byte := leBytes 2 v
def le32 (v : Nat) : List Byte := leBytes 4 v
def le64 (v : Nat) : List Byte := leBytes 8 v

/-- The four bytes of a binary32 value. -/
def leF32 (v : F32) : List Byte := leBytes 4 v.toNat

/-- The number that a byte list spells, least significant byte first. -/
def leNat : List Byte → Nat
  | [] => 0
  | b :: l => b.toNat + 256 * leNat l

/-- Bits `hi:lo` of a number (`name[hi:lo]` of the notation). -/
def bits (v hi lo : Nat) : Nat := v / 2 ^ lo % 2 ^ (hi + 1 - lo)

/-- Bit `i` of a number. -/
def bit (v i : Nat) : Bool := v / 2 ^ i % 2 == 1

/-- A flag as the bit of weight 2^i. -/
def flag (b : Bool) (i : Nat) : Nat := if b then 2 ^ i else 0

/-- The number with bit `i` set. -/
def setBit (v i : Nat) : Nat := if bit v i then v else v + 2 ^ i

/-- The number with bit `i` clear. -/
def clrBit (v i : Nat) : Nat := if bit v i then v - 2 ^ i else v

/-- A signed value in `n` bits, two's complement (R5). -/
def toSigned (n v : Nat) : Int := if v % 2 ^ n < 2 ^ (n - 1) then (v % 2 ^ n : Int) else (v % 2 ^ n : Int) - 2 ^ n

/-- The `n`-bit two's complement pattern of a signed value. -/
def ofSigned (n : Nat) (v : Int) : Nat := (v % (2 ^ n : Int)).toNat

/-- Does any of the listed byte offsets hold a non-zero byte: the first such offset (reserved fields, R4). -/
def firstNonzero (l : List Byte) : List Nat → Option Nat
  | [] => none
  | o :: os => if byteAt l o ≠ 0 then some o else firstNonzero l os

/-- The offsets a..b, ends included. -/
def offsets (a b : Nat) : List Nat := (List.range (b + 1 - a)).map (· + a)

/-- One byte of the CRC-16/CCITT-FALSE register, most significant bit first (R85). -/
def crc16Bits : Nat → Nat → Nat
  | 0, r => r
  | n + 1, r => crc16Bits n (if r ≥ 0x8000 then ((2 * r) ^^^ 0x1021) % 65536 else 2 * r % 65536)

/-- The CRC-16/CCITT-FALSE over a byte list from register `r` (R85). -/
def crc16From : Nat → List Byte → Nat
  | r, [] => r
  | r, b :: l => crc16From (crc16Bits 8 (r ^^^ (b.toNat * 256))) l

/-- The CRC of R85: polynomial 0x1021, initial value 0xFFFF, no reflection, no final XOR. -/
def crc16 (l : List Byte) : Nat := crc16From 0xFFFF l

/-- One byte of the reflected CRC-32 register of IEEE 802.3. -/
def crc32Bits : Nat → Nat → Nat
  | 0, r => r
  | n + 1, r => crc32Bits n (if r % 2 = 1 then (r / 2) ^^^ 0xEDB88320 else r / 2)

/-- The reflected CRC-32 over a byte list from register `r`. -/
def crc32From : Nat → List Byte → Nat
  | r, [] => r
  | r, b :: l => crc32From (crc32Bits 8 (r ^^^ b.toNat)) l

/-- CRC-32 as used by IEEE 802.3 (R419, R525, R526). -/
def crc32 (l : List Byte) : Nat := crc32From 0xFFFFFFFF l ^^^ 0xFFFFFFFF

/-- One byte of an 8-bit CRC register with polynomial `poly`, most significant bit first. -/
def crc8Bits (poly : Nat) : Nat → Nat → Nat
  | 0, r => r
  | n + 1, r => crc8Bits poly n (if r ≥ 128 then ((2 * r) ^^^ poly) % 256 else 2 * r % 256)

/-- An 8-bit CRC over a byte list from register `r`, most significant bit first. -/
def crc8From (poly : Nat) : Nat → List Byte → Nat
  | r, [] => r
  | r, b :: l => crc8From poly (crc8Bits poly 8 (r ^^^ b.toNat)) l

/-- Overwrite bytes of a list from offset `o`; bytes past its end are dropped. -/
def overwrite : List Byte → Nat → List Byte → List Byte
  | [], _, _ => []
  | l, _, [] => l
  | b :: l, o + 1, w => b :: overwrite l o w
  | _ :: l, 0, c :: w => c :: overwrite l 0 w

/-- `l` brought to exactly `n` bytes, zero-padded. -/
def padTo (n : Nat) (l : List Byte) : List Byte := l.take n ++ zeros (n - l.length)

end Sys2Proof.Machine
end

