-- ==== Sys2Proof/Machine/Num.lean ====
section
/-! DEFINITION. Numbers: binary32 values as exact rationals and back (R8, R79), rounding, and exp(-x) for the plant model (R66). -/

namespace Sys2Proof.Machine

/-- |q| of a rational. -/
def ratAbs (q : Rat) : Rat := if q < 0 then -q else q

/-- A value held within lo..hi. -/
def ratClamp (lo hi q : Rat) : Rat := if q < lo then lo else if hi < q then hi else q

/-- The larger and the smaller of two values. -/
def ratMax (a b : Rat) : Rat := if a < b then b else a
def ratMin (a b : Rat) : Rat := if a < b then a else b

/-- Rounding to the nearest integer, halves away from zero (R65). -/
def roundAway (q : Rat) : Int :=
  if q < 0 then -((2 * (-q) + 1) / 2).floor else ((2 * q + 1) / 2).floor

/-- Rounding to the nearest integer, halves to even. -/
def roundEven (q : Rat) : Int :=
  let f := q.floor
  let r := q - (f : Rat)
  if r < 1 / 2 then f else if 1 / 2 < r then f + 1 else if f % 2 = 0 then f else f + 1

/-- The least integer at or above q, as a natural number (0 for negative q). -/
def ceilNat (q : Rat) : Nat := (-(-q).floor).toNat

/-- Is the pattern a NaN or an infinity (R8). -/
def f32Bad (b : F32) : Bool := bits b.toNat 30 23 == 255

/-- 2 to an integer power. -/
def pow2 (e : Int) : Rat := if 0 ≤ e then ((2 ^ e.toNat : Nat) : Rat) else 1 / ((2 ^ (-e).toNat : Nat) : Rat)

/-- The value of a binary32 pattern; a subnormal is zero (R8), and a NaN or infinity, which no accepted parameter is, reads 0. -/
def f32ToRat (b : F32) : Rat :=
  let v := b.toNat
  let e := bits v 30 23
  let m := bits v 22 0
  if e = 0 ∨ e = 255 then 0
  else
    let q := ((8388608 + m : Nat) : Rat) * pow2 ((e : Int) - 150)
    if bit v 31 then -q else q

/-- The exponent e with 2^e ≤ n / d < 2^(e+1), for positive n and d. -/
def ratLog2 (n d : Nat) : Int :=
  let e : Int := (Nat.log2 n : Int) - (Nat.log2 d : Int)
  let ge : Bool := if 0 ≤ e then decide (d * 2 ^ e.toNat ≤ n) else decide (d ≤ n * 2 ^ (-e).toNat)
  if ge then e else e - 1

/-- The binary32 pattern nearest a rational, ties to even (R79); a magnitude below the normal range gives zero, one above it infinity. -/
def ratToF32 (q : Rat) : F32 :=
  if q = 0 then 0
  else
    let s : Nat := if q < 0 then 2 ^ 31 else 0
    let a := ratAbs q
    let e := ratLog2 a.num.natAbs a.den
    let m := roundEven (a * pow2 (23 - e))
    let (m, e) := if m = 16777216 then (8388608, e + 1) else (m, e)
    if e < -126 then BitVec.ofNat 32 s
    else if 127 < e then BitVec.ofNat 32 (s + 0x7F800000)
    else BitVec.ofNat 32 (s + (e + 127).toNat * 8388608 + (m - 8388608).toNat)

/-- The least integer at or above a product or quotient as binary32 holds it: times are binary32, and 200 ns are 3,200 tick units
(R253 and its worked example; DEDUCED, log 126). -/
def ceilF32 (q : Rat) : Nat := ceilNat (f32ToRat (ratToF32 q))

/-- The quiet NaN of R79. -/
def f32NaN : F32 := 0x7FC00000

/-- A natural number as a binary32 pattern. -/
def natToF32 (n : Nat) : F32 := ratToF32 (n : Rat)

/-- Terms of the Taylor series of exp(-x) for 0 ≤ x ≤ 1, highest term first. -/
def expSeries (x : Rat) : Nat → Rat → Rat
  | 0, acc => acc
  | n + 1, acc => expSeries x n (1 - x * acc / ((n + 1 : Nat) : Rat))

/-- A value rounded to 60 fraction bits, so that powers stay small. -/
def trim60 (q : Rat) : Rat := ((q * ((2 ^ 60 : Nat) : Rat)).floor : Rat) / ((2 ^ 60 : Nat) : Rat)

/-- Squaring `n` times, with 60 fraction bits kept. -/
def sqTimes : Nat → Rat → Rat
  | 0, q => q
  | n + 1, q => sqTimes n (trim60 (q * q))

/-- exp(-x) for x ≥ 0 to about 2^-50: the series on x / 2^k < 1, squared k times; 0 beyond x = 64. DESIGN CHOICE (log 9). -/
def expNeg (x : Rat) : Rat :=
  if x ≤ 0 then 1
  else if 64 < x then 0
  else
    let k := Nat.log2 (ceilNat x) + 1
    sqTimes k (trim60 (expSeries (x / ((2 ^ k : Nat) : Rat)) 20 1))

end Sys2Proof.Machine
end

