-- ==== Sys2Proof/Machine/Tab.lean ====
section
/-! DEFINITION. Sparse tables: a list of (index, value) pairs with rising indices that lists no default value, so that equal
tables are equal lists. The default is given at each use; it may depend on the index. -/

namespace Sys2Proof.Machine

/-- A sparse table. -/
abbrev Tab (α : Type) := List (Nat × α)

/-- The value at index `i`, `dflt` where the table lists none. -/
def tabGet {α : Type} (dflt : α) : Tab α → Nat → α
  | [], _ => dflt
  | (k, v) :: t, i => if k = i then v else tabGet dflt t i

/-- The value listed at index `i`, if any. -/
def tabFind {α : Type} : Tab α → Nat → Option α
  | [], _ => none
  | (k, v) :: t, i => if k = i then some v else tabFind t i

/-- The table without index `i`. -/
def tabErase {α : Type} (t : Tab α) (i : Nat) : Tab α := t.filter fun x => x.1 ≠ i

/-- The table with `v` listed at index `i`, whatever `v` is. -/
def tabInsert {α : Type} : Tab α → Nat → α → Tab α
  | [], i, v => [(i, v)]
  | (k, w) :: t, i, v => if k < i then (k, w) :: tabInsert t i v else if k = i then (i, v) :: t else (i, v) :: (k, w) :: t

/-- The table with the value at index `i` changed to `v`; a default value is removed from the list. -/
def tabSet {α : Type} [DecidableEq α] (dflt : α) (t : Tab α) (i : Nat) (v : α) : Tab α :=
  if v = dflt then tabErase t i else tabInsert t i v

/-- The canonical form over a constant default: rising indices and no default value listed. -/
def tabWf {α : Type} [DecidableEq α] (dflt : α) : Tab α → Bool
  | [] => true
  | [(_, v)] => v ≠ dflt
  | (k, v) :: (j, w) :: t => decide (k < j) && decide (v ≠ dflt) && tabWf dflt ((j, w) :: t)

end Sys2Proof.Machine
end

