-- ==== Sys2Proof/Machine/TypesCmd.lean ====
section
/-! DEFINITION. Accepted commands as the device holds them: the reply envelope, the parsed command, the opcodes and their forms. -/

namespace Sys2Proof.Machine

/-- What the device keeps of a command to answer it (R364): the sending function, the reply ring, the echoed header
fields, the SOURCE word without INTERIM and FOLIO_GAP (R364), FOLIO_GAP, SEQ, and the NOREPLY and IRQ flags (R360). -/
structure Env where
  fn : Nat
  rq : Nat
  opcode : Nat
  folio : Nat
  target : Nat
  source : Nat
  gap : Bool
  seq : Nat
  noreply : Bool
  irq : Bool
  /-- The command's number in the order of acceptance (R367). -/
  acc : Nat
  deriving DecidableEq, Repr

/-- A parsed command (R360): its envelope, opcode flags FLAGS[7:4], ASSIGN and FENCE, the target's scope and index,
NOT_BEFORE, the parameter bytes, and where it stands in time: the frame it counts as accepted in, its stamp (R369)
and its number in the order of acceptance (R367). -/
structure Cmd where
  env : Env
  opf : Nat
  assign : Bool
  fence : Bool
  scope : Nat
  idx : Nat
  nb : Nat
  par : List Byte
  fast : Bool
  frame : Nat
  stamp : Nat
  acc : Nat
  /-- Carried out at its NOT_BEFORE boundary (R559): its effect falls on the boundary just begun. -/
  atNow : Bool
  deriving DecidableEq, Repr

/-- The opcodes of the command reference (R386..R422). -/
inductive Op where
  | nop | identify | getMode | setMode | getReady | setFrame | getTime | resetBlock
  | chConfig | chFunction | chSetpoint | chLimits | chRange | chAutorange | chArm | chPark | chMeasure | chAperture
  | chStatus | chStrobe | chMigrate
  | fmLoad | fmSegment | fmLockup | fmStart | fmStop | fmJump | fmStreamBind | fmStatus | fmRelease
  | qCreate | qDestroy | qReset | qStatus | qNotify | qBind
  | imZone | imRail | imModel | imSensor | imStatus | imPolicy
  | calMode | calStatus | calCommit | calRead | calWrite | calPersist
  | tsWrite | tsSelect | mkRoute | trigConfig | regJoin | regStatus | regSkew | regArmAt
  | monConfig | monStatus | axdWrite | axdStrobe
  | fltStatus | fltClear | fltReaction | fltLog
  | memStatus | memDelays | memScan | memFreq | memRetire | memRead | memWrite
  | lcStatus | lcAdvance | updStage | updSwitch | retRecord
  | prfEnter | prfInject | prfPerturb | prfExit
  | elStatus | elDescriptor | elPair | elSkew | elReset
  deriving DecidableEq, Repr

end Sys2Proof.Machine
end

