-- ==== Sys2Proof/Machine/TypesLink.lean ====
section
/-! DEFINITION. State of an Elvux link and the decoded descriptor of its front-end (R149..R190), and a channel's calibration
state (R121..R148). -/

namespace Sys2Proof.Machine

/-- A range record of the descriptor (R171); times and values are binary32 patterns. -/
structure RangeRec where
  fs : F32
  rated : F32
  tSw : F32
  dHs : F32
  g : F32
  tau : F32
  gc : F32
  tauc : F32
  plus : F32
  minus : F32
  halfPlus : F32
  halfMinus : F32
  tMk : F32
  dOv : F32
  tOvs : F32
  refMask : Nat
  unipolar : Bool
  overlap : Bool
  deriving DecidableEq, Repr

/-- A front-end's descriptor (R170): page 0 and the range records. -/
structure Desc where
  serial : List Byte
  caps : Nat
  tRelay : F32
  tZ : F32
  tCl : F32
  tBs : F32
  pmax : Nat
  tLead : F32
  tRef : F32
  clampV : F32
  clampI : F32
  railFs : F32
  regenMax : F32
  sensorOff : F32
  slotSize : Nat
  v : List RangeRec
  i : List RangeRec
  deriving DecidableEq, Repr

/-- Link states (R175). -/
inductive LinkState where
  | disabled | search | describe | up | refused
  deriving DecidableEq, Repr

/-- Management requests to a front-end (R167). -/
inductive MgmtReq where
  | pageRead (page : Nat)
  | accept
  | config (sg pairs : Nat)
  | tableWrite (set conv strobe : Nat)
  | nvmRead (slot offset count : Nat)
  | nvmWrite (slot offset : Nat) (data : List Byte)
  | nvmSeal (slot : Nat)
  | revoke
  deriving DecidableEq, Repr

/-- A request outstanding on a link: the message, the attempts made and the frame of the last byte sent (R168). -/
structure Outstanding where
  msg : MgmtReq
  attempts : Nat
  sentAt : Nat
  deriving DecidableEq, Repr

/-- What the device holds of a front-end's last upstream block (R157, R162..R165). -/
structure Upstream where
  frame : Nat
  v : Int
  i : Int
  status : Nat
  ts : Nat
  aux : Nat
  temp : Int
  tempOk : Bool
  rail : Int
  pairs : List (Int × Int)
  dzOk : Bool
  deriving DecidableEq, Repr

/-- One Elvux link (R149..R190). -/
structure Link where
  state : LinkState := .disabled
  /-- Belongs to a dual-homed pair; sends ACTIVE blocks (R178, R184). -/
  dual : Bool := false
  active : Bool := true
  newFe : Bool := false
  rtStep : Bool := false
  feProt : Bool := false
  refuse : Nat := 0
  misses : Nat := 0
  /-- Consecutive valid blocks in SEARCH, consecutive misses, frames of the misses in the last 1,024 frames (R175). -/
  validRun : Nat := 0
  missRun : Nat := 0
  missAt : List Nat := []
  /-- Descriptor pages read and the accepted descriptor (R169). -/
  pages : Tab (List Byte) := []
  desc : Option Desc := none
  /-- Serial number last accepted on the link since the last reset (R189). -/
  lastSerial : Option (List Byte) := none
  /-- The request outstanding and those waiting behind it (R168). -/
  out : Option Outstanding := none
  reqs : List MgmtReq := []
  /-- Coefficient-memory slot headers and record bytes read (R173, R175). -/
  hdrs : Tab (List Byte) := []
  recSlot : Nat := 0
  recBytes : List Byte := []
  /-- The newest complete record's slot and sequence number, none when there is none (R173). -/
  newest : Option (Nat × Nat) := none
  /-- Round trips of the last 1,024 valid blocks, in 1/16 tick unit, newest first (R179, R180). -/
  rts : List Nat := []
  /-- t_u, the flight time in use (R181, R182), and the EL_SKEW trim in 1/16 tick unit (R422). -/
  tu : Rat := 0
  trim : Int := 0
  /-- Front-end table entries loaded and acknowledged: conversion and strobe delay by timing set (R167, R181). -/
  table : Tab (Nat × Nat) := []
  /-- Staged values wait for TAPPLY in the next block (R167). -/
  tapply : Bool := false
  /-- Pair count and strobe group last configured (R167). -/
  cfgSg : Nat := 0
  cfgPairs : Nat := 0
  /-- Bytes of the management channel still to send, 10 bits each (R166). -/
  tx : List Nat := []
  /-- The downstream block last sent (R159, R160). -/
  d0 : Word64 := 0
  d1 : Word64 := 0
  /-- The frame in which an ACTIVE or STANDBY block was last sent, and that block's REF request (R126, R177). -/
  up : Option Upstream := none
  /-- A valid upstream block of this frame is held (R51, R157); it reported BLKERR (R177). -/
  held : Bool := false
  blkErr : Bool := false
  deriving DecidableEq, Repr

/-- A coefficient set (R122), binary32 patterns. -/
structure Coef where
  g : F32 := 0x3F800000
  o : F32 := 0
  c2 : F32 := 0
  c3 : F32 := 0
  alpha : F32 := 0
  t0 : F32 := 0
  deriving DecidableEq, Repr

/-- A coefficient bank (R135). -/
structure CalBank where
  stamp : Nat := 0
  commits : Nat := 0
  valid : Nat := 0
  sets : Tab Coef := []
  deriving DecidableEq, Repr

/-- A commit of a staged bank that waits for its boundary (R136, R140): not-before, the command to answer and whether it has
been answered ACCEPTED, whether it is forced, and the step that was tested. -/
structure PendCommit where
  nb : Nat
  env : Option Env
  interim : Bool
  force : Bool
  step : F32
  set : Nat
  deriving DecidableEq, Repr

/-- A persist in progress (R144, R173). -/
structure Persist where
  env : Option Env
  boundary : Option Nat
  bytes : List Byte
  slot : Nat
  seq : Nat
  offset : Nat
  sealing : Bool
  deriving DecidableEq, Repr

/-- A channel's calibration state (R121..R148). Modes: 0 OFF, 1 ACQUIRE, 2 AUTO (R147). -/
structure CalUnit where
  mode : Nat := 2
  k : Nat := 64
  limit : Nat := 20
  group : Nat := 0
  fitting : Bool := true
  active : CalBank := {}
  staged : CalBank := {}
  /-- A commit is withheld (R139), and the monitor step. -/
  withheld : Bool := false
  monitor : F32 := 0
  /-- Largest step of the round's fits while a commit is withheld, in ppm (R139). -/
  monAcc : Rat := 0
  lastStep : F32 := 0
  lastSet : Nat := 0
  /-- Consecutive rounds in which the fit of a set was discarded; sets marked FIT_FAIL (R131). -/
  fails : Tab Nat := []
  fitFail : Nat := 0
  sensorHold : Bool := false
  persistFail : Bool := false
  pointsDisc : Nat := 0
  fitsDisc : Nat := 0
  rounds : Nat := 0
  lastCommit : Nat := 0
  /-- Position in the round: measure set and reference kind (1 ZERO .. 5 HALF_MINUS) under way (R130). -/
  set : Nat := 0
  kind : Nat := 1
  sum : Rat := 0
  count : Nat := 0
  /-- Points of the set under way: kind and mean (R130). -/
  points : List (Nat × Rat) := []
  thTotal : Rat := 0
  thCount : Nat := 0
  /-- Whether a point of the set under way was discarded (R131). -/
  lost : Bool := false
  /-- Sets whose points are all taken and whose fit is due, oldest first: set, points, mean heatsink temperature, and whether a
  point was discarded (R130, R131). -/
  fits : List (Nat × List (Nat × Rat) × Rat × Bool) := []
  /-- A reference conversion was requested in the block of this frame: set and kind (R126). -/
  ask : Option (Nat × Nat) := none
  /-- The same for the frame before, whose result the next upstream block carries (R126). -/
  asked : Option (Nat × Nat) := none
  /-- Last calibration frame (R128). -/
  calFrame : Option Nat := none
  /-- Last 16 accepted fits of each measure set: heatsink temperature and gain (R132). -/
  hist : Tab (List (Rat × Rat)) := []
  /-- Last 4,096 source pairs of each set, newest first, and those new since the last refit (R133). -/
  pairs : Tab (List (Rat × Rat)) := []
  newPairs : Tab Nat := []
  commit : Option PendCommit := none
  /-- Automatic commit of the group is due when every member is ready (R141). -/
  ready : Bool := false
  lastPersist : Nat := 0
  persist : Option Persist := none
  /-- Last valid heatsink temperature, and the instant since which the sensor reads validly (R134). -/
  th : Rat := 25
  validSince : Nat := 0
  deriving DecidableEq, Repr

end Sys2Proof.Machine
end

