-- ==== Sys2Proof/Machine/Desc.lean ====
section
/-! DEFINITION. Decoding and checking a front-end's descriptor (R95, R96, R125, R169..R172). -/

namespace Sys2Proof.Machine

/-- Page count P for nV + nI ranges (R169). -/
def descPages (nRanges : Nat) : Nat := 1 + (nRanges + 3) / 4

/-- A range record from its 64 bytes (R171). -/
def decodeRange (l : List Byte) : RangeRec :=
  { fs := f32At l 0, rated := f32At l 4, tSw := f32At l 8, dHs := f32At l 12, g := f32At l 16, tau := f32At l 20,
    gc := f32At l 24, tauc := f32At l 28, plus := f32At l 32, minus := f32At l 36, halfPlus := f32At l 40,
    halfMinus := f32At l 44, tMk := f32At l 48, dOv := f32At l 52, tOvs := f32At l 56,
    refMask := byteAt l 60, unipolar := bit (byteAt l 61) 0, overlap := bit (byteAt l 61) 1 }

/-- The 64 bytes of range record r within the pages after page 0 (R169). -/
def rangeBytes (pages : Tab (List Byte)) (r : Nat) : List Byte :=
  ((tabGet [] pages (1 + r / 4)).drop (64 * (r % 4))).take 64

/-- The descriptor that the pages spell (R169..R171). -/
def decodeDesc (pages : Tab (List Byte)) : Desc :=
  let p := tabGet [] pages 0
  let nV := byteAt p 6
  let nI := byteAt p 7
  { serial := (p.drop 40).take 16, caps := u32At p 60, tRelay := f32At p 64, tZ := f32At p 68, tCl := f32At p 72,
    tBs := f32At p 76, pmax := byteAt p 80, tLead := f32At p 84, tRef := f32At p 88, clampV := f32At p 92,
    clampI := f32At p 96, railFs := f32At p 100, regenMax := f32At p 104, sensorOff := f32At p 108, slotSize := u32At p 112,
    v := (List.range nV).map fun r => decodeRange (rangeBytes pages r),
    i := (List.range nI).map fun r => decodeRange (rangeBytes pages (nV + r)) }

/-- A binary32 figure within lo..hi, each bound as binary32 holds it, so that a figure sent at its bound lies inside (DEDUCED, log 126). A
NaN or infinity is outside every range. -/
def f32In (lo hi : Rat) (x : F32) : Bool :=
  !f32Bad x && decide (f32ToRat (ratToF32 lo) ≤ f32ToRat x) && decide (f32ToRat x ≤ f32ToRat (ratToF32 hi))

/-- A binary32 figure above 0. -/
def f32Pos (x : F32) : Bool := !f32Bad x && decide (0 < f32ToRat x)

/-- A list of figures is strictly ascending. -/
def ascending : List F32 → Bool
  | a :: b :: l => decide (f32ToRat a < f32ToRat b) && ascending (b :: l)
  | _ => true

/-- The next range's record beside each record, none for the highest. -/
def withNext : List RangeRec → List (RangeRec × Option RangeRec)
  | a :: b :: l => (a, some b) :: withNext (b :: l)
  | [a] => [(a, none)]
  | [] => []

/-- Times and deviations of a range record lie in R96's limits. -/
def rangeTimesOk (rn : RangeRec × Option RangeRec) : Bool :=
  let r := rn.1
  f32In 0 (1 / 10) r.tSw && f32In 0 (f32ToRat r.fs) r.dHs &&
  match rn.2 with
  | some nx => if r.overlap then f32In 0 (1 / 1000) r.tMk && f32In 0 (f32ToRat nx.fs) r.dOv && f32In 0 (1 / 1000) r.tOvs else true
  | none => true

/-- An overlap flag is set where it may not be (R172, code 0x7). -/
def badOverlap (caps : Nat) (rn : RangeRec × Option RangeRec) : Bool :=
  rn.1.overlap && (rn.2.isNone || !bit caps 0)

/-- The checks of R172 in order: the reason code of the first failure, 0 when there is none. `otherSerial` is the
serial number that the other link of a dual-homed pair reports. -/
def checkDesc (pages : Tab (List Byte)) (otherSerial : Option (List Byte)) : Nat :=
  let p := tabGet [] pages 0
  let nV := byteAt p 6
  let nI := byteAt p 7
  let d := decodeDesc pages
  let all := d.v ++ d.i
  let pairs := withNext d.v ++ withNext d.i
  let recCrcOk := (List.range (nV + nI)).all fun r => let b := rangeBytes pages r; decide (crc16 (b.take 62) = u16At b 62)
  if u32At p 0 ≠ 0x58564C45 ∨ byteAt p 4 ≠ 1 ∨ crc16 (p.take 254) ≠ u16At p 254 then 0x1
  else if nV < 1 ∨ 8 < nV ∨ nI < 1 ∨ 12 < nI ∨ byteAt p 5 ≠ descPages (nV + nI) then 0x2
  else if !recCrcOk then 0x1
  else if !(all.all fun r => f32Pos r.fs) || !ascending (d.v.map (·.fs)) || !ascending (d.i.map (·.fs)) then 0x3
  else if !(all.all fun r => f32Pos r.rated && decide (f32ToRat r.rated ≤ f32ToRat r.fs * 100 / 108)) ||
      !ascending (d.v.map (·.rated)) || !ascending (d.i.map (·.rated)) then 0x4
  else if !(pairs.all rangeTimesOk) then 0x5
  else if !(all.all fun r => bit r.refMask 0 && bit r.refMask 1) then 0x6
  else if pairs.any (badOverlap d.caps) then 0x7
  else if !(f32In 0 (40 / 1000000) d.tZ && f32In 0 (400 / 1000000000) d.tLead && !f32Bad d.tRef && decide (0 ≤ f32ToRat d.tRef)) ||
      d.pmax < 1 || 16 < d.pmax || (!bit d.caps 2 && d.pmax ≠ 1) then 0x8
  else if !(all.all fun r => f32Pos r.g && f32Pos r.gc && !f32Bad r.tau && decide (0 ≤ f32ToRat r.tau) &&
      !f32Bad r.tauc && decide (0 ≤ f32ToRat r.tauc)) then 0x9
  else if (match otherSerial with | some s => decide (s ≠ d.serial) | none => false) then 0xA
  else if bit d.caps 5 && decide (d.slotSize < 1040) then 0xB
  else 0

/-- The declared ranges of a quantity, 0 voltage or 1 current. -/
def Desc.ranges (d : Desc) (q : Nat) : List RangeRec := if q = 0 then d.v else d.i

/-- The record of range `r` of a quantity. -/
def Desc.range? (d : Desc) (q r : Nat) : Option RangeRec := (d.ranges q)[r]?

/-- Full scale of a range, 1 where the range is not declared. -/
def Desc.fs (d : Desc) (q r : Nat) : Rat := match d.range? q r with | some x => f32ToRat x.fs | none => 1

/-- Rated value of a range. -/
def Desc.rated (d : Desc) (q r : Nat) : Rat := match d.range? q r with | some x => f32ToRat x.rated | none => 1

/-- Highest declared range code of a quantity (R97). -/
def Desc.top (d : Desc) (q : Nat) : Nat := (d.ranges q).length - 1

/-- Largest full scale of a quantity (R63). -/
def Desc.maxFs (d : Desc) (q : Nat) : Rat := d.fs q (d.top q)

/-- Capability bits of page 0 (R170). -/
def Desc.capOverlap (d : Desc) : Bool := bit d.caps 0
def Desc.capDual (d : Desc) : Bool := bit d.caps 1
def Desc.capRegen (d : Desc) : Bool := bit d.caps 3
def Desc.capDummy (d : Desc) : Bool := bit d.caps 4
def Desc.capMemory (d : Desc) : Bool := bit d.caps 5

end Sys2Proof.Machine
end

