-- ==== Sys2Proof/Machine/CalMath.lean ====
section
/-! DEFINITION. The coefficient model and the fits of background calibration (R121..R138, R557). -/

namespace Sys2Proof.Machine

/-- Measure set index of a quantity's range, and source set index (R121). -/
def measureSet (q r : Nat) : Nat := if q = 0 then r else 8 + r
def sourceSet (q r : Nat) : Nat := if q = 0 then 20 + r else 28 + r

/-- The set that corrects: the bank's set where it is valid, else the identity set (R557). -/
def CalBank.use (b : CalBank) (s : Nat) : Coef := if bit b.valid s then tabGet {} b.sets s else {}

/-- Gain at heatsink temperature `th` (R123, R124). -/
def Coef.gainAt (c : Coef) (th : Rat) : Rat := f32ToRat c.g * (1 + f32ToRat c.alpha * (th - f32ToRat c.t0))

/-- A raw sample x = s / 131072 corrected by a measure set (R123). -/
def Coef.measure (c : Coef) (th x : Rat) : Rat :=
  let t := x - f32ToRat c.o
  c.gainAt th * (t + f32ToRat c.c2 * t * t + f32ToRat c.c3 * t * t * t)

/-- A normalised output pre-distorted by a source set (R124). -/
def Coef.source (c : Coef) (th u : Rat) : Rat :=
  let t := u / c.gainAt th
  f32ToRat c.o + t + f32ToRat c.c2 * t * t + f32ToRat c.c3 * t * t * t

/-- The largest normalised output (R65). -/
def uMax : Rat := 131071 / 131072

/-- The DAC code of a normalised code value (R65, step 3). -/
def codeOf (w : Rat) : Nat :=
  let c := 0x20000 + roundAway (w * 131072)
  if c < 0 then 0 else if 0x3FFFF < c then 0x3FFFF else c.toNat

/-- The DAC code of a normalised output under a source set (R65). -/
def outCode (c : Coef) (th u : Rat) : Nat := codeOf (c.source th (ratClamp (-1) uMax u))

/-- The calibrated zero code of a path whose source set is `c` (R62, R124, R557). -/
def zeroCode (c : Coef) : Nat := codeOf (f32ToRat c.o)

/-- R122's limits of a set. -/
def Coef.ok (c : Coef) : Bool :=
  f32In (95 / 100) (105 / 100) c.g && f32In (-2 / 100) (2 / 100) c.o && f32In (-1 / 100) (1 / 100) c.c2 &&
  f32In (-1 / 100) (1 / 100) c.c3 && f32In (-2 / 10000) (2 / 10000) c.alpha && f32In (-40) 150 c.t0

/-- A set from its 24 bytes, and the bytes of a set (R122). -/
def decodeCoef (l : List Byte) (o : Nat) : Coef :=
  { g := f32At l o, o := f32At l (o + 4), c2 := f32At l (o + 8), c3 := f32At l (o + 12), alpha := f32At l (o + 16), t0 := f32At l (o + 20) }

def Coef.bytes (c : Coef) : List Byte := leF32 c.g ++ leF32 c.o ++ leF32 c.c2 ++ leF32 c.c3 ++ leF32 c.alpha ++ leF32 c.t0

/-- The bank image of R135. -/
def CalBank.bytes (b : CalBank) : List Byte :=
  le64 b.stamp ++ le32 b.commits ++ zeros 4 ++ le64 b.valid ++ zeros 40 ++
  (List.range 40).flatMap fun s => (tabGet { g := 0 } b.sets s).bytes

/-- The offset within R122's record of the first field outside its limits. -/
def Coef.badField (c : Coef) : Option Nat :=
  if !f32In (95 / 100) (105 / 100) c.g then some 0
  else if !f32In (-2 / 100) (2 / 100) c.o then some 4
  else if !f32In (-1 / 100) (1 / 100) c.c2 then some 8
  else if !f32In (-1 / 100) (1 / 100) c.c3 then some 12
  else if !f32In (-2 / 10000) (2 / 10000) c.alpha then some 16
  else if !f32In (-40) 150 c.t0 then some 20
  else none

/-- A bank read from a front-end's record: the sets within R122 that the record marks valid and the descriptor declares (R143). -/
def loadBank (l : List Byte) (declared : Nat → Bool) : CalBank :=
  (List.range 40).foldl (init := ({ } : CalBank)) fun b s =>
    let c := decodeCoef l (64 + 24 * s)
    if bit (u64At l 16) s && c.ok && declared s then
      { b with valid := setBit b.valid s, sets := tabSet { g := 0 } b.sets s c } else b

/-- The step of one set between two banks at the five points of R138, in parts of FS. -/
def setStep (a b : Coef) (s : Nat) (th : Rat) : Rat :=
  let f := fun (c : Coef) (x : Rat) => if s < 20 then c.measure th x else c.source th x
  [-1, -1 / 2, 0, 1 / 2, 1].foldl (init := (0 : Rat)) fun m x => ratMax m (ratAbs (f b x - f a x))

/-- The step of R138 between an active and a staged bank: the largest difference in ppm and the set that gives it. -/
def bankStep (a b : CalBank) (th : Rat) : Rat × Nat :=
  (List.range 40).foldl (init := ((0 : Rat), 0)) fun m s =>
    if bit a.valid s && bit b.valid s then
      let st := setStep (tabGet { } a.sets s) (tabGet { } b.sets s) s th * 1000000
      if m.1 < st then (st, s) else m
    else m

/-- A commit at boundary `t`: the staged bank becomes active with the count raised by 1 (R135, R136). -/
def commitBank (staged active : CalBank) (t : Nat) : CalBank :=
  { staged with stamp := t, commits := (active.commits + 1) % 2 ^ 32 }

/-- One step of Gaussian elimination's back half: the solution of an upper triangular system, last unknown first. -/
def backSolve : List (List Rat × Rat) → List Rat
  | [] => []
  | (row, rhs) :: rest =>
    let xs := backSolve rest
    match row with
    | [] => xs
    | p :: ps => ((rhs - (List.zipWith (· * ·) ps xs).foldl (· + ·) 0) / p) :: xs

/-- Forward elimination of a square system given as rows with right sides; a zero pivot is exchanged for a later row. -/
def eliminate : Nat → List (List Rat × Rat) → List (List Rat × Rat)
  | 0, _ => []
  | n + 1, rows =>
    let zero := fun (r : List Rat × Rat) => decide (r.1.headD 0 = 0)
    match rows.filter (fun r => !zero r) with
    | [] => []
    | piv :: others =>
      let p := piv.1.headD 1
      let red := others.map fun r =>
        let f := r.1.headD 0 / p
        (List.zipWith (fun x y => x - f * y) r.1.tail piv.1.tail, r.2 - f * piv.2)
      let rest := red ++ (rows.filter zero).map fun r => (r.1.tail, r.2)
      piv :: eliminate n rest

/-- The solution of a square linear system, none where it is singular. -/
def solve (rows : List (List Rat × Rat)) : Option (List Rat) :=
  let t := eliminate rows.length rows
  if t.length = rows.length then some (backSolve t) else none

/-- Least squares of `y` against the given basis rows: the solution of the normal equations; exact where the system is square. -/
def leastSquares (basis : List (List Rat)) (y : List Rat) (n : Nat) : Option (List Rat) :=
  let dot := fun (a b : List Rat) => (List.zipWith (· * ·) a b).foldl (· + ·) 0
  let col := fun j => basis.map fun r => r.getD j 0
  solve ((List.range n).map fun i => ((List.range n).map fun j => dot (col i) (col j), dot (col i) y))

/-- Newton's iteration for a root of a0 + a1 x + a2 x^2 + a3 x^3 from `x`, kept to 60 fraction bits (log 9). -/
def newtonRoot (a0 a1 a2 a3 : Rat) : Nat → Rat → Rat
  | 0, x => x
  | n + 1, x =>
    let f := a0 + a1 * x + a2 * x * x + a3 * x * x * x
    let f' := a1 + 2 * a2 * x + 3 * a3 * x * x
    if f' = 0 then x else newtonRoot a0 a1 a2 a3 n (trim60 (x - f / f'))

/-- The fit of a range's points (R125, R130): raw means x against true normalised values y. The unknowns are gT and o with c2
and c3 held or free as R125 gives; the measure formula is expanded in powers of x with the held terms at the active
set's values. The result is (gT, o, c2, c3). -/
def fitPoints (act : Coef) (pts : List (Rat × Rat)) : Option (Rat × Rat × Rat × Rat) :=
  let n := pts.length
  let c2 := f32ToRat act.c2
  let c3 := f32ToRat act.c3
  let h := fun (t : Rat) => t + c2 * t * t + c3 * t * t * t
  if n = 2 then
    -- y = gT h(x - o): the ZERO point gives o, the PLUS point gT
    match pts with
    | [(x0, y0), (x1, y1)] =>
      let o := x0
      let den := h (x1 - o)
      if den = 0 then none else some ((y1 - y0) / den, o, c2, c3)
    | _ => none
  else if n = 3 then
    -- t = x - o with o from the ZERO point; gT t + gT c2 t^2 exactly, c3 held
    match pts with
    | [(x0, _), (x1, y1), (x2, y2)] =>
      let t1 := x1 - x0
      let t2 := x2 - x0
      match solve [([t1 + c3 * t1 * t1 * t1, t1 * t1], y1), ([t2 + c3 * t2 * t2 * t2, t2 * t2], y2)] with
      | some [a, b] => if a = 0 then none else some (a, x0, b / a, c3)
      | _ => none
    | _ => none
  else if n = 4 then
    -- four points: the cubic in t = x - o through all of them, o at the ZERO point's mean
    match pts with
    | (x0, _) :: rest =>
      let rows := rest.map fun p => let t := p.1 - x0; ([t, t * t, t * t * t], p.2)
      match solve rows with
      | some [a, b, c] => if a = 0 then none else some (a, x0, b / a, c / a)
      | _ => none
    | [] => none
  else
    -- five points: the least-squares cubic, its root near the ZERO point being o
    match pts with
    | (x0, _) :: _ =>
      match leastSquares (pts.map fun p => let x := p.1 - x0; [1, x, x * x, x * x * x]) (pts.map (·.2)) 4 with
      | some [a0, a1, a2, a3] =>
        let r := newtonRoot a0 a1 a2 a3 6 0
        let g := a1 + 2 * a2 * r + 3 * a3 * r * r
        if g = 0 then none else some (g, x0 + r, (a2 + 3 * a3 * r) / g, a3 / g)
      | _ => none
    | [] => none

/-- A straight line fitted to pairs by least squares: slope and intercept. -/
def lineFit (pts : List (Rat × Rat)) : Option (Rat × Rat) :=
  match leastSquares (pts.map fun p => [p.1, 1]) (pts.map (·.2)) 2 with
  | some [s, c] => some (s, c)
  | _ => none

/-- The mean of a list, 0 for an empty one. -/
def mean (l : List Rat) : Rat := if l.isEmpty then 0 else l.foldl (· + ·) 0 / (l.length : Rat)

/-- The spread of a list: largest less smallest. -/
def spread : List Rat → Rat
  | [] => 0
  | x :: l => l.foldl ratMax x - l.foldl ratMin x

end Sys2Proof.Machine
end

