-- ==== Sys2Proof/Machine/TypesChan.lean ====
section
/-! DEFINITION. State of a channel: its settings, control loop, arming, measurement and ranging (R61..R120). -/

namespace Sys2Proof.Machine

/-- Overrides of a plant figure for one forcing path and range (R66, R390): G, tau, Gc, tauc; none is the descriptor's figure. -/
structure PlantOv where
  g : Option F32 := none
  tau : Option F32 := none
  gc : Option F32 := none
  tauc : Option F32 := none
  deriving DecidableEq, Repr

/-- The channel parameters of R63, as binary32 patterns; a limit or R_Lmin that was never set is none, and takes the
value that R63 gives from the present ranges. Functions are the codes of R62. -/
structure ChanCfg where
  func : Nat := 0
  vset : F32 := 0
  iset : F32 := 0
  rset : F32 := 0x447A0000
  pset : F32 := 0
  vfloor : F32 := 0x3F000000
  z : F32 := 0
  rlmin : Option F32 := none
  vPos : Option F32 := none
  vNeg : Option F32 := none
  iPos : Option F32 := none
  iNeg : Option F32 := none
  kp : F32 := 0
  ki : F32 := 0x3E800000
  kff : F32 := 0x3F800000
  kpc : F32 := 0
  kic : F32 := 0x3E000000
  strobe : Nat := 0
  digMode : Nat := 0
  pairs : Nat := 16
  plant : Tab PlantOv := []
  /-- Aperture length and SEGMENT alignment (R78). -/
  apLen : Nat := 1
  apSeg : Bool := false
  /-- The selected timing set (R251). -/
  tset : Nat := 0
  deriving DecidableEq, Repr

/-- Compliance state (R70): none, at the positive limit, at the negative limit, coded as CH_STATUS codes it (R393). -/
inductive Compl where
  | none | pos | neg
  deriving DecidableEq, Repr

/-- The control loop's state (R67, R70, R71). Quantities are normalised to the present full scales. -/
structure Loop where
  integ : Rat := 0
  sat : Int := 0
  uPrev : Rat := 0
  compl : Compl := .none
  /-- Setpoints taken at step 5 of the last compute phase (R64): Vset, Iset, Rset, Pset. -/
  vset : Rat := 0
  iset : Rat := 0
  rset : Rat := 1000
  pset : Rat := 0
  /-- The setpoint was clamped to the present range (R195). -/
  clamped : Bool := false
  /-- The code decided for the next frame, and the code sent in this frame (R43, R51). -/
  code : Nat := 0x20000
  sent : Nat := 0x20000
  /-- The code sent in the frame before (R133). -/
  last : Nat := 0x20000
  /-- Analogue clamps for the next block (R72, R104): quantity, range whose FS scales them, positive and negative value in
  units of FS / 1,024; none before the first compute phase. -/
  clamp : Option (Nat × Nat × Int × Int) := none
  /-- The compute phase of this frame is done (R51). -/
  done : Bool := true
  deriving DecidableEq, Repr

/-- Arming state (R91), in the codes of CH_STATUS (R393). -/
inductive Arm where
  | parked | arming | armed | softPark
  deriving DecidableEq, Repr

/-- A change of function in progress across forcing paths (R76): the frame b, the old and the new function. -/
structure FnChange where
  b : Nat
  old : Nat
  new : Nat
  deriving DecidableEq, Repr

/-- An aperture under way and the folio (R78..R86). -/
structure Aper where
  /-- Frames taken so far, of the length that was in force when the aperture began. -/
  k : Nat := 0
  len : Nat := 1
  /-- The aperture ends with the conversion frame before the frame just begun (R78). -/
  cut : Bool := false
  sumV : Rat := 0
  sumI : Rat := 0
  valid : Nat := 0
  anyFlags : Nat := 0
  lastFlags : Nat := 0
  stamp : Nat := 0
  seg : Nat := 0xFFFF
  point : Nat := 0
  ranges : Nat := 0
  /-- The aperture ends with the frame last computed: complete (false) or early (true), awaiting APERTURE_END. -/
  ended : Option Bool := none
  folio : Nat := 0
  deriving DecidableEq, Repr

/-- A CH_MEASURE in progress (R392). -/
structure Measure where
  env : Env
  k : Nat
  taken : Nat := 0
  sumV : Rat := 0
  sumI : Rat := 0
  valid : Nat := 0
  flags : Nat := 0
  lastFlags : Nat := 0
  stamp : Nat := 0
  ranges : Nat := 0
  deriving DecidableEq, Repr

/-- A capture packet under way (R82, R438): header fields and the frames' bytes. -/
structure Capture where
  stamp : Nat
  frames : Nat
  pairs : Nat
  ranges : Nat
  folio : Nat
  commits : Nat
  /-- Number of the last frame taken. -/
  last : Nat
  bytes : List Byte
  deriving DecidableEq, Repr

/-- Range machine states (R117), coded as CH_STATUS codes them (R393). -/
inductive RState where
  | steady | ovMake | ovCompare | ovFade | hsHold
  deriving DecidableEq, Repr

/-- Who asked for a range change (R99, R100). -/
inductive RSource where
  | command | word | setpoint | auto
  deriving DecidableEq, Repr

/-- A wanted range change: quantity (0 voltage, 1 current), target code, its source, the command to complete, and the
setpoint held until the change is done (R99, R115, R116). -/
structure RWant where
  quantity : Nat
  target : Nat
  source : RSource
  env : Option Env := none
  setpoint : Option (Nat × F32) := none
  /-- Frame b of the change's first step, once it has started. -/
  first : Option Nat := none
  deriving DecidableEq, Repr

/-- A range change in progress (R107, R111). -/
structure RChange where
  want : RWant
  /-- Present code, code of the step in progress, and the step's direction and path. -/
  old : Nat
  new : Nat
  /-- Frame b; make count Mk (`mkN`); fade count M or hold length W (R107, R111). -/
  b : Nat
  mkN : Nat
  m : Nat
  /-- Compute phases that advanced the change since its first block, or since its switch block in HS_HOLD (R107, R111, R177). -/
  j : Nat := 0
  /-- The fade weight is 1 to the end of the fade (R109). -/
  full : Bool := false
  deriving DecidableEq, Repr

/-- The ranging state of a channel (R95..R120). -/
structure RangeUnit where
  v : Nat := 0
  i : Nat := 0
  autoV : Bool := false
  autoI : Bool := false
  loV : Nat := 0
  hiV : Option Nat := none
  loI : Nat := 0
  hiI : Option Nat := none
  /-- Overlap ranging enabled and fade length M (R97). -/
  ovEn : Bool := false
  fade : Nat := 8
  state : RState := .steady
  /-- The queued commanded change (R99). -/
  queued : Option RWant := none
  change : Option RChange := none
  /-- Further steps of a commanded overlap change (R102). -/
  cont : Option RWant := none
  /-- Frame e of an overlap change that has completed (R107): its quantity and e. -/
  tail : Option (Nat × Nat) := none
  /-- Frame in which the last change started (R101). -/
  lastStart : Option Nat := none
  /-- Down-range counters of each quantity (R113). -/
  downV : Nat := 0
  downI : Nat := 0
  mismatch : Bool := false
  /-- Deviation bound of the last change (R112). -/
  bound : F32 := 0
  deriving DecidableEq, Repr

/-- What holds of a conversion frame beside its samples (R83, R84): its number, the slug flags that the channel's state in that
frame gives, the ranges in force, segment and point, the conversion instant, the function code and the aperture length set. -/
structure Conv where
  frame : Nat
  flags : Nat
  v : Nat
  i : Nat
  seg : Nat
  point : Nat
  stamp : Nat
  func : Nat
  len : Nat
  deriving DecidableEq, Repr

/-- The last frame value (R77, R393) in volts and amperes, and the conversion frames whose values are still to be formed. -/
structure Frame where
  v : Rat := 0
  i : Rat := 0
  /-- Slug flags of the frame, the bits of R84. -/
  flags : Nat := 0
  /-- The conversion frame in progress, or the one before until its value is formed. -/
  conv : Option Conv := none
  /-- A calibration frame whose value is held open (R128). -/
  open_ : Option Conv := none
  deriving DecidableEq, Repr

end Sys2Proof.Machine
end

