-- ==== Sys2Proof/Machine/TypesEdge.lean ====
section
/-! DEFINITION. State of the edge-placement engine: timing sets, MK pins, triggers, strobe groups, auxiliary DACs and
monitor comparators (R250..R282). -/

namespace Sys2Proof.Machine

/-- A timing set (R250): its 4-byte entries by entry number (byte offset / 4), where they differ from the set's default at the N of
the last reset. -/
abbrev TimingSet := Tab Nat

/-- A TS_WRITE in progress (R255): the set, the staged entries, the links whose acknowledgement is awaited, the command. -/
structure TsWrite where
  set : Nat
  staged : TimingSet
  links : List Nat
  affected : List Nat
  env : Env
  deriving DecidableEq, Repr

/-- An MK pin (R256..R265). Modes: 0 INPUT, 1 STATIC, 2 TIMING, 3 MARKER, 4 LEVEL. -/
structure MkPin where
  /-- Routing entry, bits 15:0 (R258). -/
  route : Nat := 0
  /-- The level that the pin drives, or reads as an input. -/
  level : Bool := false
  /-- Trigger settings (R260): active low; event edge 0 RISE, 1 FALL, 2 BOTH; event enable; capture; ring; stuck time. -/
  actLow : Bool := false
  edge : Nat := 0
  evEn : Bool := false
  capEn : Bool := false
  ring : Nat := 0
  stuckTime : Nat := 0
  /-- End of the chatter window of the last captured edge, and the level after that edge (R261). -/
  winEnd : Option Nat := none
  capLevel : Bool := false
  chatter : Nat := 0
  /-- Chatter since the last query (R265). -/
  chatterQ : Nat := 0
  excess : Nat := 0
  lost : Nat := 0
  folio : Nat := 0
  stuck : Bool := false
  masked : Bool := false
  unmaskPend : Bool := false
  /-- Frames for which the input has been active at frame boundaries without a break (R264). -/
  activeFrames : Nat := 0
  /-- Event raised in this frame (R263). -/
  fired : Bool := false
  /-- Edges issued in this frame: position and level (R257). -/
  issued : List (Nat × Bool) := []
  /-- Owning function (R281). -/
  owner : Nat := 0
  deriving DecidableEq, Repr

/-- A strobe group (R266): ALWAYS or REQUEST, fires in this frame, requested for the frames listed, owner. -/
structure Strobe where
  always : Bool := false
  fires : Bool := false
  reqs : List Nat := []
  owner : Nat := 0
  deriving DecidableEq, Repr

/-- An auxiliary DAC (R268..R270): output code or high impedance, staged code and the frame from which it may apply, group,
binding (0xFFFF none, bit 15 zone), frames in which AXD_STROBE applies it, owner. -/
structure Axd where
  out : Option Nat := none
  staged : Option (Nat × Nat) := none
  group : Nat := 0
  bind : Nat := 0xFFFF
  strobes : List Nat := []
  owner : Nat := 0
  deriving DecidableEq, Repr

/-- A monitor comparator (R272..R281). Modes: 0 ABOVE, 1 BELOW, 2 OUTSIDE, 3 INSIDE. -/
structure Mon where
  mode : Nat := 0
  hyst : Nat := 0
  atPeriod : Bool := false
  blank : Nat := 0
  lo : Nat := 0
  hi : Nat := 0
  period : Nat := 1
  srcChan : Option Nat := none
  /-- Safe side not tripped (R279). -/
  safeNot : Bool := false
  evEn : Bool := false
  noticeEn : Bool := false
  wakeEn : Bool := false
  protEn : Bool := false
  protSet : Nat := 0
  live : Bool := true
  latch : Bool := true
  unsettled : Bool := true
  edgeMode : Bool := true
  rise : Bool := false
  fall : Bool := false
  blanked : Bool := false
  prot : Bool := false
  trips : Nat := 0
  first : Nat := 0
  last : Nat := 0
  /-- Event raised in this frame; MON_STATUS with CLEAR waits for the boundary (R274). -/
  fired : Bool := false
  clearPend : Bool := false
  owner : Nat := 0
  deriving DecidableEq, Repr

/-- An arm slot (R339): D, strobe mask, RELEASE, EVENT, and the boundary it will act at. -/
structure ArmSlot where
  d : Nat
  mask : Nat
  release : Bool
  event : Bool
  deriving DecidableEq, Repr

/-- The edge-placement engine. -/
structure EdgeUnit where
  /-- N in force at the last reset, from which the sets' default instants follow (R250). -/
  resetN : Nat := 100
  sets : Tab TimingSet := []
  write : Option TsWrite := none
  /-- The device set (R251). -/
  devSet : Nat := 0
  pins : Tab MkPin := []
  strobes : Tab Strobe := []
  axds : Tab Axd := []
  mons : Tab Mon := []
  deriving DecidableEq, Repr

end Sys2Proof.Machine
end

