-- ==== Sys2Proof/Machine/TypesFault.lean ====
section
/-! DEFINITION. State of the Proofreader, the reaction shadows and PROOF (R472..R498). -/

namespace Sys2Proof.Machine

/-- The block error word of a unit (R472), COUNT included. -/
structure ErrWord where
  check : Nat := 0
  err : Bool := false
  real : Bool := false
  inj : Bool := false
  conseq : Bool := false
  unit : Nat := 0
  count : Nat := 0
  deriving DecidableEq, Repr

/-- An uncleared event of a PF_WORD bit (R474, R476). -/
structure Event where
  id : Nat
  bit : Nat
  stamp : Nat
  injected : Bool
  deriving DecidableEq, Repr

/-- The reactions of R479, coded as FLT_REACTION codes them (R412): 0 LOG, 1 INTERRUPT, 2 PARK_CHANNELS, 3 PARK_ZONE,
4 SPARE_SWAP, 5 BLOCK_RESET, 6 SAFE. -/
abbrev Reaction := Nat

/-- An event latched for its reaction (R481, R482): the reaction as configured at the latch (R483). -/
structure Latched where
  ev : ErrEvent
  id : Nat
  stamp : Nat
  reaction : Reaction
  /-- PF_WORD at detection (R375). -/
  pf : Nat
  deriving DecidableEq, Repr

/-- An open reaction shadow (R488): the block, the causing event's ID, and the tick at which it ends once known. -/
structure Shadow where
  block : ShadowBlock
  cause : Nat
  until_ : Option Nat
  deriving DecidableEq, Repr

/-- The Proofreader (R472..R491). -/
structure Proofreader where
  pf : Nat := 0
  /-- Block error words by unit: engine e, 72 + link, 584 + memory device, 600 + PF_WORD bit for the rest (R472). -/
  words : Tab ErrWord := []
  nextId : Nat := 1
  events : List Event := []
  /-- SHADOW flags of FLT_STATUS (R413, R489). -/
  shadowFlags : Nat := 0
  reactions : Tab Nat := []
  /-- Bits whose cause holds by state of the detector (R477). -/
  holding : Nat := 0
  latched : List Latched := []
  shadows : List Shadow := []
  /-- Consequential events that may persist when their shadow ends (R490): the event and its shadow's cause ID. -/
  conseq : List (ErrEvent × Nat) := []
  /-- Journal records written for each bit in the second that began at the stamp (R474). -/
  rate : Tab Nat := []
  rateFrom : Nat := 0
  /-- Stamp of the earliest uncleared event (R412). -/
  earliest : Nat := 0
  /-- Journal records since boot (R412). -/
  records : Nat := 0
  /-- The two copies disagree until the next reset (R487). -/
  mismatch : Bool := false
  deriving DecidableEq, Repr

/-- One injection of PRF_INJECT (R421, R493): class, bit, unit index, check cycles left, mask. -/
structure Injection where
  cls : Nat
  bit : Nat
  unit : Nat
  left : Nat
  mask : Nat
  deriving DecidableEq, Repr

/-- One perturbation of PRF_PERTURB (R421, R497): kind, bit, unit index, amount, and its LFSR. -/
structure Perturb where
  kind : Nat
  bit : Nat
  unit : Nat
  amount : Nat
  lfsr : Nat
  deriving DecidableEq, Repr

/-- PROOF's designations, injections and perturbations (R492..R498); the designations are masks over engines, channels, links. -/
structure Proof where
  engines : Nat := 0
  channels : Nat := 0
  links : Nat := 0
  injections : List Injection := []
  perturbs : List Perturb := []
  deriving DecidableEq, Repr

end Sys2Proof.Machine
end

