-- ==== Sys2Proof/Machine/TypesHost.lean ====
section
/-! DEFINITION. State of the host transport: the functions' pages, the fast slots, the rings and their descriptors, the
command unit of the Press and the staging FIFOs. -/

namespace Sys2Proof.Machine

/-- One MSI-X table entry: message address, message data and the mask bit of its vector control word (R353). -/
structure MsixEntry where
  addr : Nat := 0
  data : Nat := 0
  mask : Bool := true
  deriving DecidableEq, Repr

/-- A host command or ASSIGN of resources sees a function page (R355) and the function's own counters. -/
structure HostFn where
  /-- ADMIN_CTRL EN and READY (R356). -/
  adminEn : Bool := false
  adminReady : Bool := false
  /-- ADMIN_CTRL size codes (R356). -/
  cmdSz : Nat := 0
  rplSz : Nat := 0
  evtSz : Nat := 0
  /-- Host addresses of the admin rings' buffers (R355). -/
  cmdAddr : Nat := 0
  rplAddr : Nat := 0
  evtAddr : Nat := 0
  /-- INT_STATUS causes 4:0 (R355). -/
  intStatus : Nat := 0
  /-- INT_MASK: causes 4:0 and EVTN in bit 31 (R355). -/
  intMask : Nat := 0
  evtn : Bool := false
  /-- NOTICE_MASK bits 10..1 (R355, R380). -/
  noticeMask : Nat := 0
  /-- FP_STATUS.LATE (R355). -/
  late : Bool := false
  /-- FP_TAKEN, modulo 2^32 (R355). -/
  fpTaken : Nat := 0
  /-- DB_DROP_CNT and FP_DROP_CNT, 32-bit saturating (R355). -/
  dbDrop : Nat := 0
  fpDrop : Nat := 0
  /-- Folio of the next notice on the event ring (R374). -/
  evtFolio : Nat := 0
  /-- Last folio taken from the fast slots (R366). -/
  fastFolio : Option Nat := none
  /-- Ring quota: the number of rings beyond the admin rings that Q_CREATE allows; none is the value after reset (R350, R399). -/
  quota : Option Nat := none
  /-- MSI-X table entries that differ from the masked zero entry (R353). -/
  msix : Tab MsixEntry := []
  /-- MSI-X pending bit array (R353). -/
  pba : Nat := 0
  /-- MSI-X messages sent: the vectors, newest first. -/
  msixSent : List Nat := []
  deriving DecidableEq, Repr

/-- A fast slot that is written and not yet taken (R368): its function and number, and the instant at which the
state machine takes it. -/
structure FastPending where
  fn : Nat
  slot : Nat
  takeAt : Nat
  deriving DecidableEq, Repr

/-- Kinds of ring are the codes of R424: 0 COMMAND, 1 REPLY, 2 RESULT, 3 CAPTURE, 4 EVENT, 5 STREAM, 6 CROSS_DEVICE.
A ring as its descriptor holds it (R435), with the counts that Q_STATUS adds (R398). -/
structure Ring where
  kind : Nat := 0
  /-- Size code c: 4 KiB times 2^c (R425). -/
  size : Nat := 0
  /-- PLACE: in the Case memory ring pool, else in GDDR-7. -/
  pool : Bool := false
  npkt : Bool := false
  nwm : Bool := false
  irq : Bool := false
  full : Bool := false
  overrun : Bool := false
  badptr : Bool := false
  wmLatch : Bool := false
  qptr : Bool := false
  halt : Bool := false
  admin : Bool := false
  /-- Owning function (R349). -/
  fn : Nat := 0
  /-- Doorbell index, 0x1FFF for none; MSI-X vector, 0xFF for none. -/
  doorbell : Nat := 0x1FFF
  vector : Nat := 0xFF
  watermark : Nat := 0
  hostAddr : Nat := 0
  devAddr : Nat := 0
  headA : Nat := 0
  tailA : Nat := 0
  headB : Nat := 0
  tailB : Nat := 0
  packets : Nat := 0
  peerQ : Nat := 0
  peerDev : Nat := 0
  /-- Position of the open packet's length word (R431); HEAD when none is open. -/
  openPos : Nat := 0
  /-- Bytes from a malformed packet's length word up to HEAD that TAIL passes over (R431): start and end. -/
  skips : List (Nat × Nat) := []
  /-- Entries lost to a full ring and partial packets dropped (R398). -/
  lost : Nat := 0
  partials : Nat := 0
  /-- Bytes reserved in a reply ring for commands under way (R365). -/
  reserved : Nat := 0
  /-- For a command ring: SEQ of the next command, the last folio taken (R364, R366). -/
  nextSeq : Nat := 0
  lastFolio : Option Nat := none
  /-- For a CROSS_DEVICE ring: the number of the next packet to send (R439). -/
  pnum : Nat := 0
  deriving DecidableEq, Repr

/-- A packet of a CROSS_DEVICE ring that awaits its answer (R439). -/
structure Awaiting where
  qid : Nat
  pnum : Nat
  bytes : List Byte
  entries : Nat
  sends : Nat
  sentAt : Nat
  /-- Answered, while an earlier packet of the ring is not: its space is freed in order. -/
  answered : Bool := false
  deriving DecidableEq, Repr

/-- A packet arriving in MSG cells for a ring of this device (R439): peer device, its sending queue, number, kind, bytes. -/
structure Arriving where
  dev : Nat
  sq : Nat
  dq : Nat
  pnum : Nat
  pkind : Nat
  bytes : List Byte
  deriving DecidableEq, Repr

/-- Why a command that has been read from its ring is not yet started. -/
inductive HoldReason where
  /-- UPDATE is in progress (R33). -/
  | update
  /-- No Press pair is in service, or none is authentic yet (R485, R513). -/
  | press
  /-- FENCE: an earlier command of the ring has no final reply (R367). -/
  | fence
  /-- The reply ring lacks space (R365). -/
  | replySpace
  /-- An earlier command of the ring is held (R365, R367). -/
  | order
  deriving DecidableEq, Repr

/-- A firmware command that is held in its ring. -/
structure Held where
  op : Op
  pkt : Packet
  why : HoldReason
  deriving DecidableEq, Repr

/-- A firmware command that waits for its NOT_BEFORE boundary (R559). -/
structure Waiting where
  op : Op
  cmd : Cmd
  deriving DecidableEq, Repr

/-- The command unit of the Press: held and waiting commands, the order of acceptance, and the long commands that
have a completion outstanding (R367, R373). -/
structure CmdUnit where
  held : List Held := []
  waiting : List Waiting := []
  nextAcc : Nat := 0
  outstanding : List (Env × Nat) := []
  /-- Functions whose outstanding replies are discarded, with the acceptance number below which they are, and whether
  those of its admin command ring alone (R352, R378). -/
  discard : List (Nat × Nat × Bool) := []
  deriving DecidableEq, Repr

/-- The queue manager (R435, R436, R440) and the staging FIFOs that software can select (R441). -/
structure QueueUnit where
  rings : Tab Ring := []
  /-- The descriptor cache in order of use, newest first, unpinned descriptors only (R436). -/
  cache : List Nat := []
  /-- Doorbells that wait for a change of the memory data rate: function, index, value, bytes (R461). -/
  doorbells : List (Nat × Nat × Nat × List Byte) := []
  /-- Pointer-mismatch resets counted in the block status (R440, R443). -/
  resets : Nat := 0
  awaiting : List Awaiting := []
  arriving : List Arriving := []
  /-- Organisation bytes in force for the memory port, PCIe, Zhepin and other-singles FIFO classes (R441, R514). -/
  fifoSel : List Nat := [0, 0, 0, 0]
  /-- The collector's open capture packets are kept by channel; trigger records of the frame wait here by pin (R438). -/
  trigRecs : List (Nat × List Byte) := []
  /-- Slugs that the collector has drained and not yet written as the packet of their frame: ring, frame, channel, bytes (R438). -/
  slugs : List (Nat × Nat × Nat × List Byte) := []
  deriving DecidableEq, Repr

end Sys2Proof.Machine
end

