-- ==== Sys2Proof/Machine/TypesImp.lean ====
section
/-! DEFINITION. State of the Impositor: zones, rails, load models, profiles, requests, the die budget and shares (R283..R317, R341..R344). -/

namespace Sys2Proof.Machine

/-- A sensor attached to a zone (R290, R291). Kinds: 0 front-end heatsink, 1 remote diode, 2 threshold. -/
structure Sensor where
  kind : Nat
  index : Nat
  offset : Option F32
  trip : F32
  /-- Last reading, in 1/16 °C, and whether the input failed. -/
  reading : Int := 0
  failed : Bool := false
  /-- Instant of the last change of one LSB, and the zone's model estimates within the last second, one a millisecond, newest first
  (R291, Stuck). -/
  changedAt : Nat := 0
  ests : List (Nat × Rat) := []
  /-- Changes within the last 10 ms: instant and earlier reading (R291, Implausible). -/
  recent : List (Nat × Int) := []
  broken : Bool := false
  /-- Instant since which a broken sensor reads validly (R292). -/
  validSince : Option Nat := none
  deriving DecidableEq, Repr

/-- A zone: its record (R286), model state (R288), sensors and judgement (R293). States: 0 NORMAL, 1 THROTTLE, 2 HOLD. -/
structure Zone where
  enabled : Bool := false
  stages : Nat := 1
  ambSrc : Nat := 0
  ambIdx : Nat := 0
  fbSource : Nat := 0
  fbSink : Nat := 1
  fixedAmb : F32 := 0x41C80000
  tmax : F32 := 0x42AA0000
  warn : F32 := 0x40A00000
  act : F32 := 0x41A00000
  look : F32 := 0x3F800000
  release : F32 := 0x3F800000
  /-- Thermal resistance and time constant of stages 0..3. -/
  net : List (F32 × F32) := [(0x3F000000, 0x41200000), (0, 0), (0, 0), (0, 0)]
  dT : List Rat := [0, 0, 0, 0]
  power : Rat := 0
  sensors : List Sensor := []
  ambient : Option Sensor := none
  thetaM : Rat := 0
  theta : Rat := 0
  /-- Sum and count of θ in the millisecond under way, and the last 100 millisecond means, newest first. -/
  sum : Rat := 0
  cnt : Nat := 0
  hist : List Rat := []
  rho : Rat := 0
  peak : Rat := 0
  state : Nat := 0
  /-- State entered in the last evaluation, for the next boundary (R293); evaluations in a row whose release condition held. -/
  next : Option Nat := none
  good : Nat := 0
  cWarn : Bool := false
  cAct : Bool := false
  cPred : Bool := false
  cTmax : Bool := false
  owner : Nat := 0
  deriving DecidableEq, Repr

/-- A rail: its record (R296), measured draw (R297) and judgement (R298). -/
structure Rail where
  enabled : Bool := false
  fbSource : Nat := 0
  fbSink : Nat := 0
  volt : F32 := 0x41400000
  capW : F32 := 0x42C80000
  capA : F32 := 0x41200000
  reserve : F32 := 0x3D4CCCCD
  throttle : F32 := 0x3F666666
  /-- Draw of the millisecond under way: sum and count; the last mean D. -/
  sum : Rat := 0
  cnt : Nat := 0
  d : Rat := 0
  state : Nat := 0
  next : Option Nat := none
  good : Nat := 0
  cWarn : Bool := false
  cAct : Bool := false
  /-- Pairs granted: the sinking member's channel, its mean regenerated draw, frames of the overlap (R309). -/
  credits : List (Nat × Rat × Nat × Nat) := []
  paired : Nat := 0
  owner : Nat := 0
  deriving DecidableEq, Repr

/-- A channel's model record (R299), binding included (R283): zone 0xFF and rail 0xFF for none. -/
structure Model where
  zone : Nat := 0xFF
  rail : Nat := 0xFF
  model : Nat := 3
  points : Nat := 2
  r : F32 := 0x3F800000
  pw : F32 := 0
  eta : F32 := 0x3F4CCCCD
  etaR : F32 := 0
  pq : F32 := 0
  vsup : F32 := 0x41400000
  ocv : List F32 := List.replicate 16 0
  /-- Maximum deferral (R305), s. -/
  maxdef : F32 := 0x3F800000
  deriving DecidableEq, Repr

/-- One bin of an energy profile (R302): peak and mean rail draw, peak and mean dissipation. -/
structure Bin where
  peakR : F32
  meanR : F32
  peakQ : F32
  meanQ : F32
  deriving DecidableEq, Repr

/-- An energy profile (R302): frames per bin, length in frames, bins, and the mean load power that gives the direction (R307). -/
structure Profile where
  binLen : Nat
  len : Nat
  bins : List Bin
  load : Rat
  /-- Holds its last bin beyond its length (an endless span, R242). -/
  endless : Bool := false
  deriving DecidableEq, Repr

/-- The profile that a forme holds for a budgeted span or an ADMIT, by channel and word address (R302); none in the place of one whose
values are known only at run time, which the walk computes (R303; DEDUCED, log 127). -/
structure HeldProfile where
  ch : Nat
  word : Nat
  profile : Option Profile
  deriving DecidableEq, Repr

/-- An admission request (R305..R309, R344). `latch` and `retry` are instants; `planned`, `start` and `eligible` are frames: the planned
boundary, the start once granted, and the first budget phase that judges it. -/
structure Request where
  id : Nat
  ch : Nat
  cls : Nat
  latch : Nat
  planned : Nat
  eligible : Nat
  retry : Nat := 0
  granted : Bool := false
  start : Nat := 0
  profile : Profile
  /-- ADMIT: its window in frames (R237). -/
  window : Option Nat := none
  /-- A contributor's channel on another device (R344): the device and its request number. -/
  origin : Option (Nat × Nat) := none
  /-- The owner that judges a request of this device's channel, and whether REQ has been sent (R344). -/
  owner : Option Nat := none
  sent : Bool := false
  /-- The maximum deferral has run out (R237, R305). -/
  timedOut : Bool := false
  deriving DecidableEq, Repr

/-- A committed span (R297): request, channel (none for one of another device), its zones and rails, start frame, profile. -/
structure Committed where
  id : Nat
  ch : Option Nat
  zones : List Nat
  rails : List Nat
  start : Nat
  profile : Profile
  deriving DecidableEq, Repr

/-- The die budget (R310..R312). -/
structure DieUnit where
  warn : F32 := 0x40A00000
  act : F32 := 0x41A00000
  release : F32 := 0x3F800000
  temp : Rat := 25
  sum : Rat := 0
  cnt : Nat := 0
  hist : List Rat := []
  rho : Rat := 0
  state : Nat := 0
  next : Option Nat := none
  good : Nat := 0
  cWarn : Bool := false
  cAct : Bool := false
  /-- The 48 on-die sensors' judgement (R310). -/
  sensors : Tab Sensor := []
  /-- Die shutdown in force until every sensor reads below 115 °C (R312); its record awaits programming. -/
  shutdown : Bool := false
  /-- The first frame after the shutdown's instant, from which the engines are gated (R312). -/
  gateFrom : Nat := 0
  deriving DecidableEq, Repr

/-- A contributor as its owner knows it (R342, R343): device ID, mean dissipation and draw, sensor reading and its broken flag,
channels, the last LEDGER cell's instant, and the instant since which its cells are valid, after silence. -/
structure Contrib where
  dev : Nat
  q : Rat := 0
  r : Rat := 0
  temp : Rat := 0
  bad : Bool := false
  channels : Nat := 0
  at_ : Nat := 0
  broken : Bool := false
  validSince : Option Nat := none
  deriving DecidableEq, Repr

/-- A share of a zone or rail across devices (R341..R343). -/
structure Share where
  /-- 0 local, 1 owner, 2 contributor. -/
  role : Nat := 0
  ownerDev : Nat := 0
  ownerIdx : Nat := 0
  /-- Owner: the contributors. -/
  contrib : List Contrib := []
  /-- Contributor: the owner's state as last received, the instant of that cell, and silence (R343). -/
  state : Nat := 0
  lastState : Nat := 0
  silent : Bool := false
  /-- Contributor: sums of the window under way (R342): dissipation, rail draw, frames. -/
  sumQ : Rat := 0
  sumR : Rat := 0
  cnt : Nat := 0
  deriving DecidableEq, Repr

/-- The Impositor. -/
structure Impositor where
  zones : Tab Zone := []
  rails : Tab Rail := []
  models : Tab Model := []
  profiles : List HeldProfile := []
  requests : List Request := []
  committed : List Committed := []
  nextReq : Nat := 0
  pairing : Bool := true
  die : DieUnit := {}
  /-- Shares by index: zones 0..63, rails 256..287. -/
  shares : Tab Share := []
  /-- A budget phase ran late and admitted nothing (R51). -/
  late : Bool := false
  deriving DecidableEq, Repr

end Sys2Proof.Machine
end

