-- ==== Sys2Proof/Machine/TypesMem.lean ====
section
/-! DEFINITION. State of main memory, its controller and the byte stores (R425, R445..R471). -/

namespace Sys2Proof.Machine

/-- States of a memory device, coded as MEM_STATUS codes them (R416): 0 training, 1 in service, 2 retired, 3 rebuilding. -/
inductive MemState where
  | training | inService | retired | rebuilding
  deriving DecidableEq, Repr

/-- A bank's controller state that software or the spec names (R455..R457): refresh debt, page counter, open row. -/
structure MemBank where
  debt : Int := 0
  page : Nat := 1
  openRow : Option Nat := none
  /-- Row of the last access, while the 100 ns after it run (R457). -/
  last : Option Nat := none
  inOrder : Bool := false
  deriving DecidableEq, Repr

/-- A row being copied to a spare row, or marked for it (R464). -/
structure RowCopy where
  bank : Nat
  row : Nat
  spare : Nat
  started : Bool
  deriving DecidableEq, Repr

/-- One memory device (R416, R445, R458..R467). -/
structure MemDev where
  state : MemState := .training
  /-- The 128-byte delay block (R458). -/
  block : List Byte := []
  /-- Remap table: bank * 65536 + row, and the spare row (R464); lost rows. -/
  remap : List (Nat × Nat) := []
  lostRows : List Nat := []
  copies : List RowCopy := []
  corrected : Nat := 0
  reconstructed : Nat := 0
  retries : Nat := 0
  /-- Error bursts in the millisecond that began at the stamp (R462). -/
  bursts : Nat := 0
  burstFrom : Nat := 0
  /-- Corrected reports by row in the hour that began at the stamp (R462). -/
  reports : Tab Nat := []
  reportFrom : Nat := 0
  /-- Parity mismatches found by scrub in the hour (R469). -/
  mismatches : Nat := 0
  banks : Tab MemBank := []
  /-- The scan in progress: the rate at its start (R460). -/
  scanning : Option Nat := none
  deriving DecidableEq, Repr

/-- A scan commanded by MEM_SCAN, RESTORE or MEM_FREQ (R459, R461): what it serves, the devices still scanning, results. -/
structure ScanJob where
  /-- 0 bring-up, 1 MEM_SCAN, 2 RESTORE, 3 MEM_FREQ. -/
  purpose : Nat
  mask : Nat
  left : Nat
  results : List Nat
  rate : Nat
  env : Option Env
  deriving DecidableEq, Repr

/-- A MEM_FREQ that waits for a scan or runs (R417, R461). -/
structure FreqJob where
  rate : Nat
  running : Bool
  env : Env
  deriving DecidableEq, Repr

/-- A stripe whose writes wait to be combined (R450): stripe number, the instant of the first write, what is covered. -/
structure Combine where
  stripe : Nat
  since : Nat
  /-- Mask of the stripe's 64-byte pieces. -/
  units : Nat
  deriving DecidableEq, Repr

/-- Main memory. -/
structure MemUnit where
  devs : Tab MemDev := []
  /-- Data rate per pin in force, Gb/s (R446). -/
  rate : Nat := 32
  jobs : List ScanJob := []
  freq : Option FreqJob := none
  /-- RESTORE commands awaiting the end of their rebuild, by device (R466). -/
  restores : List (Nat × Option Env) := []
  /-- The wipe of the data space is under way from this region (R468). -/
  wipeAt : Option Nat := none
  /-- Main memory is out of service after a second retirement (R467). -/
  outOfService : Bool := false
  pending : List Combine := []
  /-- Stripes that hold poisoned units (R463). -/
  poisoned : List Nat := []
  /-- Galley blocks and ring spans in the data space that are held: address and size (R201, R425). -/
  spans : List (Nat × Nat) := []
  /-- The same for the ring pool. -/
  poolSpans : List (Nat × Nat) := []
  /-- Scrub position (R469) and the start of its hour. -/
  scrubAt : Nat := 0
  scrubFrom : Nat := 0
  deriving DecidableEq, Repr

/-- The byte stores: the data space (R447), the Case memory ring pool (R18) and what the device has written to host
buffers (R357). An address that is not listed reads 0, which is what the wipe writes. -/
structure Store where
  mem : List Host.Cell := []
  pool : List Host.Cell := []
  host : List Host.Cell := []
  deriving DecidableEq, Repr

end Sys2Proof.Machine
end

