-- ==== Sys2Proof/Machine/TypesReg.lean ====
section
/-! DEFINITION. State of registration and of the Zhepin ports (R318..R347). -/

namespace Sys2Proof.Machine

/-- Registration states (R328), coded as the registration status word codes them (R346). -/
inductive RegState where
  | unjoined | joining | aligning | registered | failed
  deriving DecidableEq, Repr

/-- The contents of a NEIGHBOR cell as last received on a port (R324). -/
structure NeighborInfo where
  id : Option Nat
  state : Nat
  port : Nat
  n : Nat
  m : Nat
  e : Nat
  timekeeper : Nat
  frames : Nat
  sysTime : Nat
  mark : Nat
  path : Nat
  deriving DecidableEq, Repr

/-- A port ZP0..ZP5 (R323, R331). Stamps are in 1/16 tick unit. -/
structure ZPort where
  up : Bool := false
  /-- Instant from which 64 consecutive valid headers are counted (R323). -/
  validFrom : Nat := 0
  last : Option NeighborInfo := none
  lastAt : Nat := 0
  /-- Link sequence of the next cell sent. -/
  txSeq : Nat := 0
  /-- The last 16 cells sent, oldest first (R323). -/
  sent : List (Nat × Cell) := []
  /-- LSEQ of a cell that failed once and was asked for again. -/
  failed : Option Nat := none
  dropped : Nat := 0
  /-- Cells dropped in the second that began at the stamp. -/
  dropWin : Nat := 0
  dropFrom : Nat := 0
  /-- Asymmetry trim a in 1/16 tick unit (R331). -/
  trim : Int := 0
  /-- Exchanges: θ and δ of the last 4,096, newest first, in 1/32 tick unit; T1 of the PING under way. -/
  theta : List Int := []
  delta : List Int := []
  pingAt : Option Nat := none
  deriving DecidableEq, Repr

/-- A cell sent on a port, for the record of what the device puts out: port and cell. -/
abbrev CellOut := Nat × Cell

/-- The registration logic (R326..R346). -/
structure RegUnit where
  state : RegState := .unjoined
  /-- The join record in force (R327); whether the device joined as, or has become, the timekeeper (R335). -/
  timekeeper : Bool := false
  generate : Bool := false
  deputy : Bool := false
  autoRejoin : Bool := false
  n : Nat := 1
  m : Nat := 1
  e : Nat := 24
  nExpected : Nat := 100
  lambda : Nat := 0
  /-- This device's ID (R13), and the timekeeper's. -/
  id : Option Nat := none
  tkId : Option Nat := none
  nMismatch : Bool := false
  markMiss : Bool := false
  markBad : Bool := false
  cabling : Bool := false
  /-- Candidate timekeeper (R335): 0 no, 1 not yet sent an EPOCH cell as one, 2 has. -/
  candidate : Nat := 0
  /-- REG_JOIN's completion is owed; instant of acceptance. -/
  env : Option Env := none
  joinedAt : Nat := 0
  ports : Tab ZPort := []
  /-- Cells of broadcasts seen: origin, SEQ, instant (R323); this device's next SEQ. -/
  seen : List (Nat × Nat × Nat) := []
  seq : Nat := 0
  /-- Time parent port, path length, and the run of better reports of another port (R332). -/
  parent : Option Nat := none
  path : Nat := 63
  better : Option (Nat × Nat) := none
  /-- Last EPOCH cell: instant, mark number, mark's system time in 1/16 tick unit (R324), and the instant of the first cell that
  named this mark. -/
  epochAt : Option Nat := none
  mark : Nat := 0
  markTime : Nat := 0
  markAt : Option Nat := none
  /-- Instant of the last pulse edge, while it awaits its EPOCH cell (R328). -/
  edgeAt : Option Nat := none
  /-- Instant at which REG_OUT last rose, driven or repeated (R326). -/
  regOut : Option Nat := none
  /-- Timestamp at which the device became REGISTERED (R327). -/
  regAt : Nat := 0
  /-- A registered neighbour has existed since (R328). -/
  neighborSince : Option Nat := none
  /-- Fraction of the correction carried in estimates, 1/16 tick unit (R332); last slew. -/
  frac : Int := 0
  lastSlew : Nat := 0
  lateEvents : Nat := 0
  lateArms : Nat := 0
  dropped : Nat := 0
  /-- Cross-device events raised in this frame: events and stamp (R336). -/
  outEvents : List Nat := []
  outStamp : Nat := 0
  /-- Cells sent, newest first. -/
  sent : List CellOut := []
  deriving DecidableEq, Repr

end Sys2Proof.Machine
end

