-- ==== Sys2Proof/Machine/TypesSeq.lean ====
section
/-! DEFINITION. State of the sequence unit: segments, forme images and sequencer contexts (R191..R249). -/

namespace Sys2Proof.Machine

/-- A line of a streamed segment that has been taken from its ring (R212): its index, the instant at which its packet was
complete, and its 64 bytes. -/
structure TakenLine where
  index : Nat
  at_ : Nat
  bytes : List Byte
  deriving DecidableEq, Repr

/-- A defined segment (R192, R193, R196, R203). Kinds: 0 STORED, 1 GENERATED, 2 STREAMED; states: 0 DEFINED, 1 COMPLETE, 2 LOCKED. -/
structure Segment where
  fn : Nat
  kind : Nat
  law : Nat
  len : Nat
  state : Nat
  locks : Nat := 0
  /-- STORED: line indices written, as disjoint intervals first..last in rising order (R196). -/
  written : List (Nat × Nat) := []
  scale : F32 := 0
  offset : F32 := 0
  policy : Nat := 0
  dwell : Nat := 0
  steps : Nat := 0
  width : Nat := 0
  flags : Nat := 0
  listLen : Nat := 0
  params : List F32 := []
  /-- STORED: data-space addresses of the galley blocks, in segment order (R201). -/
  blocks : List Nat := []
  /-- STREAMED: the bound channel and ring (R211). -/
  chan : Option Nat := none
  ring : Option Nat := none
  /-- STREAMED: expected line index i, lines consumed, lines taken and not yet past (R212). -/
  expect : Nat := 0
  consumed : Nat := 0
  taken : List TakenLine := []
  /-- STREAMED: line index at which the play in progress, or the next one, begins (R217). -/
  playBase : Nat := 0
  /-- STREAMED: place in the ring up to which packets have been taken, and the lines in the ring from TAIL on: index (none: a
discarded one), whether its samples are past, the bytes that it occupies with its packet's length word, and whether it ends its
packet (R212). -/
  readPos : Nat := 0
  inRing : List (Option Nat × Bool × Nat × Bool) := []
  /-- Counts of R216. -/
  missed : Nat := 0
  skipped : Nat := 0
  bad : Nat := 0
  clamped : Nat := 0
  deriving DecidableEq, Repr

/-- Context states (R221), coded as the context status word codes them (R248). -/
inductive CtxState where
  | empty | loaded | locked | running | halted | stopped
  deriving DecidableEq, Repr

/-- What a span does (R225): play a segment with the two generator parameters, hold a value (none: the setpoint in force), wait
for an event (`prior`: an occurrence before the wait satisfies it already, R234), for a grid tick, an armed slot or a barrier, or end
the program (R224). -/
inductive SpanKind where
  | play (seg : Nat) (p0 p1 : F32)
  | hold (value : Option F32)
  | wait (ev : Nat) (prior : Bool) (tmo taddr : Nat)
  | grid (per ph : Nat)
  | arm (slot : Nat)
  | barrier (grp : Nat)
  | halt (mode ramp : Nat)
  deriving DecidableEq, Repr

/-- A word that a walk records as an effect of the next span (R228), with the register values that it names. -/
structure Effect where
  word : Nat
  a : F32 := 0
  b : F32 := 0
  deriving DecidableEq, Repr

/-- A span of the program (R225..R229), in frame numbers. -/
structure Span where
  kind : SpanKind
  /-- Address of the word that decided the span; the frame that it began in, or before it begins the earliest that it may. -/
  word : Nat
  start : Nat := 0
  /-- Length in frames; none for a wait, an endless segment and HALT. -/
  len : Option Nat := none
  /-- The frame in which a wait or an endless segment ends, once known. -/
  end_ : Option Nat := none
  /-- Effect words recorded for the span, in program order (R228). -/
  effects : List Effect := []
  /-- Value registers before the walk that decided the span (R239). -/
  vaBefore : List F32 := []
  /-- Address at which the walk after the span begins. -/
  next : Nat := 0
  /-- The span asks for admission (R237): an admission request number awaits or holds its grant. -/
  request : Option Nat := none
  /-- Wait value selector and register (R223), for the deferral. -/
  wv : Nat := 0
  wva : F32 := 0
  /-- The request is an ADMIT's (R237): its window in frames and its timeout address. -/
  admitted : Option (Nat × Nat) := none
  /-- Budgeted: its priority class (R223). -/
  budgeted : Option Nat := none
  /-- It is pre-staged or needs no lines (R209). -/
  staged : Bool := false
  deriving DecidableEq, Repr

/-- A jump request (R238..R241): target word, whether the target is pre-staged, the number of the first frame whose tick is at or after
the latch, and the FM_JUMP to answer. -/
structure Jump where
  target : Nat
  staged : Bool
  latch : Nat
  env : Option Env
  answered : Bool
  deriving DecidableEq, Repr

/-- A loop counter (R219, R230). -/
structure LoopCtr where
  count : Nat := 0
  opened : Bool := false
  endless : Bool := false
  body : Nat := 0
  deriving DecidableEq, Repr

/-- One sequencer context (R219, R248). -/
structure SeqCtx where
  state : CtxState := .empty
  /-- The forme image received so far and its total length (R220, R395). -/
  image : List Byte := []
  total : Nat := 0
  pc : Nat := 0
  lc : Tab LoopCtr := []
  va : List F32 := []
  stack : List Nat := []
  span : Option Span := none
  queue : List Span := []
  /-- A wait span is in progress before the first queued span: 3 deferral, 4 stall; 0 none (R225, R248). -/
  waiting : Nat := 0
  /-- The tick that began the wait span in progress (R241). -/
  waitFrom : Nat := 0
  jump : Option Jump := none
  defto : Bool := false
  stop : Nat := 0
  dropped : Nat := 0
  stalls : Nat := 0
  lastJump : Nat := 0
  cache : Bool := false
  memdep : Bool := false
  /-- Program words' place in main memory when it is not cached (R247), and its size in words. -/
  blocks : List Nat := []
  /-- Event window start t_p (R233), and UNDER and CLAMP seen in frames since. -/
  winFrom : Nat := 0
  underFrames : List Nat := []
  clampFrames : List Nat := []
  /-- A walk has been called for: 0 none, 1 the walk after a span, 2 a continuation walk (R227, R236); the frame whose compute phase makes it. -/
  walkDue : Nat := 0
  walkAt : Nat := 0
  /-- The conditions that the walk samples in that phase (R227, R233), as a mask over the COND codes 1, 2, 5 and 8. -/
  walkFlags : Nat := 0
  /-- A span's start stalls for the RANGE queue (R228); the setpoint of the next frame was not supplied in time (R51); the segment whose
  sample was supplied last; the function in force in the next frame where the next span begins with a FUNC word. -/
  stall : Bool := false
  supplyMiss : Bool := false
  supplied : Option Nat := none
  nextFn : Option Nat := none
  /-- The window of an ADMIT in force: the first frame of its first span and its length (R237). -/
  window : Option (Nat × Nat) := none
  /-- FM_START accepted: frame a, not-before, the command (R244). -/
  starting : Option (Nat × Nat × Env) := none
  /-- Ticks of the span from which STROBE EACH and MARK EACH act: strobe groups, M0, M1 (R228). -/
  eachStrobe : Nat := 0
  eachMark : Nat := 0
  /-- Markers and strobe requests of the next frame (R228, R256). -/
  onceStrobe : Nat := 0
  onceMark : Nat := 0
  sampleMark : Nat := 0
  /-- Marker bits of the sample of the frame in progress and of the next one, on their way to the frame that sends them (R207). -/
  markHeld : Nat := 0
  markNext : Nat := 0
  /-- A timing set that the next frame selects (R228). -/
  tsetNext : Option Nat := none
  /-- Samples taken from the span in play; it is in underrun (R214). -/
  j : Nat := 0
  under : Bool := false
  underPark : Bool := false
  /-- Line buffer: line indices present for the span in play, with their bytes (R208). -/
  buffer : List TakenLine := []
  /-- The same for the span that follows, and the address of its word. -/
  ahead : List TakenLine := []
  aheadFor : Option Nat := none
  /-- A line read that failed once and is read again (R210). -/
  retry : Bool := false
  /-- Pre-staged lines by declared target index (R209). -/
  prestaged : Tab (List Byte) := []
  /-- Segments locked by the forme. -/
  locks : List Nat := []
  /-- The function set of the forme as a mask (R195). -/
  fnSet : Nat := 0
  deriving DecidableEq, Repr

/-- The sequence unit: segments, cache use in words (R247), free galley blocks are computed from what is held. -/
structure SeqUnit where
  segments : Tab (Option Segment) := []
  cacheUsed : Nat := 0
  deriving DecidableEq, Repr

end Sys2Proof.Machine
end

