-- ==== Sys2Proof/Machine/TypesSys.lean ====
section
/-! DEFINITION. System state: power and reset, the timebase, the mode, readiness, the Press, OTP and lifecycle, the boot flash
and its journal, and the Proofreader. -/

namespace Sys2Proof.Machine

/-- The stages of the device between power and service (R23, R35). Which of the RUN family, PROOF, UPDATE and so on is
reported follows from the flags of `ModeUnit` (R24, R26). -/
inductive Phase where
  | off | held | bringUp | normal | wipe | returned
  deriving DecidableEq, Repr

/-- What a pending mode change does at its boundary (R34, R35). -/
inductive ModeReq where
  | run | standby
  /-- SET_MODE SAFE (cause 0x1) or a SAFE reaction (cause 0x2) (R30). -/
  | safe (cause : Nat)
  | wake
  | proofEnter (engines channels links : Nat)
  | proofExit
  | update
  | wipe (target : Nat)
  deriving DecidableEq, Repr

/-- The mode register's machine (R23..R35). -/
structure ModeUnit where
  phase : Phase := .off
  /-- SAFE is in force, or STANDBY is; both clear is the RUN family (R24). -/
  safe : Bool := false
  standby : Bool := true
  /-- PROOF and UPDATE are in force (R24, R33). -/
  proof : Bool := false
  update : Bool := false
  safePend : Bool := false
  recovery : Bool := false
  memPark : Bool := false
  updStaged : Bool := false
  updActive : Bool := false
  /-- Engines ungated and running for a wake or SET_MODE RUN, awaiting the boundary (R29). -/
  waking : Option Nat := none
  /-- Target state of the LC_ADVANCE whose WIPE runs (R517). -/
  wipeTarget : Nat := 0
  /-- MODE_STATUS as reported (R25) and the boundary at which it last changed (R386). -/
  word : Nat := 0
  changedAt : Nat := 0
  /-- Mode changes that wait for their boundary: the earliest tick, the acceptance number and the change (R34). -/
  pending : List (Nat × Nat × ModeReq) := []
  deriving DecidableEq, Repr

/-- The timebase (R10, R38, R41): the instant of the last event, the frame in progress and its tick, the frame count N. -/
structure Timebase where
  /-- Frame ticks run (R509). -/
  running : Bool := false
  /-- The first frame tick, which is the epoch and numbered frame 0 (R11), has been made. -/
  started : Bool := false
  now : Nat := 0
  frame : Nat := 0
  tick : Nat := 0
  n : Nat := 100
  /-- Timestamps count from a local epoch (R11). -/
  localTime : Bool := true
  /-- SET_FRAME changes awaiting their boundary: not-before, N and the envelope of the reply (R41). -/
  setFrame : List (Nat × Nat × Env) := []
  /-- The step by which a slew has moved the timebase in the frame in progress, in tick units (R332). -/
  slew : Int := 0
  deriving DecidableEq, Repr

/-- Readiness (R506, R507): the bits in force, and the units that can serve but whose bit waits for the boundary (R508). -/
structure Ready where
  blk : Nat := 0
  eng : Nat := 0
  region : Nat := 0
  caseR : Nat := 0
  links : Nat := 0
  /-- Bits that set at the next boundary. -/
  blkNext : Nat := 0
  engNext : Nat := 0
  regionNext : Nat := 0
  caseNext : Nat := 0
  linksNext : Nat := 0
  /-- Bits that clear at the next boundary. -/
  blkClr : Nat := 0
  engClr : Nat := 0
  regionClr : Nat := 0
  caseClr : Nat := 0
  linksClr : Nat := 0
  /-- Case memory regions wiped in this bring-up, and regions with an uncorrected error (R508). -/
  caseBad : Nat := 0
  deriving DecidableEq, Repr

/-- A RESET_BLOCK or BLOCK_RESET in progress: the PF_WORD bit, unit, and the command to answer (R388, R480). -/
structure BlockReset where
  bit : Nat
  unit : Nat
  env : Option Env
  deriving DecidableEq, Repr

/-- A memory, update or journal image in arrival (R395, R518): bytes received so far in order, total length. -/
structure Upload where
  total : Nat
  bytes : List Byte
  deriving DecidableEq, Repr

/-- The Press (R485, R486, R519). -/
structure Press where
  /-- A pair is in service and runs an authentic image. -/
  active : Bool := false
  /-- Which of the two pairs is active. -/
  pair : Nat := 0
  /-- The standby pair is ready; it is permanently out of service. -/
  standbyReady : Bool := false
  standbyOut : Bool := false
  /-- A pair reloads: the standby (false) or the only, active one (true) (R485). -/
  reloading : Option Bool := none
  /-- The reload of the only pair failed: the cause holds until a warm reset (R485). -/
  dead : Bool := false
  /-- PRESS_ALT (R25). -/
  alt : Bool := false
  /-- The standby pair is loading the resident part of a staged image (R518). -/
  staging : Bool := false
  /-- The boot bank running, its version and that of the boot ROM's choice (R387, R419). -/
  bank : Nat := 0
  version : Nat := 0
  deriving DecidableEq, Repr

/-- The lifecycle state's codes are those of MODE_STATUS: 0 MANUFACTURE, 1 FIELD-OPEN, 2 FIELD-LOCKED, 3 RETURNED. OTP (R515..R519). -/
structure Otp where
  lc : Nat := 1
  /-- The customer key hash (48 bytes), or none (R511). -/
  customer : Option (List Byte) := none
  /-- The security floor (R519). -/
  floor : Nat := 0
  /-- Revoked Uzodel key hashes (R511). -/
  revoked : Nat := 0
  transitions : Nat := 0
  reprovisions : Nat := 0
  deriving DecidableEq, Repr

/-- A firmware bank of the boot flash (R510): the image in it, and whether the device knows it to be authentic. -/
structure Bank where
  image : List Byte := []
  authentic : Bool := false
  version : Nat := 0
  security : Nat := 0
  deriving DecidableEq, Repr

/-- One configuration copy (R514): its sequence number and its first 128 data bytes. -/
structure ConfigCopy where
  seq : Nat := 0
  authentic : Bool := false
  bytes : List Byte := []
  deriving DecidableEq, Repr

/-- A journal record before its index, CRC and boot fields are laid out (R522): kind, mode, lifecycle, PF_WORD bit,
timestamp, event ID, cause ID, block error word, die temperature, boot count, payload. -/
structure JRec where
  kind : Nat
  mode : Nat
  lc : Nat
  pfBit : Nat
  stamp : Nat
  event : Nat
  cause : Nat
  errWord : Nat
  dieTemp : Int
  boot : Nat
  payload : List Byte
  deriving DecidableEq, Repr

/-- A sector erase of the boot flash: waiting, running, or abandoned (R313, R521). -/
structure Erase where
  sector : Nat
  running : Bool
  deriving DecidableEq, Repr

/-- The boot flash (R510): banks, configuration copies, journal, customer area. -/
structure Flash where
  banks : Tab Bank := []
  configs : Tab ConfigCopy := []
  /-- Programmed journal records by record index, with their 64 bytes (R521). -/
  journal : Tab (List Byte) := []
  /-- Records written since the journal was last erased (R521). -/
  jcount : Nat := 0
  /-- Sector sequence of the next sector-start record. -/
  sectorSeq : Nat := 0
  /-- Journal sectors erased and ready; sectors whose erase was abandoned (R312, R524). -/
  erases : List Erase := []
  unknown : List Nat := []
  /-- The customer area's bytes that differ from erased (R510). -/
  customer : Tab Byte := []
  /-- Boot bank named by the newest boot-bank record (R512). -/
  bootBank : Nat := 0
  /-- The page program or erase in progress (R388). -/
  busy : Bool := false
  deriving DecidableEq, Repr

/-- Update progress (R518, R519). -/
structure Update where
  upload : Option Upload := none
  /-- The last chunk's command and whether its image is a configuration image. -/
  completing : Option Env := none
  isConfig : Bool := false
  stagedVersion : Nat := 0
  stagedSecurity : Nat := 0
  switchEnv : Option Env := none
  persist : Bool := false
  deriving DecidableEq, Repr

/-- The always-on domain (R35, R500..R503, R524): pins and memory kept while VDD_AON is present. -/
structure Aon where
  vddAon : Bool := false
  /-- PORST_N, WARM_RST_N, PG0..PG3 read high. -/
  porstHigh : Bool := false
  warmHigh : Bool := true
  pg : Nat := 0
  /-- PORST_N or a PG input was low since HELD began (R502). -/
  coldSeen : Bool := true
  bootSel : Nat := 0
  refclk : Bool := true
  perstHigh : Bool := true
  /-- The FAULT_N ball is held low by another device (R354). -/
  faultLineExt : Bool := false
  /-- SMBus address (R376). -/
  smbAddr : Nat := 0x4C
  /-- FORCE of FAULTN_CTRL (R354). -/
  force : Bool := false
  /-- The last PF_WORD before a warm reset, to be journalled (R475). -/
  snapshot : Option Nat := none
  /-- Journal records awaiting programming, oldest first, and records lost (R524). -/
  jbuf : List JRec := []
  jlost : Nat := 0
  /-- Boot count (R522). -/
  boots : Nat := 0
  /-- The device has booted since power-up; firmware version read over SMBus (R377). -/
  fwVersion : Nat := 0
  /-- Operating hours and the hour's accumulators of the die (R523): minimum, maximum, sum, count, DX maxima, seconds above 100 °C. -/
  hours : Nat := 0
  hourMin : Int := 0
  hourMax : Int := 0
  hourSum : Int := 0
  hourCount : Nat := 0
  hourDx : List Int := [0, 0, 0, 0]
  hotSeconds : Nat := 0
  /-- On-die sensors and remote diodes as last sampled (R310, R377). -/
  dieSensors : Tab Reading := []
  diodes : Tab Reading := []
  deriving DecidableEq, Repr

end Sys2Proof.Machine
end

