-- ==== Sys2Proof/Machine/TypesDev.lean ====
section
/-! DEFINITION. A channel as a whole, engines and their slots, event records and actions that wait for a frame boundary. -/

namespace Sys2Proof.Machine

/-- The part of a channel's engine state that the slot's mirror in CM0 holds (R19, R92, R118). -/
structure Mirror where
  loop : Loop := {}
  range : RangeUnit := {}
  aper : Aper := {}
  frame : Frame := {}
  arm : Arm := .parked
  deriving DecidableEq, Repr

/-- One channel. -/
structure Chan where
  /-- Owning function (R349). -/
  owner : Nat := 0
  cfg : ChanCfg := {}
  loop : Loop := {}
  arm : Arm := .parked
  /-- A CH_ARM whose frame a is not yet reached (R87, R88): the least tick of frame a and the command to answer. -/
  armReq : Option (Nat × Env) := none
  /-- The completion of an overlap change, awaiting the boundary at which the change completes (R107, R116). -/
  rangeReply : Option (Env × List Byte) := none
  /-- Frame a and settle count S of the last arming (R88). -/
  armFrame : Nat := 0
  settle : Nat := 1
  /-- Last cause code of R89, and a hard park awaiting its frame p: its cause and the least tick of p. -/
  parkCause : Nat := 0
  parkPend : Option (Nat × Nat) := none
  /-- Soft park (R90): least tick of its first frame and P while it waits; then P, frames done and the first frame's tick. -/
  softReq : Option (Nat × Nat) := none
  rampP : Nat := 0
  rampJ : Nat := 0
  rampTick : Nat := 0
  /-- A change of function across forcing paths under way (R76), and one that waits for a range change (R118). -/
  fnChange : Option FnChange := none
  fnWait : Option Nat := none
  /-- Relay settling after a change from OFF: the frame in which the loop starts (R76, R88). -/
  closing : Option Nat := none
  aper : Aper := {}
  measure : Option Measure := none
  capture : Option Capture := none
  /-- Rings bound by Q_BIND (R398). -/
  resultRing : Option Nat := none
  captureRing : Option Nat := none
  range : RangeUnit := {}
  frame : Frame := {}
  cal : CalUnit := {}
  seq : SeqCtx := {}
  mirror : Mirror := {}
  /-- Second link of a dual-homed pair in use (R184, R187). -/
  linkAlt : Bool := false
  /-- MIGRATED for the frame under way (R84), INVALID forced for the frame (R51). -/
  migrated : Bool := false
  invalid : Bool := false
  /-- Start tick of the last grant (R393). -/
  lastGrant : Nat := 0
  /-- Dissipation and rail draw of the last valid frame (R287, R297), their sums and counts in the millisecond under way, and their
  means over the last one. -/
  diss : Rat := 0
  draw : Rat := 0
  dissSum : Rat := 0
  dissCnt : Nat := 0
  dissMean : Rat := 0
  drawSum : Rat := 0
  drawCnt : Nat := 0
  drawMean : Rat := 0
  deriving DecidableEq, Repr

/-- One entry of a slot's result bank (R53): the channel, its ring, the entry's bytes; `frames` counts a capture entry's frames
and is 0 for a slug. -/
structure Entry where
  ch : Nat
  ring : Nat
  bytes : List Byte
  frames : Nat := 0
  /-- Capture: pairs per frame, range codes, folio, commit count and first conversion instant (R82). -/
  pairs : Nat := 0
  ranges : Nat := 0
  folio : Nat := 0
  commits : Nat := 0
  stamp : Nat := 0
  /-- Capture: the conversion frame, and whether it begins an aperture. -/
  frame : Nat := 0
  starts : Bool := false
  deriving DecidableEq, Repr

/-- An engine slot (R12, R53): its physical engine where it is not the reset assignment, and the two banks of its result FIFO. -/
structure Slot where
  /-- none: LEj for slot j; `some e`: engine e, where e above 71 means the slot is unserved (R93). -/
  engine : Option Nat := none
  fill : List Entry := []
  drain : List Entry := []
  /-- The frame whose compute phase the draining bank comes from. -/
  swapAt : Nat := 0
  deriving DecidableEq, Repr

/-- A physical engine (R22, R484): held faulty, last self-test passed, error line raised in this frame. -/
structure Engine where
  faulty : Bool := false
  tested : Bool := true
  errored : Bool := false
  deriving DecidableEq, Repr

/-- A CH_MIGRATE under way (R94): slot, target engine, the command, and whether the self-test has passed. -/
structure Migration where
  slot : Nat
  engine : Nat
  env : Env
  passed : Bool
  deriving DecidableEq, Repr

/-- An event for the sequence unit and the Impositor (R59, R233, R238): number, stamp, first frame whose compute phase sees it, and the
instant by which it counts in event windows: its stamp, or for an event of another device the frame before it is visible (R338). -/
structure EvRec where
  ev : Nat
  stamp : Nat
  visible : Nat
  win : Nat
  deriving DecidableEq, Repr

/-- An action accepted for a frame boundary (R60). -/
inductive Act where
  /-- The rest of an accepted command's effect. -/
  | cmd (op : Op) (c : Cmd)
  /-- The actions of an FLR of a function (R352). -/
  | flr (fn : Nat)
  /-- Removal of the functions above NumVFs (R352). -/
  | numVFs (n : Nat)
  /-- A fault reaction's spare swap (R92): the faulted engine. -/
  | spareSwap (engine : Nat)
  deriving DecidableEq, Repr

/-- A scheduled action: the least tick of its boundary, its number in the order of acceptance. -/
structure Sched where
  tick : Nat
  acc : Nat
  act : Act
  deriving DecidableEq, Repr

/-- RET_RECORD in progress (R526): ring, the command, the record's length and CRC-32. -/
structure RetJob where
  ring : Nat
  env : Env
  len : Nat
  crc : Nat
  deriving DecidableEq, Repr

/-- Levels that the device drives on its side-band outputs (R354, R355, R538) and VF_INT_SUMMARY (R353): functions of the
rest of the device, recomputed after every command. `true` is asserted (low) for the active-low balls. -/
structure Pins where
  faultN : Bool := false
  evtN : Bool := false
  smbAlertN : Bool := false
  vfSummary : Nat := 0
  /-- Frame ticks and REFCLK_OUT, REG_OUT follow the mode; the bytes last returned on SMBus (R377). -/
  smbData : List Byte := []
  deriving DecidableEq, Repr

end Sys2Proof.Machine
end

