-- ==== Sys2Proof/Machine/State.lean ====
section
/-! DEFINITION. The state of the device and of the command queue, the reasons to stop, and the state after reset. -/

namespace Sys2Proof.Machine

/-- Everything the spec gives the device. Sparse tables list what differs from the after-reset record of their index. -/
structure Device where
  aon : Aon := {}
  otp : Otp := {}
  flash : Flash := {}
  time : Timebase := {}
  mode : ModeUnit := {}
  ready : Ready := {}
  press : Press := {}
  update : Update := {}
  /-- Function pages and per-function counters, by function 0..63 (R355). -/
  fns : Tab HostFn := []
  numVFs : Nat := 0
  /-- Fast slots written and not yet taken, in order of arrival, and the instant of the last take (R368, R369). -/
  fast : List FastPending := []
  fastLast : Nat := 0
  cmd : CmdUnit := {}
  queue : QueueUnit := {}
  store : Store := {}
  mem : MemUnit := {}
  chans : Tab Chan := []
  links : Tab Link := []
  slots : Tab Slot := []
  engines : Tab Engine := []
  migrations : List Migration := []
  seq : SeqUnit := {}
  edge : EdgeUnit := {}
  arms : Tab (Option ArmSlot) := []
  imp : Impositor := {}
  reg : RegUnit := {}
  flt : Proofreader := {}
  proof : Proof := {}
  resets : List BlockReset := []
  ret : Option RetJob := none
  events : List EvRec := []
  sched : List Sched := []
  pins : Pins := {}
  /-- The model's own counter of free values drawn (DESIGN CHOICE, log 6): no rule of the spec names it. -/
  freeCtr : Nat := 0
  deriving DecidableEq, Repr

/-- The device and the queue of the commands that wait, first in, first out. -/
structure State where
  dev : Device := {}
  pending : List Instr := []
  deriving DecidableEq, Repr

/-- Reasons to stop with a fault. Every command of the table has an effect in the spec, so no meaning raises one: safe. -/
inductive Fault where
  /-- Raised by no meaning; it keeps the type inhabited. Safe. -/
  | none_
  deriving DecidableEq, Repr

/-- Reasons to refuse a command. -/
inductive Refusal where
  /-- Answered only by an arm of Dispatch.lean whose command has no meaning yet; safe, for nothing is claimed of such a command. -/
  | notModelled (mnemonic : String)
  deriving DecidableEq, Repr

/-- The device as a cold reset leaves it at release of HELD (R35, R502, R503): BRING-UP has begun, resets and power-good
inputs are high, AON is ready (R507), N is 100 (R38), timestamps count from a local epoch (R11), MODE_STATUS reads 0x2 with LC_STATE
and LOCAL_TIME (R25); every other block is at its after-reset values, which are the fields' defaults. DESIGN CHOICE (log 1): the
part is in FIELD-OPEN with blank flash and OTP, BOOT_SEL is 0, and no instant has passed. -/
def State.reset : State :=
  { dev := {
      aon := { vddAon := true, porstHigh := true, warmHigh := true, pg := 15, boots := 1 }
      mode := { phase := .bringUp, word := 0x00200102 }
      ready := { blk := 1 } }
    pending := [] }

end Sys2Proof.Machine
end

