-- ==== Sys2Proof/Machine/Ops.lean ====
section
/-! DEFINITION. Named operations on the device: access to its parts, time, the byte stores, the journal, hard parks and mode tests. -/

namespace Sys2Proof.Machine

/-! ### Access by index -/

def Device.fn (d : Device) (f : Nat) : HostFn := tabGet {} d.fns f
def Device.chan (d : Device) (i : Nat) : Chan := tabGet {} d.chans i
def Device.link (d : Device) (i : Nat) : Link := tabGet {} d.links i
def Device.slot (d : Device) (j : Nat) : Slot := tabGet {} d.slots j
def Device.engine (d : Device) (e : Nat) : Engine := tabGet {} d.engines e
def Device.zone (d : Device) (z : Nat) : Zone := tabGet {} d.imp.zones z
def Device.rail (d : Device) (r : Nat) : Rail := tabGet {} d.imp.rails r
def Device.model (d : Device) (i : Nat) : Model := tabGet {} d.imp.models i
def Device.pin (d : Device) (p : Nat) : MkPin := tabGet {} d.edge.pins p
/-- Strobe groups: SG0 is ALWAYS after reset (R266), the others on REQUEST. -/
def strobeDflt (g : Nat) : Strobe := { always := g == 0 }
def Device.strobe (d : Device) (g : Nat) : Strobe := tabGet (strobeDflt g) d.edge.strobes g
def Device.axd (d : Device) (a : Nat) : Axd := tabGet {} d.edge.axds a
def Device.mon (d : Device) (m : Nat) : Mon := tabGet {} d.edge.mons m
def Device.port (d : Device) (p : Nat) : ZPort := tabGet {} d.reg.ports p
def Device.memDev (d : Device) (m : Nat) : MemDev := tabGet {} d.mem.devs m
def Device.ring? (d : Device) (q : Nat) : Option Ring := tabFind d.queue.rings q
def Device.seg? (d : Device) (s : Nat) : Option Segment := tabGet none d.seq.segments s
def Device.share (d : Device) (i : Nat) : Share := tabGet {} d.imp.shares i

def Device.setFn (d : Device) (f : Nat) (x : HostFn) : Device := { d with fns := tabSet {} d.fns f x }
def Device.setChan (d : Device) (i : Nat) (x : Chan) : Device := { d with chans := tabSet {} d.chans i x }
def Device.setLink (d : Device) (i : Nat) (x : Link) : Device := { d with links := tabSet {} d.links i x }
def Device.setSlot (d : Device) (j : Nat) (x : Slot) : Device := { d with slots := tabSet {} d.slots j x }
def Device.setEngine (d : Device) (e : Nat) (x : Engine) : Device := { d with engines := tabSet {} d.engines e x }
def Device.setZone (d : Device) (z : Nat) (x : Zone) : Device := { d with imp := { d.imp with zones := tabSet {} d.imp.zones z x } }
def Device.setRail (d : Device) (r : Nat) (x : Rail) : Device := { d with imp := { d.imp with rails := tabSet {} d.imp.rails r x } }
def Device.setModel (d : Device) (i : Nat) (x : Model) : Device := { d with imp := { d.imp with models := tabSet {} d.imp.models i x } }
def Device.setPin (d : Device) (p : Nat) (x : MkPin) : Device := { d with edge := { d.edge with pins := tabSet {} d.edge.pins p x } }
def Device.setStrobe (d : Device) (g : Nat) (x : Strobe) : Device :=
  { d with edge := { d.edge with strobes := tabSet (strobeDflt g) d.edge.strobes g x } }
def Device.setAxd (d : Device) (a : Nat) (x : Axd) : Device := { d with edge := { d.edge with axds := tabSet {} d.edge.axds a x } }
def Device.setMon (d : Device) (m : Nat) (x : Mon) : Device := { d with edge := { d.edge with mons := tabSet {} d.edge.mons m x } }
def Device.setPort (d : Device) (p : Nat) (x : ZPort) : Device := { d with reg := { d.reg with ports := tabSet {} d.reg.ports p x } }
def Device.setMemDev (d : Device) (m : Nat) (x : MemDev) : Device := { d with mem := { d.mem with devs := tabSet {} d.mem.devs m x } }
def Device.setRing (d : Device) (q : Nat) (x : Ring) : Device := { d with queue := { d.queue with rings := tabInsert d.queue.rings q x } }
def Device.dropRing (d : Device) (q : Nat) : Device := { d with queue := { d.queue with rings := tabErase d.queue.rings q } }
def Device.setSeg (d : Device) (s : Nat) (x : Option Segment) : Device :=
  { d with seq := { d.seq with segments := tabSet none d.seq.segments s x } }
def Device.setShare (d : Device) (i : Nat) (x : Share) : Device := { d with imp := { d.imp with shares := tabSet {} d.imp.shares i x } }

/-- A channel with its loop, its ranging, its calibration or its context changed. -/
def Device.onChan (d : Device) (i : Nat) (f : Chan → Chan) : Device := d.setChan i (f (d.chan i))
def Device.onLink (d : Device) (i : Nat) (f : Link → Link) : Device := d.setLink i (f (d.link i))
def Device.onFn (d : Device) (i : Nat) (f : HostFn → HostFn) : Device := d.setFn i (f (d.fn i))
def Device.onSeq (d : Device) (i : Nat) (f : SeqCtx → SeqCtx) : Device := d.onChan i fun c => { c with seq := f c.seq }
def Device.onCal (d : Device) (i : Nat) (f : CalUnit → CalUnit) : Device := d.onChan i fun c => { c with cal := f c.cal }
def Device.onRing (d : Device) (q : Nat) (f : Ring → Ring) : Device :=
  match d.ring? q with
  | some r => d.setRing q (f r)
  | none => d

/-- Fold of an operation over a list of indices. -/
def Device.each (d : Device) (l : List Nat) (f : Device → Nat → Device) : Device := l.foldl f d

def channels : List Nat := List.range 512
def engineSlots : List Nat := List.range 64
def functions : List Nat := List.range 64

/-! ### Free values -/

/-- The next free natural number: the value, and the device with its counter advanced (log 6). -/
def Device.free (d : Device) : Nat × Device := (Config.freeNat d.freeCtr, { d with freeCtr := d.freeCtr + 1 })

/-- The next free rational value. -/
def Device.freeRat (d : Device) : Rat × Device := (Config.freeRat d.freeCtr, { d with freeCtr := d.freeCtr + 1 })

/-! ### Time (R10, R38, R56..R60) -/

/-- Length of a frame in tick units of the timebase: 160 N (R38). A slew moves the timebase within the frame (R332), so that the
frame lasts 160 N − slew units of the reference. -/
def Device.frameLen (d : Device) : Nat := 160 * d.time.n
def Device.frameLasts (d : Device) : Int := 160 * (d.time.n : Int) - d.time.slew

/-- Tick of the next frame boundary. -/
def Device.nextTick (d : Device) : Nat := d.time.tick + d.frameLen

/-- The frame period in seconds. -/
def Device.period (d : Device) : Rat := (d.time.n : Rat) / 100000000

/-- Frames of a time (at least the given least count). -/
def Device.frames (d : Device) (least : Nat) (seconds : Rat) : Nat :=
  max least (ceilF32 (seconds * 100000000 / ((max d.time.n 1 : Nat) : Rat)))

/-- Tick units of a time in seconds. -/
def unitsOf (seconds : Rat) : Nat := ceilF32 (seconds * 16000000000)

/-- Time moves to an instant; an instant outside the frame in progress is held within it, since the frame ticks are commands
of their own (DESIGN CHOICE, log 7). -/
def Device.at (d : Device) (t : Nat) : Device :=
  { d with time := { d.time with now := min (max d.time.now t) (max d.time.now (d.nextTick - 1)) } }

/-- The first frame boundary at or after `least`, of the frames that begin after frame `frame` (R60). -/
def Device.boundaryAt (d : Device) (frame least : Nat) : Nat :=
  let base := d.nextTick + (frame - d.time.frame) * (160 * d.time.n)
  if least ≤ base then base
  else base + ceilNat (((least - base : Nat) : Rat) / ((max (160 * d.time.n) 1 : Nat) : Rat)) * (160 * d.time.n)

/-- The boundary of an accepted command (R60, R559): the boundary just begun for one carried out at its NOT_BEFORE, else the
first after its frame at or after NOT_BEFORE. -/
def Device.boundary (d : Device) (c : Cmd) : Nat := if c.atNow then d.time.tick else d.boundaryAt c.frame c.nb

/-- An accepted command's remaining effect takes place at its boundary: at once for a command carried out there, else by a
scheduled action (R60). -/
def Device.atBoundary (d : Device) (op : Op) (c : Cmd) (apply : Cmd → Device → Device) : Device :=
  if c.atNow then apply c d
  else { d with sched := d.sched ++ [{ tick := d.boundary c, acc := c.acc, act := .cmd op c }] }

/-- Number of the frame that begins at a boundary tick. -/
def Device.frameOfTick (d : Device) (t : Nat) : Nat :=
  if t ≤ d.time.tick then d.time.frame
  else d.time.frame + 1 + (t - d.nextTick) / max (160 * d.time.n) 1

/-- Tick of a frame number at the present frame length. -/
def Device.tickOfFrame (d : Device) (k : Nat) : Nat :=
  if k ≤ d.time.frame then d.time.tick - (d.time.frame - k) * (160 * d.time.n)
  else d.nextTick + (k - d.time.frame - 1) * (160 * d.time.n)

/-- The link allowance L in tick units (R39): 90, 130 or 260 ns. -/
def linkAllowance (n : Nat) : Nat := if n < 50 then 1440 else if n < 100 then 2080 else 4160

/-- A phase of the frame in progress that begins at L, the upstream data held, has begun (R39, R42). -/
def Device.fromL (d : Device) : Device := d.at (d.time.tick + linkAllowance d.time.n)

/-- Digitizer pairs that the link class allows (R39). -/
def classPairs (n : Nat) : Nat := if n < 50 then 1 else if n < 100 then 4 else 16

/-! ### Byte stores (R18, R425, R447) -/

/-- One byte of a store; an address that is not listed reads 0. -/
def cellGet (m : List Host.Cell) (a : Nat) : Byte := tabGet 0 m a

/-- One byte written; the canonical form is kept. -/
def cellSet (m : List Host.Cell) (a : Nat) (b : Byte) : List Host.Cell := tabSet 0 m a b

/-- `n` bytes from an address. -/
def cellsRead (m : List Host.Cell) (a : Nat) : Nat → List Byte
  | 0 => []
  | n + 1 => cellGet m a :: cellsRead m (a + 1) n

/-- Bytes written from an address. -/
def cellsWrite : List Host.Cell → Nat → List Byte → List Host.Cell
  | m, _, [] => m
  | m, a, b :: l => cellsWrite (cellSet m a b) (a + 1) l

/-- The canonical form of a store: addresses strictly rising, no byte listed that an unlisted address reads as. -/
def Memory.wf (m : List Host.Cell) : Bool := tabWf 0 m

/-! ### Levels, readiness and modes -/

/-- Is a block's ready bit set (R507). -/
def Device.blk (d : Device) (b : Nat) : Bool := bit d.ready.blk b
def bAON := 0
def bTIMEBASE := 1
def bFABRIC := 2
def bLINKS := 3
def bSEQ := 4
def bCOLLECT := 5
def bCALIB := 6
def bIMPOS := 7
def bEDGE := 8
def bMON := 9
def bAXD := 10
def bQUEUE := 11
def bMEMCTL := 12
def bPCIE := 13
def bZHEPIN := 14
def bREG := 15
def bPRESS := 16
def bPRESSSB := 17
def bSENSORS := 18
def bFLASH := 19
def bLIFE := 20
def bHCSM := 21

/-- The device serves PCIe: not in OFF or HELD and the endpoint is ready (R507, R537). -/
def Device.pcieUp (d : Device) : Bool := d.blk bPCIE && d.aon.perstHigh

/-- The device is powered and out of reset. -/
def Device.running (d : Device) : Bool := d.mode.phase ≠ .off && d.mode.phase ≠ .held

/-- The mode is of the RUN family or PROOF or UPDATE as armed channels see it: neither SAFE nor STANDBY in normal service. -/
def Device.runFamily (d : Device) : Bool :=
  d.mode.phase == .normal && !d.mode.safe && !d.mode.standby && !d.mode.proof && !d.mode.update
def Device.inStandby (d : Device) : Bool := d.mode.phase == .normal && !d.mode.safe && d.mode.standby && !d.mode.proof && !d.mode.update
def Device.inSafe (d : Device) : Bool := d.mode.phase == .normal && d.mode.safe
def Device.inProof (d : Device) : Bool := d.mode.phase == .normal && !d.mode.safe && d.mode.proof && !d.mode.update
def Device.inUpdate (d : Device) : Bool := d.mode.phase == .normal && !d.mode.safe && d.mode.update

/-- Engines are gated as R28 gives: STANDBY, whether or not a wake is under way. -/
def Device.gated (d : Device) : Bool := d.inStandby

/-- The physical engine that runs a slot, none where the slot is unserved (R12, R93). -/
def Device.engineOf (d : Device) (j : Nat) : Option Nat :=
  match (d.slot j).engine with
  | none => some j
  | some e => if e < 72 then some e else none

/-- The slot that an engine runs (R12). -/
def Device.slotOf (d : Device) (e : Nat) : Option Nat := engineSlots.find? fun j => d.engineOf j == some e

/-- A die shutdown is in force, from the first tick after it on (R312): engines are gated; capture, calibration, scrub and rebuild stop. -/
def Device.shutDown (d : Device) : Bool := d.imp.die.shutdown && decide (d.imp.die.gateFrom ≤ d.time.frame)

/-- Is a slot not on its reset engine (SPARE of R25). -/
def Device.spareInUse (d : Device) : Bool := d.slots.any fun x => x.2.engine.isSome

def Chan.armed (c : Chan) : Bool := c.arm ≠ .parked

/-- "Any channel armed" (R36, R40): a channel in ARMING, ARMED or SOFT_PARK, or one whose CH_ARM is accepted (DEDUCED, log 17). -/
def Device.anyArmed (d : Device) : Bool := d.chans.any fun x => x.2.armed || x.2.armReq.isSome

/-- The link that a channel is served by: its own, or the other of its pair (R19, R184). -/
def Device.linkOf (d : Device) (ch : Nat) : Nat := if (d.chan ch).linkAlt then ch + 1 else ch

def Device.linkUp (d : Device) (l : Nat) : Bool := (d.link l).state == .up

/-- The descriptor by which a channel works: that of its link while the link is UP (R558). -/
def Device.desc? (d : Device) (ch : Nat) : Option Desc := if d.linkUp (d.linkOf ch) then (d.link (d.linkOf ch)).desc else none

/-! ### The fault journal (R521..R524) -/

/-- A record of the always-on buffer; a record that finds it full is lost (R524). -/
def Device.journal (d : Device) (kind mode pfBit stamp event cause errWord : Nat) (payload : List Byte) : Device :=
  let r : JRec := { kind := kind, mode := mode, lc := d.otp.lc, pfBit := pfBit, stamp := stamp, event := event, cause := cause,
                    errWord := errWord, dieTemp := (d.imp.die.temp * 16).floor, boot := d.aon.boots, payload := payload }
  if d.aon.jbuf.length < 128 then
    { d with aon := { d.aon with jbuf := d.aon.jbuf ++ [r] }, flt := { d.flt with records := d.flt.records + 1 } }
  else { d with aon := { d.aon with jlost := d.aon.jlost + 1 } }

/-- A journal record as its 64 bytes (R522). -/
def JRec.bytes (r : JRec) (index : Nat) : List Byte :=
  let body := [BitVec.ofNat 8 r.kind, BitVec.ofNat 8 r.mode, BitVec.ofNat 8 r.lc, BitVec.ofNat 8 r.pfBit] ++ le32 index ++
    le64 r.stamp ++ le32 r.event ++ le32 r.cause ++ le32 r.errWord ++ le16 (ofSigned 16 r.dieTemp) ++ le16 (r.boot % 65536) ++
    padTo 30 r.payload
  body ++ le16 (crc16 body)

/-! ### Hard parks (R89) -/

/-- A hard-park cause for a channel: its frame p is the first whose tick is at or after `least`. A channel that is parked and
has no CH_ARM accepted stays as it is; of several causes the earliest stands, at one frame the first (R482). -/
def Device.park (d : Device) (ch cause least : Nat) : Device :=
  let c := d.chan ch
  if !c.armed && c.armReq.isNone then d
  else
    match c.parkPend with
    | some (_, t) => if t ≤ least then d else d.setChan ch { c with parkPend := some (cause, least) }
    | none => d.setChan ch { c with parkPend := some (cause, least) }

/-- Hard parks of a list of channels. -/
def Device.parkAll (d : Device) (l : List Nat) (cause least : Nat) : Device := d.each l fun d ch => d.park ch cause least

/-- Channels that are listed, which holds every channel that is not at its after-reset settings. -/
def Device.usedChans (d : Device) : List Nat := d.chans.map (·.1)

/-! ### Events (R59) -/

/-- An event of this device stamped in the frame in progress: visible from the compute phase of the next frame. -/
def Device.event (d : Device) (ev stamp : Nat) : Device :=
  { d with events := d.events ++ [{ ev := ev, stamp := stamp, visible := d.time.frame + 1, win := stamp }] }

/-- MODE as reported (R23, R24, R26), from the unit's flags and the conditions of DEGRADED and DERATED. -/
def ModeUnit.code (m : ModeUnit) (degraded derated : Bool) : Nat :=
  match m.phase with
  | .off => 0
  | .held => 1
  | .bringUp => 2
  | .wipe => 10
  | .returned => 11
  | .normal =>
    if m.safe then 7 else if m.update then 9 else if m.proof then 8 else if m.standby then 3
    else if degraded then 6 else if derated then 5 else 4

end Sys2Proof.Machine
end

