-- ==== Sys2Proof/Machine/Flags.lean ====
section
/-! DEFINITION. Status words and flag computations of the device as a whole, of a ring and of a channel. -/

namespace Sys2Proof.Machine

/-- DERATE (R25): a zone, rail or the die budget is in THROTTLE or HOLD. A share's state counts at a contributor (R343). -/
def Device.derate (d : Device) : Bool :=
  d.imp.die.state ≠ 0 || d.imp.zones.any (fun z => z.2.enabled && z.2.state ≠ 0) || d.imp.rails.any (fun r => r.2.enabled && r.2.state ≠ 0)

/-- MEMRET (R25): a memory device is retired or is being rebuilt. -/
def Device.memRet (d : Device) : Bool := d.mem.devs.any fun m => m.2.state == .retired || m.2.state == .rebuilding

/-- ONE_LINK (R25, R187): a dual-homed pair of which one link alone is UP. The lower link of a pair is even (R184). -/
def Device.oneLink (d : Device) : Bool :=
  d.links.any fun l => l.2.dual && l.1 % 2 == 0 && (d.linkUp l.1 != d.linkUp (l.1 + 1))

/-- One of the flags that degrade is set (R26). -/
def Device.degraded (d : Device) : Bool := d.spareInUse || d.memRet || d.press.alt || d.oneLink

/-- MODE_STATUS from the state of the device (R25). What is reported changes at frame boundaries (R34): `mode.word`. -/
def Device.modeStatus (d : Device) : Nat :=
  d.mode.code d.degraded d.derate + d.otp.lc * 256 + flag d.derate 16 + flag d.spareInUse 17 + flag d.memRet 18 + flag d.press.alt 19 +
  flag d.oneLink 20 + flag d.time.localTime 21 + flag (d.flt.pf ≠ 0) 22 + flag d.mode.memPark 23 + flag d.mode.updStaged 24 +
  flag d.mode.updActive 25 + flag (!d.proof.injections.isEmpty || !d.proof.perturbs.isEmpty) 26 + flag d.mode.safePend 27 +
  flag d.mode.recovery 28 + flag (d.edge.mons.any fun m => m.2.wakeEn) 29

/-- DRIVE of FAULTN_CTRL (R354, R478): FORCE or an uncleared PF_WORD bit, never in OFF or HELD. -/
def Device.faultDrive (d : Device) : Bool := d.running && (d.aon.force || d.flt.pf ≠ 0)

/-- FAULTN_CTRL (R354): FORCE, DRIVE, LINE. -/
def Device.faultnCtrl (d : Device) : Nat :=
  flag d.aon.force 0 + flag d.faultDrive 1 + flag (d.faultDrive || d.aon.faultLineExt) 2

/-- A function has a cause that is both pending and enabled (R353, R355). -/
def HostFn.pendingInt (f : HostFn) : Bool := (f.intStatus &&& f.intMask) % 32 ≠ 0

/-- The outputs that follow from the rest of the device: FAULT_N (R354), EVT_N (R355), SMB_ALERT_N (R538), VF_INT_SUMMARY (R353). -/
def Device.pinsOf (d : Device) : Pins :=
  { d.pins with
    faultN := d.faultDrive
    evtN := d.running && (d.fn 0).evtn && (d.fn 0).pendingInt
    smbAlertN := d.running && (d.faultDrive || d.imp.die.state ≠ 0)
    vfSummary := d.fns.foldl (fun s f => s + flag f.2.pendingInt f.1) 0 }

/-- The device with its outputs brought into step with the rest. -/
def Device.settle (d : Device) : Device := { d with pins := d.pinsOf }

/-- The outputs agree with the state they follow from. -/
def Device.coherent (d : Device) : Bool := d.pins == d.pinsOf

/-- A meaning: an operation on the device, outputs settled; the queue is not touched. -/
def State.onDev (s : State) (f : Device → Device) : State := { s with dev := (f s.dev).settle }

/-- INJ_ONLY (R412, R496): bits all of whose uncleared events were injected. -/
def Proofreader.injOnly (p : Proofreader) : Nat :=
  (List.range 64).foldl (init := 0) fun w b =>
    let es := p.events.filter fun e => e.bit == b
    w + flag (bit p.pf b && !es.isEmpty && es.all (·.injected)) b

/-- The block error word (R472) with its fields in place. -/
def ErrWord.word (e : ErrWord) : Nat :=
  e.check + flag e.err 4 + flag e.real 5 + flag e.inj 6 + flag e.conseq 7 + e.unit * 256 + e.count * 65536

/-- Size of a ring in bytes (R425). -/
def Ring.z (r : Ring) : Nat := 4096 * 2 ^ r.size

/-- Level of a ring (R426): (HEAD − TAIL) modulo 2^32. -/
def Ring.level (r : Ring) : Nat := (r.headA + 2 ^ 32 - r.tailA) % 2 ^ 32

/-- WM_LIVE (R434): a STREAM ring's level is below W. -/
def Ring.wmLive (r : Ring) : Bool := r.kind == 5 && decide (r.level < r.watermark)

/-- The control word of a queue descriptor (R435). -/
def Ring.control (r : Ring) (pinned : Bool) : Nat :=
  r.kind + r.size * 8 + flag r.pool 8 + flag true 9 + flag r.npkt 10 + flag r.nwm 11 + flag r.irq 12 + flag r.full 13 +
  flag r.overrun 14 + flag r.badptr 15 + flag r.wmLatch 16 + flag r.wmLive 17 + flag r.qptr 18 + flag r.halt 19 + flag r.admin 20 +
  flag pinned 21

/-- The 64-byte queue descriptor (R435). -/
def Ring.descriptor (r : Ring) (qid : Nat) (pinned : Bool) : List Byte :=
  le32 (r.control pinned) ++ le32 (qid + r.fn * 2 ^ 20) ++ le32 (r.doorbell + r.vector * 2 ^ 13) ++ le32 r.watermark ++
  le64 r.hostAddr ++ le64 r.devAddr ++ le32 r.headA ++ le32 r.tailA ++ le32 r.headB ++ le32 r.tailB ++ le32 r.packets ++
  le32 (r.peerQ + r.peerDev * 2 ^ 20) ++ le32 r.openPos ++ zeros 4

/-- A descriptor is pinned (R436): admin rings, rings bound by Q_BIND, FM_STREAM_BIND or TRIG_CONFIG, CROSS_DEVICE rings; a ring
bound to a channel under perturbation kind 4 is not (R497). -/
def Device.bound (d : Device) (q : Nat) : Bool :=
  d.chans.any (fun c => c.2.resultRing == some q || c.2.captureRing == some q) ||
  d.seq.segments.any (fun s => match s.2 with | some g => g.ring == some q | none => false) ||
  d.edge.pins.any (fun p => p.2.capEn && p.2.ring == q)

def Device.unpinned (d : Device) (q : Nat) : Bool :=
  d.proof.perturbs.any fun p => p.kind == 4 &&
    ((d.chan p.unit).resultRing == some q || (d.chan p.unit).captureRing == some q)

def Device.pinned (d : Device) (q : Nat) : Bool :=
  match d.ring? q with
  | none => false
  | some r => (r.admin || r.kind == 6 || d.bound q) && !d.unpinned q

/-- Codes of arming and range states in CH_STATUS (R393). -/
def Arm.code : Arm → Nat | .parked => 0 | .arming => 1 | .armed => 2 | .softPark => 3
def RState.code : RState → Nat | .steady => 0 | .ovMake => 1 | .ovCompare => 2 | .ovFade => 3 | .hsHold => 4
def Compl.code : Compl → Nat | .none => 0 | .pos => 1 | .neg => 2

/-- The channel status word (R393). -/
def Device.chStatusWord (d : Device) (ch : Nat) (delay3 : Bool) : Nat :=
  let c := d.chan ch
  let reqs := d.imp.requests.filter fun r => r.ch == ch
  c.arm.code + c.cfg.func * 4 + c.range.v * 32 + c.range.i * 256 + c.loop.compl.code * 4096 + flag delay3 14 + c.parkCause * 2 ^ 15 +
  c.range.state.code * 2 ^ 18 + flag c.range.mismatch 21 + flag (d.link ch).dual 22 + flag c.linkAlt 23 +
  flag (reqs.any fun r => !r.granted) 24 + flag (reqs.any fun r => r.granted && decide (d.time.frame < r.start)) 25 + flag c.seq.defto 26 +
  flag c.range.autoV 27 + flag c.range.autoI 28 + flag c.range.ovEn 29

end Sys2Proof.Machine
end

