-- ==== Sys2Proof/Machine/OpsRing.lean ====
section
/-! DEFINITION. Error lines and the Proofreader's latch (R472..R477, R489, R495), interrupts, rings and their packets (R426..R440),
notices (R374, R437) and replies (R364). -/

namespace Sys2Proof.Machine

/-! ### Error lines -/

/-- Place of a unit's block error word (R472): engines, links, memory devices, one unit for each other bit. -/
def errIndex (bit unit : Nat) : Nat :=
  if bit ≤ 8 then 8 * bit + unit else if bit ≤ 40 then 72 + 16 * (bit - 9) + unit
  else if bit ≤ 45 then 584 + (bit - 41) else 600 + bit

/-- The reaction of a bit after reset (R479). -/
def reactionReset (b : Nat) : Nat :=
  if b ≤ 8 then 4 else if b = 46 ∨ b = 47 ∨ b = 51 ∨ b = 60 ∨ b = 61 ∨ b = 63 then 6 else 1

/-- The reactions that a bit allows (R479), by code. -/
def reactionsAllowed (b : Nat) : List Nat :=
  if b ≤ 8 then [0, 1, 2, 3, 4, 6] else if b ≤ 40 then [0, 1, 2, 3, 6] else if b ≤ 45 then [0, 1, 2, 6]
  else if b = 46 ∨ b = 51 ∨ b = 60 ∨ b = 61 ∨ b = 63 then [1, 6] else if b = 47 then [1, 2, 6]
  else if b = 48 ∨ b = 56 then [0, 1, 2, 6] else if b = 50 ∨ b = 62 then [0, 1, 5] else if b = 55 then [0, 1, 5, 6]
  else [0, 1, 6]

def Proofreader.reaction (p : Proofreader) (b : Nat) : Nat := tabGet (reactionReset b) p.reactions b

/-- The reported MODE of the moment. -/
def Device.modeCode (d : Device) : Nat := d.mode.code d.degraded d.derate

/-- Never consequential (R491): bits 59..61, the Proofreader self-compare, a lockstep mismatch, REAL with INJ. -/
def neverConseq (e : ErrEvent) : Bool :=
  e.bit.val == 59 || e.bit.val == 60 || e.bit.val == 61 || e.check.toNat == 5 || (e.real && e.inj)

/-- The shadow in which an event lies, if any (R489). -/
def Device.shadowOf (d : Device) (e : ErrEvent) : Option Shadow :=
  if neverConseq e then none
  else match e.fedBy with
    | some b => d.flt.shadows.find? fun s => s.block == b
    | none => none

/-- Second of the timebase in which an instant lies, for the journal's rate (R474). -/
def secondOf (t : Nat) : Nat := t / 16000000000

/-- The earliest uncleared event's stamp (R412), 0 for none. -/
def earliestOf (l : List Event) : Nat :=
  match l with
  | [] => 0
  | e :: l => l.foldl (fun m x => min m x.stamp) e.stamp

/-- An error line rises (R474, R476, R481, R489): the error word of the unit, an event ID, the journal within its rate, and, unless the
event is consequential, the PF_WORD bit and the latch with the reaction configured at this instant (R483). `ov` is a reaction that the
rules fix whatever is configured (R312, R487), `from_` the ID of the event that caused this one where it is known (R490). -/
def Device.raiseErrAs (d : Device) (e : ErrEvent) (t : Nat) (ov : Option Nat) (from_ : Nat) : Device :=
  let b := e.bit.val
  let id := d.flt.nextId
  let sh := d.shadowOf e
  let ix := errIndex b e.unit.val
  let w := tabGet {} d.flt.words ix
  let w : ErrWord := { check := e.check.toNat, err := true, real := e.real, inj := e.inj, conseq := sh.isSome,
                       unit := e.unit.val, count := min 65535 (w.count + 1) }
  let cause := match sh with | some s => s.cause | none => from_
  let fresh := secondOf t ≠ d.flt.rateFrom
  let rate := if fresh then [] else d.flt.rate
  let n := tabGet 0 rate b
  let react := if d.mode.phase = .returned then 0 else ov.getD (d.flt.reaction b)
  let events := d.flt.events ++ [{ id := id, bit := b, stamp := t, injected := e.inj && !e.real }]
  let flt := { d.flt with
    nextId := if id = 2 ^ 32 - 1 then 1 else id + 1
    words := tabSet {} d.flt.words ix w
    rate := tabSet 0 rate b (min 16 (n + 1))
    rateFrom := secondOf t }
  let flt :=
    if sh.isSome then { flt with shadowFlags := setBit flt.shadowFlags b, conseq := flt.conseq ++ [(e, cause)] }
    else { flt with pf := setBit flt.pf b, events := events, earliest := earliestOf events,
                    latched := flt.latched ++ [{ ev := e, id := id, stamp := t, reaction := react, pf := setBit flt.pf b }] }
  let d := { d with flt := flt }
  let d := if b ≤ 8 then d.setEngine (8 * b + e.unit.val) { d.engine (8 * b + e.unit.val) with errored := true } else d
  if n < 16 then
    d.journal 1 d.modeCode b t id cause w.word [BitVec.ofNat 8 react, BitVec.ofNat 8 (flag sh.isSome 0 + flag e.inj 1)]
  else d

def Device.raiseErr (d : Device) (e : ErrEvent) (t : Nat) : Device := d.raiseErrAs e t none 0

/-- An error event without injection, shadow feed or channel. -/
def plainErr (bit : Fin 64) (unit : Fin 16) (check : BitVec 4) : ErrEvent :=
  { bit := bit, unit := unit, check := check, real := true, inj := false, fedBy := none, ch := none, region := 0, word := .other }

/-- A unit's error line by PF_WORD bit number and unit number; numbers out of range, which no caller has, name bit 0. -/
def errAt (bit unit check : Nat) (ch : Option Nat) : ErrEvent :=
  { plainErr (Fin.ofNat 64 bit) (Fin.ofNat 16 unit) (BitVec.ofNat 4 check) with ch := ch.map (Fin.ofNat 512) }

/-- A detection that the governing rule corrects counts in COUNT and leaves ERR clear (R473). -/
def Device.countDetection (d : Device) (bit unit check : Nat) : Device :=
  let ix := errIndex bit unit
  let w := tabGet {} d.flt.words ix
  let w' := { w with check := check, real := true, inj := false, conseq := false, unit := unit, count := min 65535 (w.count + 1) }
  { d with flt := { d.flt with words := tabSet {} d.flt.words ix w' } }

/-! ### Interrupts (R353, R355) -/

/-- A request of an MSI-X vector: sent, or pending while its entry is masked. -/
def Device.msi (d : Device) (f v : Nat) : Device :=
  if 64 ≤ v then d
  else d.onFn f fun x => if (tabGet {} x.msix v).mask then { x with pba := setBit x.pba v } else { x with msixSent := v :: x.msixSent }

/-- A cause of INT_STATUS becomes pending; where INT_MASK enables it, vector 0 is requested (R355). -/
def Device.cause (d : Device) (f b : Nat) : Device :=
  let x := d.fn f
  let d' := d.setFn f { x with intStatus := setBit x.intStatus b }
  if bit x.intMask b && !bit x.intStatus b then d'.msi f 0 else d'

/-! ### Ring storage (R425, R426) -/

/-- Bytes of a ring's storage from pointer `p`, wrapping at its end. -/
def Device.ringGet (d : Device) (r : Ring) (p n : Nat) : List Byte :=
  let m := if r.pool then d.store.pool else d.store.mem
  let o := p % r.z
  let k := min n (r.z - o)
  cellsRead m (r.devAddr + o) k ++ cellsRead m r.devAddr (n - k)

/-- Bytes written into one store from pointer `p` of a ring, wrapping at its end. -/
def Ring.put (r : Ring) (m : List Host.Cell) (base p : Nat) (l : List Byte) : List Host.Cell :=
  let o := p % r.z
  let k := r.z - o
  cellsWrite (cellsWrite m (base + o) (l.take k)) base (l.drop k)

/-- Bytes written into a ring's device storage, and into its host buffer where the device produces (R357, R429). -/
def Device.ringPut (d : Device) (r : Ring) (p : Nat) (l : List Byte) (host : Bool) : Device :=
  let st := if r.pool then { d.store with pool := r.put d.store.pool r.devAddr p l } else { d.store with mem := r.put d.store.mem r.devAddr p l }
  { d with store := if host && r.kind ≠ 6 then { st with host := r.put st.host r.hostAddr p l } else st }

/-- Is the ring host-produced (R424). -/
def Ring.hostProduced (r : Ring) : Bool := r.kind == 0 || r.kind == 5

/-- Pointers, open packet and pass-over spans after a reset of the ring (R426, R435, R440). -/
def Ring.restart (r : Ring) : Ring :=
  { r with headA := 0, tailA := 0, headB := 0, tailB := 0, packets := 0, openPos := 0, skips := [], nextSeq := 0, lastFolio := none }

/-- Q_RESET of a ring (R435): pointers 0, flags cleared. -/
def Ring.cleared (r : Ring) : Ring :=
  { r.restart with full := false, overrun := false, badptr := false, wmLatch := false, qptr := false, halt := false }

/-- The zero slot at offset 0 of the ring and of its host buffer (R429). -/
def Device.zeroSlot (d : Device) (r : Ring) : Device := d.ringPut r 0 (zeros 4) true

/-- Bytes that a packet of `n` body bytes occupies after its length word (R428). -/
def padded (n : Nat) : Nat := 4 * ((n + 3) / 4)

/-- A whole packet fits (step 1 of R429). -/
def Ring.fits (r : Ring) (n : Nat) : Bool := decide (r.level + 4 + padded n + 4 ≤ r.z)

/-- The function whose event ring is `q`, if it is one (R356). -/
def eventRingOf (q : Nat) : Option Nat := if q < 256 ∧ q % 4 = 2 then some (q / 4) else none

/-- Does main memory take what the collector writes: not while a rate change holds the ports, nor out of service (R461, R467). -/
def Device.memTakes (d : Device) (r : Ring) : Bool :=
  r.pool || (!d.mem.outOfService && !((match d.mem.freq with | some f => f.running | none => false) && (r.kind == 2 || r.kind == 3 || r.kind == 6)))

/-- A device-side packet written whole or counted lost (R429, R430, R432), without the pointer compare. With PCIE_PERST_N low a ring
with a host buffer loses it (R537). `entries` is what the packet would have held; `irq` asks for the ring's vector. -/
def Device.produceRaw (d : Device) (q : Nat) (body : List Byte) (entries : Nat) (irq : Bool) : Device × Bool :=
  match d.ring? q with
  | none => (d, false)
  | some r =>
    if r.fits body.length && (r.kind == 6 || d.pcieUp) && d.memTakes r then
      let n := padded body.length
      let h := (r.headA + 4 + n) % 2 ^ 32
      let d := d.ringPut r (r.headA + 4) (padTo n body) true
      let d := d.ringPut r (r.headA + 4 + n) (zeros 4) true
      let d := d.ringPut r r.headA (le32 body.length) true
      let d := d.setRing q { r with headA := h, headB := h, openPos := h, packets := (r.packets + 1) % 2 ^ 32 }
      (if irq && r.irq && r.npkt then d.msi r.fn r.vector else d, true)
    else
      let d := d.setRing q { r with full := true, lost := r.lost + entries }
      (match eventRingOf q with | some f => d.cause f 4 | none => d, false)

/-- The forced reset of a pointer mismatch (R440), without its notice: QPTR, a partial packet counted, HALT for a host-produced
ring, the block status count and PF_WORD bit 58. -/
def Device.mismatchReset (d : Device) (q : Nat) (inj real : Bool) : Device :=
  match d.ring? q with
  | none => d
  | some r =>
    let r' := { r.restart with qptr := true, partials := r.partials + 1, halt := r.halt || r.hostProduced }
    let d := (d.setRing q r').zeroSlot r'
    let d := { d with queue := { d.queue with resets := d.queue.resets + 1 } }
    d.raiseErr { errAt 58 0 4 none with inj := inj, real := real } d.time.now

/-- The copies of a pointer differ (R440). -/
def Ring.mismatch (r : Ring) : Bool := r.headA ≠ r.headB || r.tailA ≠ r.tailB

/-- Does an injection of class 3 on bit 58 bear on a ring: the channel is designated and the ring bound to it (R493). -/
def Device.ptrInjected (d : Device) (q : Nat) (i : Injection) : Bool :=
  i.cls == 3 && i.bit == 58 && decide (0 < i.left) && ((d.chan i.unit).resultRing == some q || (d.chan i.unit).captureRing == some q)

/-- One affected check cycle of every injection on the ring's pointers is used up (R493, R494). -/
def Device.usePtrInjection (d : Device) (q : Nat) : Device :=
  { d with proof := { d.proof with injections :=
      (d.proof.injections.map fun i => if d.ptrInjected q i then { i with left := i.left - 1 } else i).filter fun i => decide (0 < i.left) } }

/-! ### Notices (R374, R375, R437) -/

/-- A notice on a function's event ring: folio counted whether or not it is written, EVENT for an enabled kind, EVT_LOST for a lost
one. A function whose event ring is not in service takes none. -/
def Device.notice (d : Device) (f kind index stamp : Nat) (payload : List Byte) : Device :=
  let q := 4 * f + 2
  match d.ring? q with
  | none => d
  | some r =>
    let d := if r.mismatch then d.mismatchReset q false true else d
    let x := d.fn f
    let body := le16 kind ++ le16 index ++ le32 x.evtFolio ++ le64 stamp ++ padTo 16 payload
    let d := d.setFn f { x with evtFolio := (x.evtFolio + 1) % 2 ^ 32 }
    let (d, ok) := d.produceRaw q body 1 true
    if ok && bit x.noticeMask kind then d.cause f 1 else d

/-- A queue notice (R437); a cause on an event ring counts as a lost notice instead. -/
def Device.queueNotice (d : Device) (q code : Nat) : Device :=
  match d.ring? q with
  | none => d
  | some r =>
    match eventRingOf q with
    | some f =>
      let d := d.setRing q { r with lost := r.lost + 1 }
      (d.onFn f fun x => { x with evtFolio := (x.evtFolio + 1) % 2 ^ 32 }).cause f 4
    | none => d.notice r.fn 9 0 d.time.now (le32 q ++ [BitVec.ofNat 8 code] ++ zeros 3 ++ le32 r.headA ++ le32 r.tailA)

/-- The pointer compare made at each use of a ring (R440). -/
def Device.checkPtr (d : Device) (q : Nat) : Device :=
  match d.ring? q with
  | none => d
  | some r =>
    let inj := d.proof.injections.any (d.ptrInjected q)
    if r.mismatch || inj then ((d.usePtrInjection q).mismatchReset q inj r.mismatch).queueNotice q 3 else d

/-- A device-side packet: pointer compare, then written or lost. -/
def Device.produce (d : Device) (q : Nat) (body : List Byte) (entries : Nat) (irq : Bool) : Device × Bool :=
  (d.checkPtr q).produceRaw q body entries irq

/-! ### Replies (R363..R365) -/

def stOK := 0x0000
def stACCEPTED := 0x0001
def stBAD_OPCODE := 0x0100
def stBAD_LENGTH := 0x0101
def stBAD_PARAM := 0x0102
def stBAD_TARGET := 0x0103
def stBUSY := 0x0200
def stBUSY_TRAINING := 0x0201
def stNOT_READY := 0x0300
def stWRONG_MODE := 0x0301
def stLOCKED := 0x0302
def stBUDGET_REFUSED := 0x0400
def stFRAME_BUDGET := 0x0401
def stFAULT_ACTIVE := 0x0500
def stDENIED := 0x0600
def stJUMP_DEFERRED := 0x0700

/-- A reply packet's body (R364). -/
def replyBody (e : Env) (status : Nat) (payload : List Byte) (interim : Bool) (written : Nat) : List Byte :=
  le16 e.opcode ++ le16 status ++ le32 (32 + payload.length) ++ le32 e.folio ++ le32 e.target ++
  le32 (e.source + flag interim 20 + flag e.gap 21) ++ le32 e.seq ++ le64 written ++ payload

/-- Replies of a function are discarded for commands accepted below a number (R352, R378). -/
def CmdUnit.discards (c : CmdUnit) (e : Env) : Bool := c.discard.any fun x => x.1 == e.fn && decide (e.acc < x.2.1) && (!x.2.2 || e.source % 2 ^ 20 == 4 * e.fn)

/-- A fast command's reply finds no space beside what firmware commands have reserved (R365): it is counted lost. -/
def Device.fastReplyLost (d : Device) (e : Env) (q n : Nat) : Bool :=
  bit e.source 22 && match d.ring? q with | some r => decide (r.z < r.level + r.reserved + 4 + padded n + 4) | none => false

/-- A reply is written, unless NOREPLY suppresses it or it is discarded. A reply ring that no longer exists gives way to the
admin reply ring (R378). A final reply ends the command and frees the space reserved for it (R365, R367). -/
def Device.reply (d : Device) (e : Env) (status : Nat) (payload : List Byte) (interim : Bool) : Device :=
  let q := if (d.ring? e.rq).isSome then e.rq else 4 * e.fn + 1
  let quiet := (e.noreply && (interim || status == stOK)) || d.cmd.discards e
  let d :=
    if quiet then d
    else
      let body := replyBody e status payload interim d.time.now
      if d.fastReplyLost e q body.length then d.onRing q fun r => { r with full := true, lost := r.lost + 1 }
      else
        let (d, ok) := d.produce q body 1 e.irq
        if ok && q == 4 * e.fn + 1 then d.cause e.fn 0 else d
  if interim then d
  else
    let own := d.cmd.outstanding.filter fun x => x.1 == e
    let d := { d with cmd := { d.cmd with outstanding := d.cmd.outstanding.filter fun x => x.1 ≠ e } }
    own.foldl (fun d x => d.onRing e.rq fun r => { r with reserved := r.reserved - x.2 }) d

/-- A completion or refusal of a long command. -/
def Device.final (d : Device) (e : Env) (status : Nat) (payload : List Byte) : Device := d.reply e status payload false

/-- The same for a command that may have none. -/
def Device.final? (d : Device) (e : Option Env) (status : Nat) (payload : List Byte) : Device :=
  match e with
  | some e => d.final e status payload
  | none => d

end Sys2Proof.Machine
end

