-- ==== Sys2Proof/Machine/Operands.lean ====
section
/-! DEFINITION. Operand forms of commands: the packet header (R360), the opcodes with their scopes, flags, lengths, permissions and
modes (R351, R361, R379..R422), and the shape of an opcode's checks. -/

namespace Sys2Proof.Machine

/-! ### The packet header (R360) -/

def Packet.opcode (l : List Byte) : Nat := u16At l 0
def Packet.flags (l : List Byte) : Nat := byteAt l 2
def Packet.version (l : List Byte) : Nat := byteAt l 3
def Packet.length (l : List Byte) : Nat := u32At l 4
def Packet.folio (l : List Byte) : Nat := u32At l 8
def Packet.target (l : List Byte) : Nat := u32At l 12
def Packet.replyQ (l : List Byte) : Nat := u32At l 16
def Packet.notBefore (l : List Byte) : Nat := u64At l 24

/-- Opcode codes (R386..R422). -/
def Op.code : Op → Nat
  | .nop => 0x0000 | .identify => 0x0001 | .getMode => 0x0002 | .setMode => 0x0003 | .getReady => 0x0004
  | .setFrame => 0x0010 | .getTime => 0x0011 | .resetBlock => 0x0020
  | .chConfig => 0x0100 | .chFunction => 0x0101 | .chSetpoint => 0x0102 | .chLimits => 0x0103 | .chRange => 0x0104
  | .chAutorange => 0x0105 | .chArm => 0x0106 | .chPark => 0x0107 | .chMeasure => 0x0108 | .chAperture => 0x0109
  | .chStatus => 0x010A | .chStrobe => 0x010B | .chMigrate => 0x010C
  | .fmLoad => 0x0200 | .fmSegment => 0x0201 | .fmLockup => 0x0202 | .fmStart => 0x0203 | .fmStop => 0x0204
  | .fmJump => 0x0205 | .fmStreamBind => 0x0206 | .fmStatus => 0x0207 | .fmRelease => 0x0208
  | .qCreate => 0x0300 | .qDestroy => 0x0301 | .qReset => 0x0302 | .qStatus => 0x0303 | .qNotify => 0x0304 | .qBind => 0x0305
  | .imZone => 0x0400 | .imRail => 0x0401 | .imModel => 0x0402 | .imSensor => 0x0403 | .imStatus => 0x0404 | .imPolicy => 0x0405
  | .calMode => 0x0500 | .calStatus => 0x0501 | .calCommit => 0x0502 | .calRead => 0x0503 | .calWrite => 0x0504 | .calPersist => 0x0505
  | .tsWrite => 0x0600 | .tsSelect => 0x0601 | .mkRoute => 0x0602 | .trigConfig => 0x0603
  | .regJoin => 0x0610 | .regStatus => 0x0611 | .regSkew => 0x0612 | .regArmAt => 0x0613
  | .monConfig => 0x0700 | .monStatus => 0x0701 | .axdWrite => 0x0710 | .axdStrobe => 0x0711
  | .fltStatus => 0x0800 | .fltClear => 0x0801 | .fltReaction => 0x0802 | .fltLog => 0x0803
  | .memStatus => 0x0900 | .memDelays => 0x0901 | .memScan => 0x0902 | .memFreq => 0x0903 | .memRetire => 0x0904
  | .memRead => 0x0905 | .memWrite => 0x0906
  | .lcStatus => 0x0A00 | .lcAdvance => 0x0A01 | .updStage => 0x0A10 | .updSwitch => 0x0A11 | .retRecord => 0x0A20
  | .prfEnter => 0x0B00 | .prfInject => 0x0B01 | .prfPerturb => 0x0B02 | .prfExit => 0x0B03
  | .elStatus => 0x0C00 | .elDescriptor => 0x0C01 | .elPair => 0x0C02 | .elSkew => 0x0C03 | .elReset => 0x0C04

/-- Bits of FLAGS[7:4] that the opcode defines (R384), as a four-bit mask. -/
def Op.flagMask : Op → Nat
  | .chConfig => 3 | .chPark => 1 | .fmSegment => 3 | .fmStatus => 1 | .qStatus => 1 | .calCommit => 3 | .trigConfig => 3
  | .monStatus => 1 | .memDelays => 1 | .memRetire => 1 | .elStatus => 1 | .elPair => 3 | .elReset => 3 | _ => 0

/-- A flag value within the mask that the entry calls reserved: SECTION 2 and 3 of CH_CONFIG (R390), OP 3 of FM_SEGMENT (R396). -/
def Op.flagReserved (op : Op) (f : Nat) : Bool := (op == .chConfig && decide (2 ≤ f)) || (op == .fmSegment && f == 3)

/-- Opcodes that take ASSIGN (R350). -/
def Op.assignable : Op → Bool
  | .chConfig | .imZone | .imRail | .mkRoute | .chStrobe | .axdWrite | .monConfig | .qCreate => true
  | _ => false

/-- Opcodes allowed in a fast slot (R368). -/
def Op.fastAllowed : Op → Bool
  | .chSetpoint | .chStrobe | .fmJump | .axdStrobe => true
  | _ => false

/-- Opcodes marked long (R382): they reply ACCEPTED first. -/
def Op.isLong : Op → Bool
  | .resetBlock | .chRange | .chMeasure | .fmLockup | .calPersist | .tsWrite | .regJoin | .fltLog | .memScan | .memFreq
  | .memRetire | .updStage | .updSwitch | .retRecord => true
  | _ => false

/-- Largest interim and final payloads together, in bytes (R365). -/
def Op.replyMax : Op → Nat
  | .identify => 64 | .getMode => 16 | .getReady => 256 | .setFrame => 16 | .getTime => 24 | .resetBlock => 8
  | .chRange => 32 | .chMeasure => 24 | .chStatus => 32 | .chArm => 12 | .chConfig | .chFunction | .chAutorange => 12
  | .fmLockup => 12 | .fmStatus => 80 | .qStatus => 72 | .qCreate => 8 | .imStatus => 52 | .calStatus => 40 | .calCommit => 16
  | .calRead => 1056 | .calPersist => 12 | .regJoin => 16 | .regStatus => 72 | .monStatus => 24 | .fltStatus => 40 | .fltLog => 4104
  | .memStatus => 96 | .memDelays => 128 | .memScan => 12 | .memRead => 4096 | .lcStatus => 16 | .updSwitch => 12
  | .elStatus => 16 | .elDescriptor => 256 | .elSkew => 12 | .trigConfig => 12 | .prfPerturb => 12 | _ => 8

/-- The opcode of a code (step 2 of R362). -/
def opOfCode (c : Nat) : Option Op :=
  [Op.nop, .identify, .getMode, .setMode, .getReady, .setFrame, .getTime, .resetBlock, .chConfig, .chFunction, .chSetpoint,
   .chLimits, .chRange, .chAutorange, .chArm, .chPark, .chMeasure, .chAperture, .chStatus, .chStrobe, .chMigrate, .fmLoad,
   .fmSegment, .fmLockup, .fmStart, .fmStop, .fmJump, .fmStreamBind, .fmStatus, .fmRelease, .qCreate, .qDestroy, .qReset,
   .qStatus, .qNotify, .qBind, .imZone, .imRail, .imModel, .imSensor, .imStatus, .imPolicy, .calMode, .calStatus, .calCommit,
   .calRead, .calWrite, .calPersist, .tsWrite, .tsSelect, .mkRoute, .trigConfig, .regJoin, .regStatus, .regSkew, .regArmAt,
   .monConfig, .monStatus, .axdWrite, .axdStrobe, .fltStatus, .fltClear, .fltReaction, .fltLog, .memStatus, .memDelays,
   .memScan, .memFreq, .memRetire, .memRead, .memWrite, .lcStatus, .lcAdvance, .updStage, .updSwitch, .retRecord, .prfEnter,
   .prfInject, .prfPerturb, .prfExit, .elStatus, .elDescriptor, .elPair, .elSkew, .elReset].find? fun o => o.code == c

/-! ### Scope and index (R360, R384) -/

/-- Index limits of the device scope: the pin, comparator, AXD or slot number where the opcode names one, else 0 alone. -/
def Op.deviceIndexes : Op → Nat
  | .mkRoute | .trigConfig | .monConfig | .monStatus => 64
  | .axdWrite | .regArmAt => 16
  | _ => 1

/-- AXD_WRITE and CH_STROBE name a number in the target only with ASSIGN: AXD_WRITE's own form carries a mask, index 0. -/
def Op.scopeOk (op : Op) (c : Cmd) : Bool :=
  let dev (n : Nat) := c.scope == 0 && decide (c.idx < n)
  let chan := c.scope == 1 && decide (c.idx < 512)
  let zone := c.scope == 3 && decide (c.idx < 64)
  let die := c.scope == 3 && c.idx == 64
  let rail := c.scope == 3 && decide (256 ≤ c.idx ∧ c.idx < 288)
  let calGroup := c.scope == 2 && decide (1 ≤ c.idx ∧ c.idx ≤ 255)
  match op with
  | .chConfig | .chFunction | .chSetpoint | .chLimits | .chRange | .chAutorange | .chArm | .chMeasure | .chAperture | .chStatus
  | .fmLoad | .fmLockup | .fmStart | .fmStop | .fmJump | .fmStreamBind | .fmRelease | .qBind | .imModel
  | .calMode | .calWrite | .calPersist | .elStatus | .elDescriptor | .elPair | .elSkew | .elReset => chan
  | .chPark => chan || dev 1
  | .chStrobe => if c.assign then c.scope == 2 && decide (c.idx < 16) else dev 1
  | .fmStatus => if c.opf == 1 then dev 1 else chan
  | .imZone | .imSensor => zone
  | .imRail => rail
  | .imStatus => zone || die || rail
  | .imPolicy => chan || dev 1 || zone || rail
  | .calStatus | .calCommit => chan || calGroup
  | .calRead => chan || dev 1
  | .tsSelect => chan || dev 1
  | .axdWrite => if c.assign then dev 16 else dev 1
  | o => dev o.deviceIndexes

/-! ### Permission and ownership (R351) -/

/-- PF-only commands (R351). -/
def Op.pfOnly (op : Op) (c : Cmd) : Bool :=
  c.assign ||
  match op with
  | .setMode | .setFrame | .resetBlock | .chMigrate | .tsWrite | .regJoin | .regStatus | .regSkew | .regArmAt | .fltClear
  | .fltReaction | .memDelays | .memScan | .memFreq | .memRetire | .memRead | .memWrite | .lcAdvance | .updStage | .updSwitch
  | .retRecord | .prfEnter | .prfInject | .prfPerturb | .prfExit | .elSkew | .elReset => true
  | .tsSelect => c.scope == 0
  | .imPolicy => c.scope ≠ 1
  | _ => false

/-- Commands that the PF may send to any function's resource (R351). -/
def Op.pfAny : Op → Bool
  | .chPark | .chStatus | .fmStatus | .imStatus | .elStatus | .qStatus | .monStatus => true
  | _ => false

/-- The owner of the resource that the target names, where it names one (R349). -/
def Device.targetOwner (d : Device) (op : Op) (c : Cmd) : Option Nat :=
  if c.scope = 1 then some (d.chan c.idx).owner
  else if c.scope = 3 then
    if c.idx < 64 then some (d.zone c.idx).owner else if 256 ≤ c.idx then some (d.rail (c.idx - 256)).owner else none
  else if c.scope = 2 then
    match op with
    | .chStrobe => some (d.strobe c.idx).owner
    | _ => none
  else
    match op with
    | .mkRoute | .trigConfig => some (d.pin c.idx).owner
    | .monConfig | .monStatus => some (d.mon c.idx).owner
    | .axdWrite => if c.assign then some (d.axd c.idx).owner else none
    | _ => none

/-- Step 7 of R362. -/
def Device.ownsTarget (d : Device) (op : Op) (c : Cmd) : Bool :=
  match d.targetOwner op c with
  | none => true
  | some f => f == c.env.fn || (c.env.fn == 0 && op.pfAny)

/-! ### Parameter length (R361, R379) -/

/-- The parameter length that an opcode's form asks for: exact, or trailing lengths that the rule allows. -/
def Op.lengthOk (op : Op) (c : Cmd) : Bool :=
  let n := c.par.length
  if c.assign then n == if op == .qCreate then 8 else 4
  else
    match op with
    | .nop | .identify | .getMode | .getReady | .getTime | .chArm | .chStatus | .fmLockup | .fmStart | .fmStop | .fmRelease
    | .imStatus | .calStatus | .calCommit | .calPersist | .regStatus | .monStatus | .fltStatus | .memStatus | .lcStatus | .prfExit
    | .elStatus | .elPair | .elReset => n == 0
    | .setMode | .setFrame | .chFunction | .chPark | .chMeasure | .chStrobe | .chMigrate | .fmJump | .qDestroy | .qReset | .qStatus
    | .tsSelect | .mkRoute | .axdStrobe | .fltReaction | .memScan | .memFreq | .updSwitch | .retRecord | .elDescriptor | .elSkew => n == 4
    | .resetBlock | .chSetpoint | .chRange | .chAutorange | .chAperture | .fmStreamBind | .qBind | .fltClear | .fltLog | .memRetire
    | .lcAdvance => n == 8
    | .chConfig => n == if c.opf == 0 then 48 else 24
    | .chLimits | .imSensor | .regArmAt | .prfInject | .prfPerturb => n == 16
    | .fmSegment => if c.opf == 0 then n == 64 else if c.opf == 2 then n == 4 else decide (72 ≤ n ∧ n ≤ 65544) && (n - 8) % 64 == 0
    | .fmStatus => n == if c.opf == 1 then 4 else 0
    | .fmLoad | .updStage => decide (16 ≤ n ∧ n ≤ 131040) && n % 8 == 0
    | .qCreate => n == 32
    | .qNotify | .calMode | .axdWrite | .memRead => n == 12
    | .imZone | .imModel => n == 128
    | .imRail => n == 64
    | .imPolicy => n == if c.scope == 1 then 4 else if c.scope == 0 then 16 else 64
    | .calRead => n == if c.scope == 1 then 4 else 0
    | .calWrite | .regSkew => n == 28
    | .tsWrite => decide (12 ≤ n ∧ n ≤ 3208) && n % 4 == 0
    | .trigConfig => n == if c.opf == 0 then 16 else 0
    | .regJoin => n == 32
    | .monConfig => n == 84
    | .memDelays => n == if c.opf == 1 then 132 else 4
    | .memWrite => decide (72 ≤ n ∧ n ≤ 4104) && (n - 8) % 64 == 0
    | .prfEnter => n == 144

/-! ### Modes (R381) -/

/-- Blocks that a command touches, by BLK_READY bit (R381, R508). -/
def Op.blocks : Op → List Nat
  | .nop | .identify | .getMode | .getReady | .fltStatus | .fltClear | .fltReaction | .setMode | .resetBlock => []
  | .setFrame => [bTIMEBASE, bEDGE, bLINKS]
  | .getTime => [bTIMEBASE]
  | .chConfig | .chFunction | .chSetpoint | .chLimits | .chRange | .chAutorange | .chArm | .chPark | .chMeasure | .chAperture
  | .chStatus | .chMigrate => [bFABRIC, bLINKS]
  | .chStrobe | .tsWrite | .tsSelect | .mkRoute | .trigConfig => [bEDGE]
  | .fmLoad | .fmSegment | .fmLockup | .fmStart | .fmStop | .fmJump | .fmStreamBind | .fmStatus | .fmRelease => [bSEQ]
  | .qCreate | .qDestroy | .qReset | .qStatus | .qNotify | .qBind => [bQUEUE]
  | .imZone | .imRail | .imModel | .imSensor | .imStatus | .imPolicy => [bIMPOS]
  | .calMode | .calStatus | .calCommit | .calRead | .calWrite | .calPersist => [bCALIB]
  | .regJoin => [bTIMEBASE, bZHEPIN]
  | .regStatus | .regSkew => [bREG, bZHEPIN]
  | .regArmAt => [bREG, bEDGE]
  | .monConfig | .monStatus => [bMON]
  | .axdWrite | .axdStrobe => [bAXD]
  | .fltLog | .updStage | .updSwitch => [bFLASH]
  | .memStatus | .memDelays | .memScan | .memFreq | .memRetire | .memRead | .memWrite => [bMEMCTL]
  | .lcStatus | .lcAdvance => [bLIFE]
  | .retRecord => [bFLASH, bQUEUE]
  | .prfEnter | .prfInject | .prfPerturb | .prfExit => []
  | .elStatus | .elDescriptor | .elPair | .elSkew | .elReset => [bLINKS]

/-- The mode check of the Modes column (R381); opcodes with a rule of their own (R36, R37, R94) make theirs among their own checks,
and here only WIPE and RETURNED refuse them where R37's table does. -/
def Device.modeCheck (d : Device) (op : Op) : Option Nat :=
  match op with
  | .identify | .getMode | .getReady | .fltStatus | .lcStatus => none
  | .fltLog => if d.mode.phase = .wipe then some stWRONG_MODE else none
  | .setMode | .setFrame | .chArm | .prfEnter | .prfInject | .prfPerturb | .prfExit | .updSwitch | .lcAdvance | .chMigrate => none
  | .chPark => if d.mode.phase = .wipe ∨ d.mode.phase = .returned then some stWRONG_MODE else none
  | .memFreq | .retRecord => if d.inStandby || d.inSafe then none else some stWRONG_MODE
  | o =>
    match d.mode.phase with
    | .wipe | .returned => some stWRONG_MODE
    | .bringUp => if o.blocks.all d.blk then none else some stNOT_READY
    | _ => none

/-- Commands refused with NOT_READY while the channel's link is not UP (R558). -/
def Op.needsLink : Op → Bool
  | .chSetpoint | .chLimits | .chRange | .chAutorange | .chFunction | .chConfig | .calWrite | .fmLockup => true
  | _ => false

/-! ### Checks of an opcode -/

/-- One check: does it fail, and the refusal's status and payload. -/
abbrev Check := Bool × Nat × List Byte

/-- The first failing check (R362). -/
def firstFail : List Check → Option (Nat × List Byte)
  | [] => none
  | (b, s, p) :: l => if b then some (s, p) else firstFail l

/-- BAD_PARAM with the parameter offset of the field at fault (R383). -/
def bad (fails : Bool) (offset : Nat) : Check := (fails, stBAD_PARAM, le32 offset)

/-- BAD_PARAM at no single field. -/
def badAny (fails : Bool) : Check := bad fails 0xFFFFFFFF

/-- A refusal without payload. -/
def no (fails : Bool) (status : Nat) : Check := (fails, status, [])

/-- Reserved parameter bytes hold 0 (R4). -/
def resv (par : List Byte) (os : List Nat) : Check :=
  match firstNonzero par os with
  | some o => bad true o
  | none => bad false 0

/-- A binary32 field that is a NaN or an infinity (R8). -/
def badF32 (par : List Byte) (o : Nat) : Check := bad (f32Bad (f32At par o)) o

/-- How a command is answered. -/
inductive Ans where
  /-- The final reply, at once. -/
  | done (status : Nat) (payload : List Byte)
  /-- The interim reply of a long command, its status ACCEPTED or, for R417, BUSY_TRAINING; the completion is owed. -/
  | interim (status : Nat) (payload : List Byte)
  /-- Interim and completion in one step: the command's completion has no event of its own (R391, R394, R412). -/
  | both (payload : List Byte) (status : Nat) (final : List Byte)
  /-- A reply that the rule places after the effect, without an interim one (R41, R87, R94). -/
  | later
  deriving DecidableEq, Repr

abbrev Res := Ans × Device

/-- A refused command changes nothing (R363). -/
def refuse (d : Device) (r : Nat × List Byte) : Res := (.done r.1 r.2, d)

/-- The first failing check refuses, else the effect is taken. -/
def checked (d : Device) (l : List Check) (k : Res) : Res :=
  match firstFail l with
  | some r => refuse d r
  | none => k

/-- Parameter fields. -/
def Cmd.u8 (c : Cmd) (o : Nat) : Nat := byteAt c.par o
def Cmd.u16 (c : Cmd) (o : Nat) : Nat := u16At c.par o
def Cmd.u32 (c : Cmd) (o : Nat) : Nat := u32At c.par o
def Cmd.u64 (c : Cmd) (o : Nat) : Nat := u64At c.par o
def Cmd.f32 (c : Cmd) (o : Nat) : F32 := f32At c.par o
def Cmd.rat (c : Cmd) (o : Nat) : Rat := f32ToRat (f32At c.par o)

/-- OK with the boundary as payload (R385). -/
def okBoundary (d : Device) (t : Nat) : Res := (.done stOK (le64 t), d)
def ok (d : Device) (payload : List Byte) : Res := (.done stOK payload, d)

end Sys2Proof.Machine
end

