-- ==== Sys2Proof/Machine/Host.lean ====
section
/-! DEFINITION. The host transport: admin rings, doorbells, registers and SMBus (R352..R359, R376, R377, R425..R434), the queue opcodes
(R398, R399), FLR, removal of VFs and the return of resources (R350, R352). -/

namespace Sys2Proof.Machine

/-! ### Allocation of ring storage (R425) -/

def dataSpace : Nat := 2 ^ 34
/-- The spare rows' data addresses begin here; nothing is allocated from it on (R448). -/
def dataTop : Nat := 0x3FF800000
def poolSpace : Nat := 60 * 2 ^ 20
def descriptorTable : Nat := 2 ^ 26

def alignUp (a z : Nat) : Nat := (a + z - 1) / z * z

/-- Does a span lie clear of all held spans. -/
def spanFree (spans : List (Nat × Nat)) (a z : Nat) : Bool := spans.all fun s => decide (a + z ≤ s.1) || decide (s.1 + s.2 ≤ a)

/-- The lowest free aligned span of a size that a test allows: it begins at the base, after a held span or at a region's start. -/
def lowestSpan (spans : List (Nat × Nat)) (base top z : Nat) (starts : List Nat) (allowed : Nat → Bool) : Option Nat :=
  let cands := (base :: starts ++ spans.map fun s => s.1 + s.2).map fun a => alignUp (max a base) z
  (cands.filter fun a => decide (a + z ≤ top) && spanFree spans a z && allowed a).foldl
    (fun best a => match best with | none => some a | some b => some (min a b)) none

/-- Every main-memory region (256 MiB each, R449) that a span touches is ready. -/
def Device.spanReady (d : Device) (a z : Nat) : Bool :=
  (offsets (a / 2 ^ 28) ((a + z - 1) / 2 ^ 28)).all fun r => bit d.ready.region r

/-- The lowest free span in the data space, and the lowest of those in regions that are ready. -/
def Device.memSpan (d : Device) (z : Nat) (readyOnly : Bool) : Option Nat :=
  lowestSpan d.mem.spans descriptorTable dataTop z ((List.range 64).map fun r => r * 2 ^ 28)
    fun a => !readyOnly || d.spanReady a z

def Device.poolSpan (d : Device) (z : Nat) : Option Nat := lowestSpan d.mem.poolSpans 0 poolSpace z [] fun _ => true

/-- A ring enters service: its span held, its zero slot written. -/
def Device.addRing (d : Device) (q : Nat) (r : Ring) : Device :=
  let m := if r.pool then { d.mem with poolSpans := d.mem.poolSpans ++ [(r.devAddr, r.z)] }
           else { d.mem with spans := d.mem.spans ++ [(r.devAddr, r.z)] }
  ({ d with mem := m }.setRing q r).zeroSlot r

/-- A ring is destroyed: span freed, descriptor dropped from the cache, held commands of the ring gone with it. -/
def Device.removeRing (d : Device) (q : Nat) : Device :=
  match d.ring? q with
  | none => d
  | some r =>
    let m := if r.pool then { d.mem with poolSpans := d.mem.poolSpans.filter fun s => s ≠ (r.devAddr, r.z) }
             else { d.mem with spans := d.mem.spans.filter fun s => s ≠ (r.devAddr, r.z) }
    let d := { d with mem := m }.dropRing q
    let cache := d.queue.cache.filter fun x => x ≠ q
    let awaiting := d.queue.awaiting.filter fun a => a.qid ≠ q
    let held := d.cmd.held.filter fun h => h.pkt.qid.toNat ≠ q
    { d with queue := { d.queue with cache := cache, awaiting := awaiting }, cmd := { d.cmd with held := held } }

/-- A use of an unpinned descriptor (R436): newest first, the least recently used leaves when the cache is full. -/
def Device.touch (d : Device) (q : Nat) : Device :=
  if d.pinned q then d else { d with queue := { d.queue with cache := (q :: d.queue.cache.filter fun x => x ≠ q).take 16384 } }

/-! ### Admin rings (R356) -/

/-- ADMIN_ENABLE: EN is written to 1; bad sizes or misaligned buffers leave it 0 (R356). -/
def Device.adminEnable (d : Device) (f v : Nat) : Device :=
  let x := d.fn f
  if x.adminEn then d
  else
    let x := { x with cmdSz := bits v 7 4, rplSz := bits v 11 8, evtSz := bits v 15 12 }
    let fine := bit v 0 && decide (x.cmdSz ≤ 4) && decide (x.rplSz ≤ 4) && decide (x.evtSz ≤ 4) &&
      x.cmdAddr % (4096 * 2 ^ x.cmdSz) == 0 && x.rplAddr % (4096 * 2 ^ x.rplSz) == 0 && x.evtAddr % (4096 * 2 ^ x.evtSz) == 0
    d.setFn f { x with adminEn := fine }

/-- The admin rings of a function leave service (R356). Replies of its admin commands under way are discarded (R378). -/
def Device.adminOff (d : Device) (f : Nat) : Device :=
  let d := ((d.removeRing (4 * f)).removeRing (4 * f + 1)).removeRing (4 * f + 2)
  let d := d.onFn f fun x => { x with adminEn := false, adminReady := false }
  { d with cmd := { d.cmd with discard := (f, d.cmd.nextAcc, true) :: d.cmd.discard.filter fun x => x.1 ≠ f ∨ x.2.2 = false } }

/-- ADMIN_DISABLE: a write of ADMIN_CTRL with EN clear. -/
def Device.adminDisable (d : Device) (f v : Nat) : Device :=
  (d.adminOff f).onFn f fun x => { x with cmdSz := bits v 7 4, rplSz := bits v 11 8, evtSz := bits v 15 12 }

/-- One admin ring in the ring pool, at the lowest free span (DESIGN CHOICE, log 19: the pool's order of allocation). -/
def Device.addAdminRing (d : Device) (q kind f size host index : Nat) (npkt : Bool) : Device :=
  match d.poolSpan (4096 * 2 ^ size) with
  | none => d
  | some a => d.addRing q { kind := kind, size := size, pool := true, npkt := npkt, admin := true, fn := f, doorbell := index,
                            hostAddr := host, devAddr := a }

/-- ADMIN_RINGS_READY: with Case memory and the queue manager ready the three rings enter service (R356). -/
def Device.adminReady (d : Device) (f : Nat) : Device :=
  let x := d.fn f
  if x.adminEn && !x.adminReady && d.blk bQUEUE && d.ready.caseR == 255 then
    let d := d.addAdminRing (4 * f) 0 f x.cmdSz x.cmdAddr 0 false
    let d := d.addAdminRing (4 * f + 1) 1 f x.rplSz x.rplAddr 1 true
    let d := d.addAdminRing (4 * f + 2) 4 f x.evtSz x.evtAddr 2 true
    d.onFn f fun x => { x with adminReady := true }
  else d

/-! ### Doorbells (R359, R426, R427, R431, R434) -/

/-- A doorbell write is dropped and counted (R359, R440). -/
def Device.dropDoorbell (d : Device) (f : Nat) : Device :=
  (d.onFn f fun x => { x with dbDrop := min (2 ^ 32 - 1) (x.dbDrop + 1) }).cause f 3

/-- WM_LATCH after a move of a pointer (R434): set when the level passes from at least W to below it, with its notice. -/
def Device.watermark (d : Device) (q before : Nat) : Device :=
  match d.ring? q with
  | none => d
  | some r =>
    if r.kind == 5 && decide (r.watermark ≤ before) && decide (r.level < r.watermark) && !r.wmLatch then
      let d := d.setRing q { r with wmLatch := true }
      if r.nwm then let d := d.queueNotice q 4
                    if r.irq then d.msi r.fn r.vector else d
      else d
    else d

/-- TAIL passes over dropped bytes that it has reached (R431). -/
def Ring.passSkips (r : Ring) : Ring :=
  match r.skips.find? fun s => s.1 == r.tailA with
  | some s => { r with tailA := s.2, tailB := s.2, skips := r.skips.filter fun x => x ≠ s }
  | none => r

/-- TAIL of a host-produced ring moves on by `n` bytes (R430, R431): freed space, PACKET_FREED where notice per packet is on. -/
def Device.freeBytes (d : Device) (q n : Nat) (packetEnd : Bool) : Device :=
  match d.ring? q with
  | none => d
  | some r =>
    let before := r.level
    let t := (r.tailA + n) % 2 ^ 32
    let d := d.setRing q { r with tailA := t, tailB := t }.passSkips
    let d := if packetEnd && r.npkt then let d := d.queueNotice q 5
                                         if r.irq then d.msi r.fn r.vector else d
             else d
    d.watermark q before

/-- A length word is malformed (R431). -/
def Ring.badLength (r : Ring) (blen : Nat) : Bool :=
  blen == 0 || decide (131072 < blen) || decide (r.z - 8 < blen) || (r.kind == 5 && blen % 64 ≠ 0)

/-- Packets judged from the open position up to HEAD (R431): whole ones counted, an incomplete one left open, a malformed one
dropped up to HEAD. Answers the ring and whether a malformed packet was found. -/
def Device.judge (d : Device) : Nat → Ring → Ring × Bool
  | 0, r => (r, false)
  | k + 1, r =>
    let covered := (r.headA + 2 ^ 32 - r.openPos) % 2 ^ 32
    if covered < 4 then (r, false)
    else
      let blen := leNat (d.ringGet r r.openPos 4) % 2 ^ 24
      if r.badLength blen then
        ({ r with skips := r.skips ++ [(r.openPos, r.headA)], partials := r.partials + 1, openPos := r.headA }.passSkips, true)
      else if 4 + padded blen ≤ covered then
        d.judge k { r with openPos := (r.openPos + 4 + padded blen) % 2 ^ 32, packets := (r.packets + 1) % 2 ^ 32 }
      else (r, false)

/-- A doorbell of a host-produced ring (R427, R431, R434): the new bytes are copied from the host buffer and packets judged. -/
def Device.doorbellHead (d : Device) (q : Nat) (r : Ring) (p : Nat) (bytes : List Byte) : Device :=
  let diff := (p + 2 ^ 32 - r.headA) % 2 ^ 32
  let lev := (p + 2 ^ 32 - r.tailA) % 2 ^ 32
  if p % 4 = 0 ∧ diff ≤ r.z ∧ lev ≤ r.z - 4 then
    let d := d.ringPut r r.headA (padTo diff bytes) false
    let (r', mal) := d.judge (diff / 4 + 2) { r with headA := p, headB := p }
    let d := d.setRing q r'
    let d := if mal then d.queueNotice q 6 else d
    d.watermark q r.level
  else (d.setRing q { r with overrun := true, lost := r.lost + 1 }).queueNotice q 1

/-- A doorbell of a device-produced ring (R427, R432): the host has consumed up to the new TAIL. -/
def Device.doorbellTail (d : Device) (q : Nat) (r : Ring) (p : Nat) : Device :=
  if p % 4 = 0 ∧ (p + 2 ^ 32 - r.tailA) % 2 ^ 32 ≤ r.level then
    d.setRing q { r with tailA := p, tailB := p, full := r.full && p == r.tailA }
  else (d.setRing q { r with badptr := true, lost := r.lost + 1 }).queueNotice q 2

/-- The ring bound to a doorbell of a function (R358). -/
def Device.ringAtDoorbell (d : Device) (f index : Nat) : Option Nat :=
  (d.queue.rings.find? fun x => x.2.fn == f && x.2.doorbell == index).map (·.1)

/-- A doorbell that main memory, out of service, cannot serve: its ring lies there, or its descriptor must be fetched (R467). -/
def Device.memDrops (d : Device) (q : Nat) (r : Ring) : Bool :=
  d.mem.outOfService && (!r.pool || (!d.pinned q && !d.queue.cache.contains q))

/-- A change of the data rate holds the memory ports (R461). -/
def Device.memHeld (d : Device) : Bool := match d.mem.freq with | some f => f.running | none => false

/-- DOORBELL (R359): dropped and counted unless it is one 64-bit write that names the ring bound to it with reserved bits 0; a
halted ring ignores it (R440); one for a ring in held main memory waits (R461). -/
def Device.doorbell (d : Device) (f index : Nat) (value : Nat) (single : Bool) (bytes : List Byte) (t : Nat) : Device :=
  let d := d.at t
  match d.ringAtDoorbell f index with
  | none => d.dropDoorbell f
  | some q =>
    let r0 := (d.ring? q).getD {}
    if !single || bits value 51 32 ≠ q || bits value 63 52 ≠ 0 || d.memDrops q r0 then d.dropDoorbell f
    else if d.memHeld && !r0.pool then { d with queue := { d.queue with doorbells := d.queue.doorbells ++ [(f, index, value, bytes)] } }
    else
      let d := (d.checkPtr q).touch q
      match d.ring? q with
      | none => d
      | some r =>
        if r.halt then d.dropDoorbell f
        else if r.hostProduced then d.doorbellHead q r (bits value 31 0) bytes
        else d.doorbellTail q r (bits value 31 0)

/-! ### Registers (R353..R355) -/

/-- The low or high half of a 64-bit register replaced. -/
def half (old : Nat) (high : Bool) (v : Nat) : Nat := if high then old % 2 ^ 32 + v * 2 ^ 32 else old / 2 ^ 32 * 2 ^ 32 + v

/-- A write to the MSI-X table (R353): address, data, mask; a pending vector is sent when its mask clears. -/
def Device.msixWrite (d : Device) (f o v : Nat) : Device :=
  let e := o / 16
  let x := d.fn f
  let m := tabGet {} x.msix e
  let m := match o % 16 / 4 with
    | 0 => { m with addr := half m.addr false v }
    | 1 => { m with addr := half m.addr true v }
    | 2 => { m with data := v }
    | _ => { m with mask := bit v 0 }
  let x := { x with msix := tabSet {} x.msix e m }
  d.setFn f (if !m.mask && bit x.pba e then { x with pba := clrBit x.pba e, msixSent := e :: x.msixSent } else x)

/-- REGISTER_WRITE (R353, R355): registers that store what is written; writes to read-only registers, unlisted offsets and reserved
bits are ignored. -/
def Device.registerWrite (d : Device) (f o v : Nat) : Device :=
  let set (g : HostFn → HostFn) := d.onFn f g
  if o = 0x10008 ∨ o = 0x1000C then set fun x => { x with cmdAddr := half x.cmdAddr (o == 0x1000C) v }
  else if o = 0x10010 ∨ o = 0x10014 then set fun x => { x with rplAddr := half x.rplAddr (o == 0x10014) v }
  else if o = 0x10018 ∨ o = 0x1001C then set fun x => { x with evtAddr := half x.evtAddr (o == 0x1001C) v }
  else if o = 0x10024 then set fun x => { x with intMask := v % 32, evtn := f == 0 && bit v 31 }
  else if o = 0x10028 then set fun x => { x with noticeMask := v % 2048 / 2 * 2 }
  else if 0x80000 ≤ o ∧ o < 0x80400 ∧ o % 4 = 0 then d.msixWrite f (o - 0x80000) v
  else d

/-- INT_STATUS is cleared where a 1 is written (R355). -/
def Device.intClear (d : Device) (f v : Nat) : Device :=
  d.onFn f fun x => { x with intStatus := x.intStatus &&& (31 - v % 32) }

/-- FP_STATUS.LATE is cleared by a 1 in bit 8 (R355). -/
def Device.lateClear (d : Device) (f v : Nat) : Device := d.onFn f fun x => { x with late := x.late && !bit v 8 }

/-- FORCE of FAULTN_CTRL (R354); a write from a VF is ignored (R353). -/
def Device.faultnWrite (d : Device) (f v : Nat) : Device :=
  if f = 0 then { d with aon := { d.aon with force := bit v 0 } } else d

/-! ### SMBus (R376, R377) -/

/-- A served transaction's bytes; without VDD_AON the bus is not served. -/
def Device.smb (d : Device) (l : List Byte) : Device :=
  if d.aon.vddAon then { d with pins := { d.pins with smbData := l } } else d

/-- Bytes of the colophon that manufacture fixes (R525). -/
def factoryBytes (a n : Nat) : List Byte := (List.range n).map fun i => Config.factory (a + i)
def serial : List Byte := factoryBytes 8 16
/-- Stepping A1, the one that the spec describes (R353, R525, R555). -/
def stepping : Byte := 1

/-- The colophon up to its CRC (R525): the lifecycle transitions and re-provisionings are those that OTP counts (DEDUCED, log 60). -/
def Device.colophonHead (d : Device) : List Byte :=
  le32 0x4E4C4F43 ++ [1, stepping] ++ le16 0x9512 ++ serial ++ factoryBytes 24 14 ++ le16 (flag (bit (Config.factory 38).toNat 0) 0) ++
  factoryBytes 40 12 ++ le32 (crc32 (padTo 1056 Config.trims)) ++
  (match d.otp.customer with | some k => (List.range 48).map (Config.keyDigest k) | none => zeros 48) ++
  le32 d.otp.transitions ++ le32 d.otp.reprovisions ++ zeros 396

/-- The colophon, 512 bytes (R525). -/
def Device.colophon (d : Device) : List Byte := d.colophonHead ++ le32 (crc32 d.colophonHead)

/-- A temperature reading as SMBus carries it: 0x8000 for a failed input. -/
def Reading.bytes16 (r : Reading) : List Byte := le16 (if r.ok then ofSigned 16 r.value else 0x8000)

def Device.smbIdent (d : Device) : List Byte :=
  le16 0x9512 ++ [stepping, 0] ++ (le32 d.aon.fwVersion).take 3 ++ [BitVec.ofNat 8 d.otp.lc]

/-- MODE over SMBus: MODE_STATUS, with MODE 0x1 in HELD. -/
def Device.smbMode (d : Device) : List Byte :=
  le32 (if d.mode.phase = .held then d.mode.word / 16 * 16 + 1 else d.mode.word)

def Device.dieTemp16 (d : Device) : Int := (d.imp.die.temp * 16).floor

def Device.smbDie (d : Device) : List Byte := le16 (ofSigned 16 d.dieTemp16) ++ [BitVec.ofNat 8 d.imp.die.state, 0]

def noReading : Reading := { value := 0, ok := true }

def Device.smbDiodes (d : Device) : List Byte :=
  ((List.range 4).map fun i => Reading.bytes16 (tabGet noReading d.aon.diodes i)).flatten
def Device.smbSensors (d : Device) : List Byte :=
  ((List.range 48).map fun i => Reading.bytes16 (tabGet noReading d.aon.dieSensors i)).flatten

/-! ### Resources of a function (R349, R350, R352) -/

/-- The segments that a channel's forme locks lose one lock (R193). -/
def Device.unlockForme (d : Device) (ch : Nat) : Device :=
  let d := (d.chan ch).seq.locks.foldl (init := d) fun d s =>
    match d.seg? s with
    | some g => d.setSeg s (some { g with locks := g.locks - 1, state := if g.locks ≤ 1 && g.state == 2 then 1 else g.state })
    | none => d
  { d with imp := { d.imp with profiles := d.imp.profiles.filter fun p => p.ch ≠ ch, requests := d.imp.requests.filter fun r => r.origin.isSome || r.ch ≠ ch } }

/-- A channel at its after-reset settings in a function; its calibration banks, its ranges and what its link does are kept (R350). -/
def Device.chanToOwner (d : Device) (ch f : Nat) : Device :=
  let d := d.unlockForme ch
  let c := d.chan ch
  let r : RangeUnit := { v := c.range.v, i := c.range.i }
  let c' : Chan := { owner := f, loop := c.loop, arm := c.arm, parkPend := c.parkPend, parkCause := c.parkCause, range := r, frame := c.frame,
                     cal := c.cal, mirror := c.mirror, linkAlt := c.linkAlt, invalid := c.invalid, migrated := c.migrated }
  (d.setChan ch c').setModel ch {}

/-- Resources of a class at their after-reset settings under another owner (R350). -/
def Device.pinToOwner (d : Device) (p f : Nat) : Device := d.setPin p { owner := f }
def Device.strobeToOwner (d : Device) (g f : Nat) : Device := d.setStrobe g { strobeDflt g with owner := f }
def Device.axdToOwner (d : Device) (a f : Nat) : Device := d.setAxd a { owner := f, out := (d.axd a).out.map fun _ => 0x20000 }
def Device.monToOwner (d : Device) (m f : Nat) : Device := d.setMon m { owner := f }
def Device.zoneToOwner (d : Device) (z f : Nat) : Device := d.setZone z { owner := f }
def Device.railToOwner (d : Device) (r f : Nat) : Device := d.setRail r { owner := f }

/-- The actions of an FLR at its boundary (R352). -/
def Device.applyFlr (d : Device) (f : Nat) : Device :=
  let d := d.parkAll (d.usedChans.filter fun ch => (d.chan ch).owner == f) 1 d.time.tick
  let d := { d with fast := d.fast.filter fun p => p.fn ≠ f }
  let d := (d.adminOff f).onFn f fun x => { x with cmdSz := 0, rplSz := 0, evtSz := 0 }
  { d with cmd := { d.cmd with discard := (f, d.cmd.nextAcc, false) :: d.cmd.discard.filter fun x => x.1 ≠ f } }

/-- Every ring of a function is destroyed (R352). -/
def Device.dropRings (d : Device) (f : Nat) : Device :=
  let own := (d.queue.rings.filter fun x => x.2.fn == f).map (·.1)
  let d := own.foldl (fun d q => d.removeRing q) d
  d.each d.usedChans fun d ch => d.onChan ch fun c =>
    { c with resultRing := c.resultRing.filter fun q => !own.contains q, captureRing := c.captureRing.filter fun q => !own.contains q }

/-- A removed VF: reset, rings destroyed, resources back to the PF with after-reset settings (R352). -/
def Device.removeVf (d : Device) (f : Nat) : Device :=
  let d := (d.applyFlr f).dropRings f
  let d := d.each (d.usedChans.filter fun ch => (d.chan ch).owner == f) fun d ch => d.chanToOwner ch 0
  let d := d.each ((d.edge.pins.filter fun x => x.2.owner == f).map (·.1)) fun d p => d.pinToOwner p 0
  let d := d.each ((d.edge.strobes.filter fun x => x.2.owner == f).map (·.1)) fun d g => d.strobeToOwner g 0
  let d := d.each ((d.edge.axds.filter fun x => x.2.owner == f).map (·.1)) fun d a => d.axdToOwner a 0
  let d := d.each ((d.edge.mons.filter fun x => x.2.owner == f).map (·.1)) fun d m => d.monToOwner m 0
  let d := d.each ((d.imp.zones.filter fun x => x.2.owner == f).map (·.1)) fun d z => d.zoneToOwner z 0
  let d := d.each ((d.imp.rails.filter fun x => x.2.owner == f).map (·.1)) fun d r => d.railToOwner r 0
  let segs := d.seq.segments.filter fun s => match s.2 with | some g => g.fn ≠ f | none => false
  ({ d with seq := { d.seq with segments := segs } }).onFn f fun x => { x with quota := none }

/-- NumVFs falls to n: the VFs above it are removed (R352). -/
def Device.applyNumVFs (d : Device) (n : Nat) : Device :=
  { d.each (offsets (n + 1) d.numVFs) Device.removeVf with numVFs := n }

/-- An FLR, or a lowered NumVFs, waits for the first frame boundary after it (R352). -/
def Device.waitBoundary (d : Device) (a : Act) : Device :=
  { d with sched := d.sched ++ [{ tick := d.nextTick, acc := d.cmd.nextAcc, act := a }] }

/-- Number of channels that a function owns (R387). -/
def Device.ownedCount (d : Device) (f : Nat) : Nat := (channels.filter fun ch => (d.chan ch).owner == f).length

/-! ### ASSIGN (R350) -/

/-- The condition of R350 for the resource; a channel with a CH_MEASURE, CAL_PERSIST or CH_RANGE in progress is BUSY (R423). -/
def Device.assignBusy (d : Device) (op : Op) (c : Cmd) : Bool :=
  let f := c.u32 0 % 64
  match op with
  | .chConfig =>
    let ch := d.chan c.idx
    ch.armed || ch.armReq.isSome || !(ch.seq.state == .empty || ch.seq.state == .loaded) || ch.resultRing.isSome || ch.captureRing.isSome ||
    (d.link c.idx).dual || ch.measure.isSome || ch.cal.persist.isSome || ch.range.change.isSome || ch.range.queued.isSome
  | .imZone => d.imp.models.any fun m => m.2.zone == c.idx
  | .imRail => d.imp.models.any fun m => m.2.rail == c.idx - 256
  | .mkRoute => (d.pin c.idx).route % 8 ≠ 0
  | .chStrobe => d.chans.any (fun x => x.2.cfg.strobe == c.idx && x.2.owner ≠ f) || d.edge.axds.any fun x => x.2.group == c.idx && x.2.owner ≠ f
  | .axdWrite => (d.axd c.idx).bind ≠ 0xFFFF
  | .monConfig => (d.mon c.idx).protSet ≠ 0
  | .qCreate => decide (c.u32 4 < (d.queue.rings.filter fun x => x.2.fn == f && !x.2.admin).length)
  | _ => false

/-- The move itself. It takes effect on acceptance (R378; DEDUCED, log 18). -/
def Device.assign (d : Device) (op : Op) (c : Cmd) : Device :=
  let f := c.u32 0 % 64
  match op with
  | .chConfig => d.chanToOwner c.idx f
  | .imZone => d.zoneToOwner c.idx f
  | .imRail => d.railToOwner (c.idx - 256) f
  | .mkRoute => d.pinToOwner c.idx f
  | .chStrobe => d.strobeToOwner c.idx f
  | .axdWrite => d.axdToOwner c.idx f
  | .monConfig => d.monToOwner c.idx f
  | .qCreate => d.onFn f fun x => { x with quota := some (c.u32 4) }
  | _ => d

/-- A command with ASSIGN (R350). -/
def runAssign (op : Op) (c : Cmd) (d : Device) : Res :=
  checked d [bad (decide (64 ≤ c.u32 0) || decide (d.numVFs < c.u32 0)) 0, no (d.assignBusy op c) stBUSY] (ok (d.assign op c) [])

/-! ### Queue opcodes (R398, R399) -/

/-- A queue ID parameter: bits 31:20 reserved, not an admin ring, a ring of the sending function (R398). -/
def Device.qCheck (d : Device) (c : Cmd) (o : Nat) (pfToo : Bool) : List Check :=
  let q := c.u32 o
  [bad (decide (2 ^ 20 ≤ q) || decide (q < 256)) o, bad (d.ring? q).isNone o,
   no (match d.ring? q with | some r => r.fn ≠ c.env.fn && !(pfToo && c.env.fn == 0) | none => false) stBAD_TARGET]

/-- Number of rings that a function may create (R399). -/
def Device.quotaOf (d : Device) (f : Nat) : Nat :=
  match (d.fn f).quota with
  | some n => n
  | none => if f = 0 then 2 ^ 20 - 256 else 0

def Device.lowestQid (d : Device) : Option Nat := (offsets 256 (256 + d.queue.rings.length)).find? fun q => (d.ring? q).isNone && decide (q < 2 ^ 20)
def Device.lowestDoorbell (d : Device) (f : Nat) : Option Nat :=
  (offsets 3 (3 + d.queue.rings.length)).find? fun j => (d.ringAtDoorbell f j).isNone && decide (j ≤ 7679)

/-- A watermark a ring accepts (R398, R434): 0, or on a STREAM ring a multiple of 64 below its size. -/
def watermarkOk (kind size w : Nat) : Bool := w == 0 || (kind == 5 && w % 64 == 0 && decide (w < 4096 * 2 ^ size))

/-- The checks of Q_CREATE that depend on the packet alone (R399). -/
def qCreateStatic (c : Cmd) : List Check :=
  let q := c.u32 0
  let z := 4096 * 2 ^ c.u8 5
  let cross := c.u8 4 == 6
  [bad (decide (2 ^ 20 ≤ q) || decide (q < 256)) 0, bad (decide (6 < c.u8 4)) 4, bad (decide (18 < c.u8 5)) 5, bad (decide (1 < c.u8 6)) 6,
   bad (decide (64 ≤ c.u8 7) && c.u8 7 ≠ 255) 7, bad (if cross then c.u64 8 ≠ 0 else c.u64 8 == 0 || c.u64 8 % z ≠ 0) 8,
   bad (c.u32 16 ≠ 0xFFFFFFFF && (cross || decide (c.u32 16 < 3) || decide (7679 < c.u32 16))) 16,
   bad (!watermarkOk (c.u8 4) (c.u8 5) (c.u32 20)) 20, bad (decide (1024 ≤ c.u16 24) || (!cross && c.u16 24 ≠ 0)) 24, resv c.par [26, 27],
   bad (decide (2 ^ 20 ≤ c.u32 28) || (!cross && c.u32 28 ≠ 0)) 28]

/-- The ring that Q_CREATE asks for, at an address and doorbell. -/
def qCreateRing (c : Cmd) (addr door : Nat) : Ring :=
  { kind := c.u8 4, size := c.u8 5, pool := c.u8 6 == 1, npkt := decide (1 ≤ c.u8 4 ∧ c.u8 4 ≤ 4) || c.u8 4 == 6, nwm := c.u32 20 ≠ 0,
    irq := c.u8 7 ≠ 255, fn := c.env.fn, doorbell := door, vector := c.u8 7, watermark := c.u32 20, hostAddr := c.u64 8, devAddr := addr,
    peerQ := c.u32 28, peerDev := c.u16 24 }

/-- Q_CREATE (R399, R425). -/
def runQCreate (c : Cmd) (d : Device) : Res :=
  let f := c.env.fn
  let cross := c.u8 4 == 6
  let z := 4096 * 2 ^ c.u8 5
  let q := if c.u32 0 = 0xFFFFF then d.lowestQid else some (c.u32 0)
  let door := if cross then some 0x1FFF else if c.u32 16 = 0xFFFFFFFF then d.lowestDoorbell f else some (c.u32 16)
  let full := if c.u8 6 = 1 then d.poolSpan z else d.memSpan z false
  let place := if c.u8 6 = 1 then full else d.memSpan z true
  checked d (qCreateStatic c ++
    [bad (!cross && c.u32 16 ≠ 0xFFFFFFFF && (d.ringAtDoorbell f (c.u32 16)).isSome) 16,
     no (match q with | some q => (d.ring? q).isSome | none => true) stBUSY,
     no (decide (d.quotaOf f ≤ (d.queue.rings.filter fun x => x.2.fn == f && !x.2.admin).length)) stBUSY,
     no door.isNone stBUSY, no full.isNone stBUSY, no place.isNone stNOT_READY])
    (match q, door, place with
     | some q, some j, some a =>
       ok (d.addRing q (qCreateRing c a j)) (le32 q ++ le32 (if cross then 0xFFFFFFFF else j))
     | _, _, _ => refuse d (stBUSY, []))

/-- Q_DESTROY (R398). -/
def runQDestroy (c : Cmd) (d : Device) : Res :=
  let q := c.u32 0
  let busy := d.bound q || (match d.ret with | some j => j.ring == q | none => false) ||
    d.cmd.outstanding.any (fun e => e.1.rq == q) || d.cmd.waiting.any fun w => w.cmd.env.rq == q
  checked d (d.qCheck c 0 false ++ [no busy stBUSY]) (ok (d.removeRing q) [])

/-- Q_RESET (R398, R435, R444). -/
def runQReset (c : Cmd) (d : Device) : Res :=
  let q := c.u32 0
  checked d (d.qCheck c 0 false)
    (match d.ring? q with
     | none => refuse d (stBAD_PARAM, le32 0)
     | some r =>
       let open_ := d.usedChans.filter fun ch => (d.chan ch).captureRing == some q && (d.chan ch).capture.isSome
       let half := (if r.openPos ≠ r.headA then 1 else 0) + open_.length
       let gone := (d.queue.awaiting.filter fun a => a.qid == q).foldl (fun s a => s + a.entries) 0
       let r' := { r.cleared with partials := r.partials + half, lost := r.lost + gone }
       let d := (d.setRing q r').zeroSlot r'
       let d := d.each open_ fun d ch => d.onChan ch fun x => { x with capture := none }
       let awaiting := d.queue.awaiting.filter fun a => a.qid ≠ q
       let held := d.cmd.held.filter fun h => h.pkt.qid.toNat ≠ q
       ok { d with queue := { d.queue with awaiting := awaiting }, cmd := { d.cmd with held := held } } [])

/-- Q_STATUS, with CLEAR reporting before it clears (R398, R433..R435, R440). -/
def runQStatus (c : Cmd) (d : Device) : Res :=
  let q := c.u32 0
  checked d (d.qCheck c 0 true)
    (match d.ring? q with
     | none => refuse d (stBAD_PARAM, le32 0)
     | some r =>
       let pay := r.descriptor q (d.pinned q) ++ le32 r.lost ++ le32 r.partials
       let d := d.touch q
       ok (if c.opf = 1 then d.setRing q { r with overrun := false, badptr := false, wmLatch := false, qptr := false, lost := 0, partials := 0 }
           else d) pay)

/-- The checks of Q_NOTIFY that depend on the packet alone. -/
def qNotifyStatic (c : Cmd) : List Check :=
  [bad (decide (8 ≤ c.u8 4)) 4, bad (decide (64 ≤ c.u8 5) && c.u8 5 ≠ 255) 5, resv c.par [6, 7]]

/-- Q_NOTIFY's settings at their boundary (R430). -/
def applyQNotify (c : Cmd) (d : Device) : Device :=
  let d' := d.onRing (c.u32 0) fun r =>
    { r with npkt := bit (c.u8 4) 0, nwm := bit (c.u8 4) 1, irq := bit (c.u8 4) 2, vector := c.u8 5, watermark := c.u32 8 }
  d'

/-- Q_NOTIFY (R398, R430). -/
def runQNotify (c : Cmd) (d : Device) : Res :=
  checked d (d.qCheck c 0 false ++ qNotifyStatic c ++
    [bad (match d.ring? (c.u32 0) with | some r => !watermarkOk r.kind r.size (c.u32 8) | none => false) 8])
    (ok (d.atBoundary .qNotify c applyQNotify) [])

/-- One ring of Q_BIND: none, or an own ring of an allowed kind (R398, R439). -/
def Device.bindCheck (d : Device) (c : Cmd) (o kind : Nat) : List Check :=
  let q := c.u32 o
  if q = 0xFFFFF then []
  else d.qCheck c o false ++ [bad (match d.ring? q with | some r => r.kind ≠ kind && r.kind ≠ 6 | none => false) o]

/-- Q_BIND (R398): the bindings, the slug folio from 0 (R86). -/
def runQBind (c : Cmd) (d : Device) : Res :=
  checked d (d.bindCheck c 0 2 ++ d.bindCheck c 4 3)
    (ok (d.onChan c.idx fun x =>
      { x with resultRing := if c.u32 0 = 0xFFFFF then none else some (c.u32 0),
               captureRing := if c.u32 4 = 0xFFFFF then none else some (c.u32 4),
               aper := { x.aper with folio := 0 } }) [])

end Sys2Proof.Machine
end

