-- ==== Sys2Proof/Machine/Sys.lean ====
section
/-! DEFINITION. Modes and their changes (R23..R37), and the system opcodes that need no frame budget (R386..R388). -/

namespace Sys2Proof.Machine

/-- MODE_STATUS as reported is brought up to date at a boundary, with a mode notice where MODE or bits 16..29 changed (R27, R34). -/
def Device.reportMode (d : Device) : Device :=
  let w := d.modeStatus
  let old := d.mode.word
  if w = old then d
  else
    let d := { d with mode := { d.mode with word := w, changedAt := d.time.tick } }
    if w % 16 ≠ old % 16 ∨ w / 65536 ≠ old / 65536 then d.notice 0 1 0 d.time.tick (le32 old ++ le32 w) else d

/-- A bit whose configured reaction is SAFE is uncleared; a die shutdown's reaction is always SAFE (R31, R412). -/
def Device.safeBit (d : Device) : Bool :=
  ((List.range 64).any fun b => bit d.flt.pf b && d.flt.reaction b == 6) || (bit d.flt.pf 59 && d.imp.die.shutdown)

/-- A mode change waits for its boundary (R34). -/
def Device.askMode (d : Device) (tick acc : Nat) (r : ModeReq) : Device :=
  { d with mode := { d.mode with pending := d.mode.pending ++ [(tick, acc, r)] } }

/-- AXD outputs to mid-scale on entry to SAFE (R30, R270); staged codes are dropped with it (DEDUCED, log 21). -/
def Device.axdMid (d : Device) : Device :=
  d.each (List.range 16) fun d a =>
    let x := d.axd a
    d.setAxd a { x with out := x.out.map fun _ => 0x20000, staged := none, strobes := [] }

/-- PROOF ends: designations, injections and perturbations go (R498). -/
def Device.endProof (d : Device) : Device := { d with proof := {}, mode := { d.mode with proof := false } }

/-- Entry into SAFE at the boundary just begun (R30, R35): cause 0x1 by SET_MODE, 0x2 by a reaction. In BRING-UP and WIPE it pends. -/
def Device.enterSafe (d : Device) (cause : Nat) : Device :=
  match d.mode.phase with
  | .bringUp => { d.parkAll d.usedChans cause d.time.tick with mode := { d.mode with safePend := true } }
  | .wipe => { d with mode := { d.mode with safePend := true } }
  | .normal =>
    if d.mode.safe then d
    else
      let d := (d.parkAll d.usedChans cause d.time.tick).axdMid.endProof
      { d with mode := { d.mode with safe := true, standby := false, waking := none, recovery := false } }
  | _ => d

/-- SAFE ends (R31): recovery runs until the next CH_ARM takes effect. -/
def ModeUnit.leaveSafe (m : ModeUnit) (standby : Bool) : ModeUnit :=
  { m with safe := false, standby := standby, recovery := m.safe || m.recovery }

/-- WIPE begins (R517, R520): the rings are gone, a lifecycle record is journalled, a staged image is discarded. -/
def Device.beginWipe (d : Device) (target : Nat) : Device :=
  let d := d.journal 7 10 255 d.time.tick 0 0 0 [BitVec.ofNat 8 d.otp.lc, BitVec.ofNat 8 target]
  let other := 1 - d.press.bank
  let banks := if d.mode.updStaged then tabSet {} d.flash.banks other {} else d.flash.banks
  { d with
    mode := { d.mode with phase := .wipe, safe := false, standby := true, wipeTarget := target, updStaged := false }
    queue := {}, cmd := { nextAcc := d.cmd.nextAcc }, fns := [], fast := [], ret := none
    flash := { d.flash with banks := banks }
    update := {} }

/-- One pending mode change at its boundary (R35), judged against the mode in force (R34). -/
def Device.applyMode (d : Device) (r : ModeReq) : Device :=
  match r with
  | .safe cause => d.enterSafe cause
  | .run =>
    if (d.inSafe && !d.safeBit) || d.inStandby then { d with mode := { d.mode.leaveSafe false with waking := none } } else d
  | .wake => if d.inStandby then { d with mode := { d.mode with standby := false, waking := none } } else d
  | .standby =>
    if !d.anyArmed && (d.runFamily || (d.inSafe && !d.safeBit)) then { d with mode := d.mode.leaveSafe true } else d
  | .proofEnter e c l =>
    if d.runFamily || d.inStandby then { d with mode := { d.mode with proof := true }, proof := { engines := e, channels := c, links := l } } else d
  | .proofExit =>
    if d.inProof then
      let d := d.endProof
      { d with mode := { d.mode with standby := d.mode.standby && !d.anyArmed } }
    else d
  | .update =>
    if d.runFamily || d.inStandby || d.inSafe then { d with mode := { d.mode with update := true, updActive := true } }
    else { d.final? d.update.switchEnv stWRONG_MODE [] with update := { d.update with switchEnv := none } }
  | .wipe target =>
    if d.inStandby || d.inSafe then d.beginWipe target else d

/-- Rank of a change in the table of R35: of two at one boundary the row listed first is taken. -/
def ModeReq.rank : ModeReq → Nat
  | .safe 2 => 0 | .safe _ => 1 | .run => 2 | .wake => 2 | .standby => 3 | .proofEnter _ _ _ => 4 | .proofExit => 5 | .update => 6 | .wipe _ => 7

/-- Insertion by rank, later requests of one rank behind earlier ones. -/
def insertMode (x : Nat × Nat × ModeReq) : List (Nat × Nat × ModeReq) → List (Nat × Nat × ModeReq)
  | [] => [x]
  | y :: l => if x.2.2.rank < y.2.2.rank then x :: y :: l else y :: insertMode x l

/-- Every mode change that is due at the boundary just begun (R34, R35). -/
def Device.dueModes (d : Device) : Device :=
  let due := d.mode.pending.filter fun p => decide (p.1 ≤ d.time.tick)
  let rest := d.mode.pending.filter fun p => !decide (p.1 ≤ d.time.tick)
  let d := { d with mode := { d.mode with pending := rest } }
  (due.foldl (fun l p => insertMode p l) []).foldl (fun d p => d.applyMode p.2.2) d

/-- A mode change asked by a command: at once at the command's own boundary, else pending. -/
def Device.commandMode (d : Device) (c : Cmd) (r : ModeReq) (tick : Nat) : Device :=
  if c.atNow && tick == d.time.tick then (d.applyMode r).reportMode else d.askMode tick c.acc r

/-- Engines that SET_MODE RUN or a wake ungates report running at an instant within 10 µs that the spec leaves open (R29; a free
value, log 22): the first boundary after it. -/
def Device.wakeBoundary (d : Device) (t least : Nat) : Nat × Device :=
  let (k, d) := d.free
  (d.boundaryAt d.time.frame (max least (t + k % 160001)), d)

/-! ### The registration status word (R346) -/

def RegState.code : RegState → Nat | .unjoined => 0 | .joining => 1 | .aligning => 2 | .registered => 3 | .failed => 4

/-- TIMEKEEPER: a registered device that holds the role. -/
def RegUnit.isKeeper (r : RegUnit) : Bool := r.state == .registered && r.timekeeper

/-- GENERATING: the timekeeper, joined with GENERATE, drives marks (R326, R335). -/
def RegUnit.generating (r : RegUnit) : Bool := r.isKeeper && r.generate

/-- HOLDOVER: a registered device without a time parent (R332). -/
def RegUnit.inHoldover (r : RegUnit) : Bool := r.state == .registered && !r.timekeeper && r.parent.isNone

def Device.regWord (d : Device) : Nat :=
  let r := d.reg
  r.state.code + flag r.isKeeper 3 + flag r.inHoldover 4 + flag r.nMismatch 5 + flag r.markMiss 6 + flag r.markBad 7 + flag r.cabling 8 +
  flag r.generating 9 + flag (r.path ≠ 63 && decide (40 < r.path)) 10 +
  ((List.range 6).foldl (fun w p => w + flag (d.port p).up p) 0) * 65536

/-- A change of STATE, TIMEKEEPER or HOLDOVER since `old` writes a registration notice (R346, R375). -/
def Device.regNotice (d : Device) (old : RegUnit) : Device :=
  if d.reg.state = old.state ∧ d.reg.isKeeper = old.isKeeper ∧ d.reg.inHoldover = old.inHoldover then d
  else d.notice 0 6 0 d.time.now (le32 d.regWord)

/-- A warm-reset device joined with AUTO_REJOIN enters JOINING as a member once the Zhepin controller is ready (R328). -/
def Device.rejoin (d : Device) : Device :=
  if d.reg.autoRejoin && d.reg.state == .unjoined then
    let d' : Device := { d with reg := { d.reg with state := .joining, timekeeper := false, id := none, joinedAt := d.time.now } }
    d'.regNotice d.reg
  else d

/-! ### System opcodes (R386..R388) -/

def runNop (_c : Cmd) (d : Device) : Res := ok d []

def ident : Nat := 0x9512 + (stepping.toNat % 16) * 65536

/-- The device ID as replies carry it: 0xFFFF while unjoined (R387). -/
def Device.idWord (d : Device) : Nat := match d.reg.id with | some i => i | none => 0xFFFF

def runIdentify (c : Cmd) (d : Device) : Res :=
  ok d (le32 ident ++ le32 d.aon.fwVersion ++ le16 d.idWord ++ [BitVec.ofNat 8 c.env.fn, BitVec.ofNat 8 d.numVFs] ++
    le16 (d.ownedCount c.env.fn) ++ zeros 2 ++ serial ++ [BitVec.ofNat 8 d.otp.lc, BitVec.ofNat 8 d.press.bank] ++ zeros 30)

def runGetMode (_c : Cmd) (d : Device) : Res := ok d (le32 d.mode.word ++ zeros 4 ++ le64 d.mode.changedAt)

/-- The 256 bytes of the READY words (R506). -/
def Device.readyBytes (d : Device) : List Byte :=
  leBytes 64 d.ready.links ++ leBytes 12 d.ready.eng ++ zeros 4 ++ leBytes 8 d.ready.region ++ le32 d.ready.caseR ++ le32 d.ready.blk ++ zeros 160

def runGetReady (_c : Cmd) (d : Device) : Res := ok d d.readyBytes

def runGetTime (c : Cmd) (d : Device) : Res :=
  ok d (le64 (d.tickOfFrame c.frame) ++ le64 c.frame ++ le32 d.time.n ++ le32 (flag d.time.localTime 0 + flag (d.reg.state == .registered) 1))

/-- The checks of SET_MODE that depend on the packet alone (R36). -/
def setModeStatic (c : Cmd) : List Check := [bad (c.u32 0 ≠ 3 && c.u32 0 ≠ 4 && c.u32 0 ≠ 7) 0]

/-- SET_MODE (R36): the boundary of the change is the reply. -/
def runSetMode (c : Cmd) (d : Device) : Res :=
  let t := c.u32 0
  let live := d.mode.phase == .normal
  if t = 7 then
    checked d (setModeStatic c ++ [no (d.mode.phase == .wipe || d.mode.phase == .returned) stWRONG_MODE])
      (let b := d.boundary c
       okBoundary (if d.inSafe then d else d.commandMode c (.safe 1) b) b)
  else if t = 4 then
    checked d (setModeStatic c ++ [no (!live || d.inProof) stWRONG_MODE, no (d.inSafe && d.safeBit) stFAULT_ACTIVE])
      (if d.inStandby then
         let (b, d) := d.wakeBoundary d.time.now (d.boundary c)
         let d' : Device := { d with mode := { d.mode with waking := some b } }
         okBoundary (d'.askMode b c.acc .run) b
       else
         let b := d.boundary c
         okBoundary (if d.inSafe then d.commandMode c .run b else d) b)
  else
    checked d (setModeStatic c ++ [no (!live || d.inProof) stWRONG_MODE, no d.anyArmed stBUSY, no (d.inSafe && d.safeBit) stFAULT_ACTIVE])
      (let b := d.boundary c
       okBoundary (if d.inStandby then d else d.commandMode c .standby b) b)

/-! ### RESET_BLOCK and its readiness (R388, R484, R508) -/

/-- The blocks that RESET_BLOCK lists (R388). -/
def resetListed (b : Nat) : Bool := decide (b ≤ 8) || b == 50 || b == 55 || b == 57 || b == 62

/-- The ready bit of a listed block other than an engine: BLK_READY bit. -/
def resetReadyBit (b : Nat) : Nat := if b = 50 then bCALIB else if b = 55 then bZHEPIN else if b = 57 then bPRESSSB else bFLASH

/-- RESET_BLOCK's condition refuses with BUSY (R388). -/
def Device.resetBusy (d : Device) (b u : Nat) : Bool :=
  if b ≤ 8 then (d.slotOf u).isSome
  else if b = 50 then d.chans.any fun c => c.2.cal.persist.isSome
  else if b = 55 then d.reg.state == .joining || d.reg.state == .aligning || d.reg.state == .registered
  else if b = 57 then d.mode.updActive
  else d.flash.busy

/-- A partial accumulation of a channel is discarded (R134, R388). -/
def CalUnit.dropPartial (c : CalUnit) : CalUnit :=
  { c with sum := 0, count := 0, points := [], thTotal := 0, thCount := 0, lost := false, fits := [], ask := none, asked := none,
           kind := 1 }

/-- The block whose events a shadow covers, for a reset of R388. -/
def resetShadow (b u : Nat) : ShadowBlock :=
  if b ≤ 8 then .engine (Fin.ofNat 72 u) else if b = 50 then .calib else if b = 55 then .zhepin else if b = 57 then .standbyPress else .flash

/-- A shadow opens (R488); its end is known once the block reports ready. -/
def Device.openShadow (d : Device) (b : ShadowBlock) (cause : Nat) (till : Option Nat) : Device :=
  let rest := d.flt.shadows.filter fun s => s.block ≠ b
  { d with flt := { d.flt with shadows := rest ++ [{ block := b, cause := cause, until_ := till }] } }

/-- A listed block is reset (R388, R480): its ready bit clears at the next boundary, its working state goes, and it restarts. -/
def Device.resetBlock (d : Device) (b u : Nat) (env : Option Env) (cause : Nat) : Device :=
  let d := d.openShadow (resetShadow b u) cause none
  let r : BlockReset := { bit := b, unit := u, env := env }
  let d := { d with resets := d.resets ++ [r] }
  if b ≤ 8 then { d with ready := { d.ready with engClr := setBit d.ready.engClr u } }
  else
    let d := { d with ready := { d.ready with blkClr := setBit d.ready.blkClr (resetReadyBit b) } }
    if b = 50 then d.each d.usedChans fun d ch => d.onCal ch CalUnit.dropPartial
    else if b = 55 then
      { d with reg := { d.reg with ports := (d.reg.ports.map fun p => (p.1, { trim := p.2.trim : ZPort })).filter fun p => p.2 ≠ {}, seen := [] } }
    else if b = 57 then { d with press := { d.press with standbyReady := false, alt := true } }
    else d

/-- The checks of RESET_BLOCK that depend on the packet alone (R388). -/
def resetBlockStatic (c : Cmd) : List Check :=
  let b := c.u16 0
  let u := c.u16 2
  [bad (!resetListed b) 0, bad (if b ≤ 8 then decide (u / 8 ≠ b) else u ≠ 0) 2, resv c.par [4, 5, 6, 7]]

def runResetBlock (c : Cmd) (d : Device) : Res :=
  checked d (resetBlockStatic c ++ [no (d.resetBusy (c.u16 0) (c.u16 2)) stBUSY])
    (.interim stACCEPTED [], d.resetBlock (c.u16 0) (c.u16 2) (some c.env) 0)

/-- A block under reset reports ready: RESET_BLOCK is answered with the instant, and the shadow's end, the tick two frames after,
becomes known (R386, R488). An engine that fails its self-test stays held faulty and raises its bit (R484). -/
def Device.resetDone (d : Device) (b u t : Nat) (passed : Bool) : Device :=
  let mine := d.resets.filter fun r => r.bit == b && r.unit == u
  if mine.isEmpty then d
  else
    let d := { d with resets := d.resets.filter fun r => !(r.bit == b && r.unit == u) }
    let d := d.openShadow (resetShadow b u) (match d.flt.shadows.find? fun s => s.block == resetShadow b u with | some s => s.cause | none => 0)
               (some (d.nextTick + 160 * d.time.n))
    let st := if passed then stOK else stFAULT_ACTIVE
    mine.foldl (fun d r => d.final? r.env st (if passed then le64 t else [])) d

end Sys2Proof.Machine
end

