-- ==== Sys2Proof/Machine/Faults.lean ====
section
/-! DEFINITION. Faults: reactions (R479..R483), shadows (R488..R490), sparing and Press takeover (R484..R487), and the fault
opcodes (R412..R414). -/

namespace Sys2Proof.Machine

/-- Channels of a slot (R12). -/
def slotChans (j : Nat) : List Nat := offsets (8 * j) (8 * j + 7)

/-- The channel that a link serves: its own, or the lower of its dual-homed pair (R12, R184). -/
def Device.chanOfLink (d : Device) (l : Nat) : Nat := if (d.link l).dual then l / 2 * 2 else l

/-- Channels whose forme depends on main memory (R218, R248). -/
def Device.memDepChans (d : Device) : List Nat := (d.chans.filter fun c => c.2.seq.memdep).map (·.1)

/-- Channels that PARK_CHANNELS parks for an event (last column of R479, R560). -/
def Device.parkTargets (d : Device) (e : ErrEvent) : List Nat :=
  let b := e.bit.val
  let own := match e.ch with | some c => [c.val] | none => []
  if b ≤ 8 then match d.slotOf (8 * b + e.unit.val) with | some j => slotChans j | none => []
  else if b ≤ 40 then
    let l := 16 * (b - 9) + e.unit.val
    if (d.link l).dual && d.linkUp (if l % 2 = 0 then l + 1 else l - 1) then [] else [d.chanOfLink l]
  else if b ≤ 45 then d.memDepChans
  else if b = 47 then
    match e.word with
    | .mirror s => slotChans s.val
    | .channelData c => [c.val]
    | .program c => [c.val]
    | .profile c => [c.val]
    | .other => []
  else if b = 48 then own
  else if b = 56 then d.usedChans
  else []

/-- PARK_ZONE adds every armed channel bound to a zone of any of those channels (R480). -/
def Device.widenZones (d : Device) (l : List Nat) : List Nat :=
  let zones := (l.map fun ch => (d.model ch).zone).filter fun z => z ≠ 0xFF
  l ++ (d.usedChans.filter fun ch => !l.contains ch && zones.contains (d.model ch).zone)

/-- The reaction that proof masking leaves of an injected event (R496). -/
def maskedReaction (r : Nat) : Nat := if r = 5 ∨ r = 6 then 1 else if r = 3 then 2 else r

/-- A fault notice (kind 10, R375, R480). -/
def Device.faultNotice (d : Device) (l : Latched) : Device := d.notice 0 10 0 l.stamp (le64 l.pf)

/-- A faulted engine stops and is held faulty; its shadow opens and its slot is swapped at the next tick (R92, R484, R488). -/
def Device.startSwap (d : Device) (e : Nat) (l : Latched) : Device :=
  let d := d.setEngine e { d.engine e with faulty := true, errored := true }
  let d := d.openShadow (.engine (Fin.ofNat 72 e)) l.id none
  { d with ready := { d.ready with engClr := setBit d.ready.engClr e },
           sched := d.sched ++ [{ tick := d.nextTick, acc := d.cmd.nextAcc, act := .spareSwap e }] }

/-- One latched event's reaction (R480, R481, R496). -/
def Device.react (d : Device) (l : Latched) : Device :=
  let injected := l.ev.inj && !l.ev.real
  let r := if d.mode.phase = .returned then 0 else if injected then maskedReaction l.reaction else l.reaction
  let keep (cs : List Nat) := if injected then cs.filter fun ch => bit d.proof.channels ch else cs
  let d := if r = 0 then d else d.faultNotice l
  match r with
  | 2 => d.parkAll (keep (d.parkTargets l.ev)) 2 (l.stamp + 320)
  | 3 => d.parkAll (d.widenZones (d.parkTargets l.ev)) 2 (l.stamp + 320)
  | 4 => if l.ev.bit.val ≤ 8 then d.startSwap (8 * l.ev.bit.val + l.ev.unit.val) l else d
  | 5 => if d.resetBusy l.ev.bit.val 0 then d else d.resetBlock l.ev.bit.val 0 none l.id
  | 6 => d.askMode (l.stamp + 320) d.cmd.nextAcc (.safe 2)
  | _ => d

/-- Order of events in one reaction: spare swaps in ascending slot order (R482), others as latched. -/
def insertBySlot (key : Latched → Nat) (x : Latched) : List Latched → List Latched
  | [] => [x]
  | y :: l => if key x < key y then x :: y :: l else y :: insertBySlot key x l

/-- FAULT_REACTION: the reactions of every latched event are carried out together (R482). -/
def Device.faultReaction (d : Device) : Device :=
  let key (l : Latched) := if l.reaction = 4 then 1 + (d.slotOf (8 * l.ev.bit.val + l.ev.unit.val)).getD 64 else 0
  let ls := d.flt.latched.foldl (fun acc l => insertBySlot key l acc) []
  let d := { d with flt := { d.flt with latched := [] } }
  ls.foldl (fun d l => d.react l) d

/-- The lowest-numbered engine that holds no slot, is not held faulty and passed its last self-test (R92). -/
def Device.spare? (d : Device) : Option Nat :=
  (List.range 72).find? fun e => (d.slotOf e).isNone && !(d.engine e).faulty && (d.engine e).tested

/-- A channel's engine state from the slot's last mirror (R92). The migration ends the aperture under way (R78); the folio counts on (R86),
and an aperture that was finished before the mirror was written has had its slug (DEDUCED, log 121). -/
def Chan.fromMirror (c : Chan) : Chan :=
  let a : Aper := if c.aper.ended.isSome then c.aper else if c.mirror.aper.ended.isSome then {} else c.mirror.aper
  { c with loop := { c.mirror.loop with code := c.loop.code, sent := c.loop.sent }, range := c.mirror.range,
           aper := { a with folio := c.aper.folio, cut := true }, migrated := true }

/-- The spare takes the faulted engine's slot at the tick just begun (R92), or the slot's channels take a hard park with cause 0x7
and it stays unserved (R93). -/
def Device.applySwap (d : Device) (e : Nat) : Device :=
  match d.slotOf e with
  | none => d
  | some j =>
    let cause := match d.flt.shadows.find? fun s => s.block == .engine (Fin.ofNat 72 e) with | some s => s.cause | none => 0
    match d.spare? with
    | none => (d.setSlot j { d.slot j with engine := some 72 }).parkAll (slotChans j) 7 d.time.tick
    | some s =>
      let d := d.setSlot j { d.slot j with engine := if s = j then none else some s }
      let d := d.each (slotChans j) fun d ch => d.onChan ch Chan.fromMirror
      d.openShadow (.engine (Fin.ofNat 72 e)) cause (some (d.time.tick + 2 * (160 * d.time.n)))

/-- ERROR_LINE_RISE (R474): latched; an injected check cycle uses up one of its injection's cycles (R493; DEDUCED, log 25). -/
def Device.errorLine (d : Device) (e : ErrEvent) (t : Nat) : Device :=
  let d := (d.at t).raiseErr e t
  let use (i : Injection) := e.inj && i.bit == e.bit.val
  let d := { d with proof := { d.proof with injections :=
    (d.proof.injections.map fun i => if use i then { i with left := i.left - 1 } else i).filter fun i => decide (0 < i.left) } }
  if e.bit.val = 47 ∧ ¬ (e.inj ∧ ¬ e.real) then
    { d with ready := { d.ready with caseBad := setBit d.ready.caseBad e.region.val, caseClr := setBit d.ready.caseClr e.region.val } }
  else d

/-- SHADOW_END (R490): consequential events whose detectors still fail become new events that name the shadow's cause. -/
def Device.shadowEnd (d : Device) (b : ShadowBlock) (persists : List ErrEvent) : Device :=
  match d.flt.shadows.find? fun s => s.block == b with
  | none => d
  | some s =>
    let live := persists.filter fun e => d.flt.conseq.any fun c => c.1 == e && c.2 == s.cause
    let d := { d with flt := { d.flt with shadows := d.flt.shadows.filter fun x => x.block ≠ b,
                                          conseq := d.flt.conseq.filter fun c => !(c.1.fedBy == some b && c.2 == s.cause) } }
    live.foldl (fun d e => d.raiseErrAs { e with fedBy := none } d.time.now none s.cause) d

/-- The standby pair takes over (R485): active from the recorded command state, PRESS_ALT set, the halted pair reloading. -/
def Device.takeover (d : Device) (cause : Nat) : Device :=
  let d := { d with press := { d.press with pair := 1 - d.press.pair, standbyReady := false, alt := true, reloading := some false } }
  d.openShadow .standbyPress cause (some (d.nextTick + 160 * d.time.n))

/-- The switch of UPD_SWITCH ends with its outcome; the completion carries `st` (R486, R519). -/
def Device.endSwitch (d : Device) (st : Nat) (payload : List Byte) : Device :=
  let d := d.final? d.update.switchEnv st payload
  { d with update := { d.update with switchEnv := none }, mode := { d.mode with update := false, updActive := false, updStaged := false } }

/-- PRESS_LOCKSTEP_MISMATCH (R485, R486). Within UPDATE the active pair hands over to the loading pair, and a mismatch in the loading
pair ends the switch. -/
def Device.pressMismatch (d : Device) (standby : Bool) (t : Nat) : Device :=
  let id := d.flt.nextId
  let d := (d.at t).raiseErr (errAt 57 0 5 none) t
  if d.mode.updActive then
    if standby then
      let d := d.endSwitch stFAULT_ACTIVE []
      { d with press := { d.press with standbyReady := false, alt := true, reloading := some false } }
    else d
  else if standby then
    let d := d.openShadow .standbyPress id none
    { d with press := { d.press with standbyReady := false, alt := true, reloading := some false } }
  else if d.press.standbyReady then d.takeover id
  else
    let d := d.openShadow .activePress id none
    { d with press := { d.press with active := false, alt := true, reloading := some true },
             ready := { d.ready with blkClr := setBit d.ready.blkClr bPRESS } }

/-- PRESS_RELOAD_COMPLETE (R485): the reset pair serves again, or stays out of service; a failed reload of the only pair carries out
SAFE and its cause holds until a warm reset. -/
def Device.pressReload (d : Device) (ok : Bool) : Device :=
  match d.press.reloading with
  | none => d
  | some false =>
    if ok then { d with press := { d.press with reloading := none, standbyReady := true, standbyOut := false, alt := false },
                        ready := { d.ready with blkNext := setBit d.ready.blkNext bPRESSSB } }
    else { d with press := { d.press with reloading := none, standbyOut := true, alt := true },
                  ready := { d.ready with blkClr := setBit d.ready.blkClr bPRESSSB } }
  | some true =>
    if ok then
      let d := { d with press := { d.press with reloading := none, active := true }, ready := { d.ready with blkNext := setBit d.ready.blkNext bPRESS } }
      match d.flt.shadows.find? fun s => s.block == .activePress with
      | some s => d.openShadow .activePress s.cause (some (d.nextTick + 160 * d.time.n))
      | none => d
    else { d with press := { d.press with reloading := none, dead := true } }.askMode d.nextTick d.cmd.nextAcc (.safe 2)

/-- PROOFREADER_MISMATCH (R487): bit 63 with CHECK 0x5 and SAFE whatever its reaction. -/
def Device.proofreaderMismatch (d : Device) (t : Nat) : Device :=
  let d := (d.at t).raiseErrAs (errAt 63 0 5 none) t (some 6) 0
  { d with flt := { d.flt with mismatch := true } }

/-- SPARE_SELFTEST (R22, R484): a spare that fails is held faulty and raises its bit. -/
def Device.spareSelftest (d : Device) (e : Nat) (ok : Bool) : Device :=
  if (d.slotOf e).isSome || (d.engine e).faulty then d
  else if ok then d.setEngine e { d.engine e with tested := true }
  else
    let d := d.setEngine e { d.engine e with tested := false, faulty := true }
    { d with ready := { d.ready with engClr := setBit d.ready.engClr e } }.raiseErr (errAt (e / 8) (e % 8) 10 none) d.time.now

/-! ### The fault opcodes (R412..R414) -/

/-- Bits whose cause still holds (R414, R477): die shutdown, an uncorrected Case memory region, a Press pair with no working pair,
a Proofreader self-compare failure. -/
def Device.causesHold (d : Device) : Nat :=
  flag d.imp.die.shutdown 59 + flag (d.ready.caseBad ≠ 0) 47 + flag (d.press.dead || d.press.reloading == some true) 57 + flag d.flt.mismatch 63

def runFltStatus (_c : Cmd) (d : Device) : Res :=
  ok d (le64 d.flt.pf ++ le64 d.flt.injOnly ++ le64 d.flt.shadowFlags ++ le64 d.flt.earliest ++ le32 d.flt.records ++ zeros 4)

/-- The PF_WORD bit of a unit's error word (inverse of `errIndex`). -/
def errBitOf (ix : Nat) : Nat :=
  if ix < 72 then ix / 8 else if ix < 584 then 9 + (ix - 72) / 16 else if ix < 600 then 41 + (ix - 584) else ix - 600

/-- Named bits cleared: PF_WORD, their events, SHADOW flags and error words with their COUNT (R414, R472). -/
def Proofreader.clear (p : Proofreader) (mask : Nat) : Proofreader :=
  let events := p.events.filter fun e => !bit mask e.bit
  { p with
    pf := (List.range 64).foldl (fun w b => if bit mask b then clrBit w b else w) p.pf
    events := events
    earliest := earliestOf events
    shadowFlags := (List.range 64).foldl (fun w b => if bit mask b then clrBit w b else w) p.shadowFlags
    words := p.words.filter fun w => !bit mask (errBitOf w.1) }

/-- FLT_CLEAR (R414): refused whole, with the mask that could not be cleared, while a named bit's cause holds. -/
def runFltClear (c : Cmd) (d : Device) : Res :=
  let m := c.u64 0
  let hold := m &&& d.causesHold
  checked d [(hold ≠ 0, stFAULT_ACTIVE, le64 hold)]
    (let d := { d with flt := d.flt.clear m }
     ok d (le64 d.flt.pf))

def fltReactionStatic (c : Cmd) : List Check :=
  [bad (decide (63 < c.u8 0)) 0, bad (!(reactionsAllowed (c.u8 0)).contains (c.u8 1)) 1, resv c.par [2, 3]]

/-- FLT_REACTION's setting, from its boundary on (R483). -/
def applyFltReaction (c : Cmd) (d : Device) : Device :=
  { d with flt := { d.flt with reactions := tabSet (reactionReset (c.u8 0)) d.flt.reactions (c.u8 0) (c.u8 1) } }

def runFltReaction (c : Cmd) (d : Device) : Res :=
  checked d (fltReactionStatic c) (ok (d.atBoundary .fltReaction c applyFltReaction) [])

/-- The oldest journal record kept (R521). -/
def Flash.oldest (f : Flash) : Nat := match f.journal with | [] => f.jcount | (k, _) :: _ => k

/-- Records of the journal from an index (R521): at most `count`, from the oldest kept where the first is older. -/
def Flash.records (f : Flash) (first count : Nat) : List (List Byte) :=
  ((f.journal.filter fun r => decide (max first f.oldest ≤ r.1)).take count).map (·.2)

/-- FLT_LOG (R412). -/
def runFltLog (c : Cmd) (d : Device) : Res :=
  let rs := d.flash.records (c.u32 0) (c.u32 4)
  checked d [bad (decide (c.u32 4 < 1) || decide (64 < c.u32 4)) 4, bad (decide (d.flash.jcount ≤ c.u32 0)) 0]
    (.both [] stOK (le32 rs.length ++ zeros 4 ++ rs.flatten), d)

end Sys2Proof.Machine
end

