-- ==== Sys2Proof/Machine/Power.lean ====
section
/-! DEFINITION. Power, resets, bring-up and readiness (R35, R500..R513, R537, R556), die shutdown and debug attempts (R312, R515). -/

namespace Sys2Proof.Machine

/-- What a reset keeps (R503): the kind of reset. -/
inductive ResetKind where
  | cold | warm | lifecycle
  deriving DecidableEq, Repr

/-- The configuration in force (R514): the authentic copy with the higher sequence number; none where there is none. -/
def Flash.config (f : Flash) : Option ConfigCopy :=
  let a := tabGet {} f.configs 0
  let b := tabGet {} f.configs 1
  if a.authentic && b.authentic then some (if a.seq < b.seq then b else a)
  else if a.authentic then some a else if b.authentic then some b else none

/-- Is a link enabled after reset (R175, R514). With no configuration in force every link is (DESIGN CHOICE, log 20). -/
def Flash.linkEnabled (f : Flash) (l : Nat) : Bool :=
  match f.config with
  | some c => bit (byteAt c.bytes (8 + l / 8)) (l % 8)
  | none => true

/-- PROOF is permitted in FIELD-LOCKED (R36, R514). -/
def Flash.proofPermitted (f : Flash) : Bool := match f.config with | some c => bit (byteAt c.bytes 1) 0 | none => false

/-- The memory data rate after a cold reset (R446, R514). -/
def Flash.coldRate (f : Flash) : Nat :=
  match f.config with
  | some c => let r := byteAt c.bytes 2
              if r = 16 ∨ r = 20 ∨ r = 24 ∨ r = 28 then r else 32
  | none => 32

/-- Kind of the newest journal record, in the buffer or programmed (R524): its kind and its timestamp. -/
def Device.newestRecord (d : Device) : Option (Nat × Nat) :=
  match d.aon.jbuf.getLast? with
  | some r => some (r.kind, r.stamp)
  | none => d.flash.journal.getLast?.map fun r => (byteAt r.2 0, u64At r.2 8)

/-- A row-retirement record's payload (R523): device, channel, bank, row, spare row, lost flag. DESIGN CHOICE (log 23): field widths. -/
def rowRecord (dev bank row spare : Nat) (lost : Bool) : List Byte :=
  [BitVec.ofNat 8 dev, BitVec.ofNat 8 (bank / 256)] ++ le16 (bank % 256) ++ le32 row ++ le32 spare ++ [BitVec.ofNat 8 (flag lost 0)]

/-- The remap entries of a device that the journal holds (R464, R524). -/
def Flash.remapOf (f : Flash) (dev : Nat) : List (Nat × Nat) :=
  (f.journal.filter fun r => byteAt r.2 0 == 5 && byteAt r.2 32 == dev && byteAt r.2 44 == 0).map fun r =>
    ((byteAt r.2 33 * 256 + u16At r.2 34) * 65536 + u32At r.2 36, u32At r.2 40)

/-- A delay block that came through a warm reset: KEPT is set (R458). -/
def keptBlock (l : List Byte) : List Byte := if l.isEmpty then l else l.set 4 (BitVec.ofNat 8 (setBit (byteAt l 4) 1))

/-- The device at the start of BRING-UP after a reset (R35, R502, R503): every block wiped to its after-reset values but for what
the kind of reset keeps. -/
def Device.restart (d : Device) (k : ResetKind) : Device :=
  let warm := k == ResetKind.warm
  let n := if warm then d.time.n else 100
  let remap (m : Nat) := if warm then (d.memDev m).remap else d.flash.remapOf m
  let rejoin := warm && d.reg.autoRejoin
  let dev (m : Nat) : MemDev :=
    { remap := remap m, lostRows := if warm then (d.memDev m).lostRows else [], block := if warm then keptBlock (d.memDev m).block else [] }
  let aon := { d.aon with
    porstHigh := true, warmHigh := true, pg := 15, coldSeen := false, force := false, boots := d.aon.boots + 1
    smbAddr := if k == ResetKind.cold then 0x4C else d.aon.smbAddr
    snapshot := if warm then some d.flt.pf else none }
  let links : Tab Link := if warm then (d.links.map fun l => (l.1, { trim := l.2.trim : Link })).filter fun l => l.2 ≠ {} else []
  let ports : Tab ZPort := if warm then (d.reg.ports.map fun p => (p.1, { trim := p.2.trim : ZPort })).filter fun p => p.2 ≠ {} else []
  let reg : RegUnit :=
    if rejoin then
      { generate := d.reg.generate, deputy := d.reg.deputy, autoRejoin := true, n := d.reg.n, m := d.reg.m,
        e := d.reg.e, nExpected := d.reg.nExpected, lambda := d.reg.lambda, ports := ports }
    else { lambda := if warm then d.reg.lambda else 0, ports := ports }
  let d' : Device :=
    { aon := aon, otp := d.otp, flash := { d.flash with busy := false, erases := [] }
      time := { n := n }
      mode := { phase := .bringUp, safePend := d.mode.safePend && k == ResetKind.lifecycle, word := 0x00200002 + d.otp.lc * 256 }
      ready := { blk := 1 }
      mem := { rate := if warm then d.mem.rate else d.flash.coldRate
               devs := ((List.range 5).map fun m => (m, dev m)).filter fun m => m.2 ≠ {} }
      links := links, reg := reg, edge := { resetN := n }
      imp := { die := { temp := d.imp.die.temp, hist := if warm then d.imp.die.hist else [] } }
      flt := { reactions := if warm then d.flt.reactions else [], nextId := if warm then d.flt.nextId else 1 }
      freeCtr := d.freeCtr }
  let d' := match d.newestRecord with
    | some (kind, stamp) => if kind == 0x0D || k == ResetKind.lifecycle then d' else d'.journal 3 0 255 0 0 0 0 (le64 stamp)
    | none => d'
  let d' := if warm && d.flt.pf ≠ 0 then d'.journal 2 2 255 0 0 0 0 (le64 d.flt.pf) else d'
  let unknown := d.flash.unknown ++ (d.flash.erases.filter (·.running)).map (·.sector)
  let d' := unknown.foldl (fun d s => d.journal 10 2 255 0 0 0 0 (le32 (s * 65536))) d'
  { d' with flash := { d'.flash with unknown := [], erases := unknown.map fun s => { sector := s, running := false } } }

/-- POWER_LOSS (R35): OFF; only OTP and the boot flash survive. A bank that was being written is invalid (R520). -/
def Device.powerLoss (d : Device) (_t : Nat) : Device :=
  let running := (d.flash.erases.filter (·.running)).map (·.sector)
  { otp := d.otp, flash := { d.flash with busy := false, erases := [], unknown := d.flash.unknown ++ running }, freeCtr := d.freeCtr }

/-- POWER_ON (R35, R376): VDD_AON returns while PORST_N is held low; HELD, with the always-on domain and SMBus served. -/
def Device.powerOn (d : Device) (bootSel : Nat) : Device :=
  if d.mode.phase = .off then
    { otp := d.otp, flash := d.flash, freeCtr := d.freeCtr
      aon := { vddAon := true, bootSel := bootSel, coldSeen := true }, mode := { phase := .held } }
  else d

/-- Entry into HELD (R35, R501): ticks and links stop; a clean-end record names the cause. -/
def Device.hold (d : Device) (t cause : Nat) : Device :=
  if d.mode.phase = .off ∨ d.mode.phase = .held then d
  else
    let d := (d.at t).journal 0x0D d.modeCode 255 t 0 0 0 [BitVec.ofNat 8 cause]
    { d with mode := { d.mode with phase := .held, safe := false, standby := true, proof := false, update := false, pending := [] }
             time := { d.time with running := false }
             cmd := {}, fast := [], sched := []
             links := (d.links.map fun l => (l.1, { l.2 with state := .disabled, held := false, up := none })) }

/-- PORST_N_ASSERT, WARM_RST_N_ASSERT, PG_FALL (R501, R502). -/
def Device.porstAssert (d : Device) (t : Nat) : Device :=
  if d.mode.phase = .off then d
  else let d := d.hold t 0
       { d with aon := { d.aon with porstHigh := false, coldSeen := true } }
def Device.warmAssert (d : Device) (t : Nat) : Device :=
  if d.mode.phase = .off then d
  else let d := d.hold t 1
       { d with aon := { d.aon with warmHigh := false } }
def Device.pgFall (d : Device) (pg t : Nat) : Device :=
  if d.mode.phase = .off then d
  else let d := d.hold t 2
       { d with aon := { d.aon with pg := clrBit d.aon.pg pg, coldSeen := true } }

/-- HELD_RELEASE (R35, R502): resets and power-good inputs high; cold where PORST_N or a PG input was low, else warm. -/
def Device.heldRelease (d : Device) (bootSel : Nat) : Device :=
  if d.mode.phase = .held then
    let d := { d with aon := { d.aon with bootSel := bootSel } }
    d.restart (if d.aon.coldSeen then .cold else .warm)
  else d

/-- The bank that BOOT_SEL chooses (R512), and whether it is the fallback from the boot bank. -/
def Device.chooseBank (d : Device) : Nat × Bool :=
  match d.aon.bootSel with
  | 1 => (0, false)
  | 2 => (1, false)
  | _ =>
    let b := d.flash.bootBank
    if (tabGet {} d.flash.banks b).authentic || !(tabGet {} d.flash.banks (1 - b)).authentic then (b, false) else (1 - b, true)

/-- The configuration is read once the flash interface is ready (R509, R514): SMBus address and FIFO organisations; the memory rate
of a cold reset stands from the restart. -/
def Device.readConfig (d : Device) : Device :=
  match d.flash.config with
  | none => d
  | some c =>
    let sel (i : Nat) := byteAt c.bytes (4 + i)
    { d with aon := { d.aon with smbAddr := byteAt c.bytes 0 % 128 }
             queue := { d.queue with fifoSel := (List.range 4).map sel } }

/-- What a block does as it becomes able to serve: outputs and units that R504 and its own rules give. -/
def Device.blockServes (d : Device) (b t : Nat) : Device :=
  if b = bTIMEBASE then { d with time := { d.time with running := true } }
  else if b = bFLASH then d.readConfig
  else if b = bLINKS then
    d.each channels fun d l => if d.flash.linkEnabled l then d.onLink l fun x => { x with state := .search } else d
  else if b = bAXD then d.each (List.range 16) fun d a => d.setAxd a { d.axd a with out := some 0x20000 }
  else if b = bPRESS then
    let (bank, fb) := d.chooseBank
    let v := (tabGet {} d.flash.banks bank).version
    let d := d.journal 8 2 255 t 0 0 0 ([BitVec.ofNat 8 bank] ++ le32 v ++ [BitVec.ofNat 8 d.aon.bootSel, BitVec.ofNat 8 (flag fb 0)])
    { d with press := { d.press with active := true, bank := bank, version := v }, aon := { d.aon with fwVersion := v } }
  else if b = bZHEPIN then d.rejoin
  else if b = bPRESSSB then { d with press := { d.press with standbyReady := true, alt := d.press.alt && d.press.standbyOut } }
  else d

/-- BLOCK_READY (R507, R508): the bit sets at the next frame boundary; a block under reset completes its RESET_BLOCK (R388). A unit
that fails its test stays out of service: an engine held faulty with its bit raised (R484), a Case memory region with bit 47, the
Press with bit 63 and CHECK 0xA (R513), the standby pair with PRESS_ALT (R485). -/
def Device.blockReady (d : Device) (u : ReadyUnit) (ok : Bool) : Device :=
  if !d.running then d
  else
    match u with
    | .blk b =>
      let b := b.val
      let rb := if b = bCALIB then 50 else if b = bZHEPIN then 55 else if b = bPRESSSB then 57 else if b = bFLASH then 62 else 255
      if ok then
        if b = bPCIE && !d.aon.perstHigh then d
        else
          let d := (d.blockServes b d.time.now).resetDone rb 0 d.time.now true
          { d with ready := { d.ready with blkNext := setBit d.ready.blkNext b } }
      else if b = bPRESS then d.raiseErr (errAt 63 0 10 none) d.time.now
      else if b = bPRESSSB then
        { d.resetDone rb 0 d.time.now false with press := { d.press with standbyOut := true, standbyReady := false, alt := true } }
      else d
    | .engine e =>
      let e := e.val
      if ok then
        let d := (d.setEngine e { d.engine e with faulty := false, tested := true, errored := false }).resetDone (e / 8) e d.time.now true
        { d with ready := { d.ready with engNext := setBit d.ready.engNext e } }
      else
        let d := (d.setEngine e { d.engine e with faulty := true, tested := false }).resetDone (e / 8) e d.time.now false
        d.raiseErr (errAt (e / 8) (e % 8) 10 none) d.time.now
    | .caseRegion r =>
      if ok then { d with ready := { d.ready with caseNext := setBit d.ready.caseNext r.val } }
      else { d with ready := { d.ready with caseBad := setBit d.ready.caseBad r.val } }.raiseErr (errAt 47 0 1 none) d.time.now

/-- Every block is ready or retired (R35, R508): the blocks of R507, engines but those held faulty, Case regions but bad ones, memory
regions unless main memory is out of service, the standby Press pair or its retirement, and a RETURNED part's erase (R517). -/
def Device.bringUpDone (d : Device) : Bool :=
  (List.range 22).all (fun b => d.blk b || (b == bPRESSSB && d.press.standbyOut) || (b == bMEMCTL && d.mem.outOfService)) &&
  (List.range 72).all (fun e => bit d.ready.eng e || (d.engine e).faulty) &&
  (List.range 8).all (fun r => bit d.ready.caseR r || bit d.ready.caseBad r) &&
  ((List.range 64).all (fun r => bit d.ready.region r) || d.mem.outOfService) &&
  (d.otp.lc ≠ 3 || d.flash.erases.isEmpty)

/-- The end of BRING-UP at a boundary (R35). -/
def Device.endBringUp (d : Device) : Device :=
  if d.mode.phase = .bringUp && d.bringUpDone then
    if d.otp.lc = 3 then { d with mode := { d.mode with phase := .returned, safePend := false } }
    else if d.mode.safePend then
      let d' : Device := { d with mode := { d.mode with phase := .normal, standby := false, safePend := false } }
      d'.enterSafe 2
    else { d with mode := { d.mode with phase := .normal, standby := !d.anyArmed } }
  else d

/-- Bits set and cleared at a boundary (R508). -/
def Ready.tick (r : Ready) : Ready :=
  let apply (w next clr n : Nat) :=
    (List.range n).foldl (fun w b => if bit next b && !bit clr b then setBit w b else if bit clr b then clrBit w b else w) w
  { r with
    blk := apply r.blk r.blkNext r.blkClr 22, eng := apply r.eng r.engNext r.engClr 72, region := apply r.region r.regionNext r.regionClr 64
    caseR := apply r.caseR r.caseNext r.caseClr 8, links := apply r.links r.linksNext r.linksClr 512
    blkNext := 0, engNext := 0, regionNext := 0, caseNext := 0, linksNext := 0, blkClr := 0, engClr := 0, regionClr := 0, caseClr := 0, linksClr := 0 }

/-- REFCLK_LOSS and REFCLK_RETURN (R556): bit 60, with CHECK 0xA for the missing edge (DEDUCED, log 26); the PLLs hold. -/
def Device.refclkLoss (d : Device) (t : Nat) : Device :=
  if d.running && d.aon.refclk then
    let d' : Device := { d with aon := { d.aon with refclk := false } }
    (d'.at t).raiseErr (errAt 60 0 10 none) t
  else d
def Device.refclkReturn (d : Device) (t : Nat) : Device := { d.at t with aon := { d.aon with refclk := true } }

/-- PCIE_PERST_N_FALL (R537): the endpoint's ready bit clears and every function takes FLR actions at the next boundary. -/
def Device.perstFall (d : Device) (t : Nat) : Device :=
  let d' : Device := { d with aon := { d.aon with perstHigh := false } }
  if d.running then
    let d := d'.at t
    let d := { d with ready := { d.ready with blkClr := setBit d.ready.blkClr bPCIE } }
    d.each functions fun d f => d.waitBoundary (.flr f)
  else d'

/-- PCIE_PERST_N_RISE (R537): an endpoint that bring-up had reached is ready at the next boundary (DESIGN CHOICE within the bound of
100 ms, log 24); otherwise bring-up announces it. -/
def Device.perstRise (d : Device) (t : Nat) : Device :=
  let d' : Device := { d with aon := { d.aon with perstHigh := true } }
  if d.running then
    let d := d'.at t
    if d.blk bQUEUE then { d with ready := { d.ready with blkNext := setBit d.ready.blkNext bPCIE } } else d
  else d'

/-- DIE_SHUTDOWN (R312): bit 59 with CHECK 0xB and SAFE whatever is configured, at the first tick after t0 and from BRING-UP onward;
a sector erase in progress is abandoned, and the record waits for programming. -/
def Device.dieShutdown (d : Device) (sensor t : Nat) : Device :=
  if !d.running then d
  else
    let d := (d.at t).raiseErrAs (errAt 59 0 11 none) t (some 6) 0
    let temp := (tabGet noReading d.aon.dieSensors sensor).value
    let d := d.journal 4 d.modeCode 59 t 0 0 0 ([BitVec.ofNat 8 sensor] ++ le16 (ofSigned 16 temp) ++ le64 t)
    let cut := (d.flash.erases.filter (·.running)).map (·.sector)
    { d with
      imp := { d.imp with die := { d.imp.die with shutdown := true, gateFrom := if d.imp.die.shutdown then d.imp.die.gateFrom else d.time.frame + 1 } }
      flash := { d.flash with erases := d.flash.erases.filter (fun e => !e.running), unknown := d.flash.unknown ++ cut, busy := d.flash.busy && cut.isEmpty }
      mode := { d.mode with pending := d.mode.pending ++ [(d.nextTick, d.cmd.nextAcc, .safe 2)] } }

/-- JTAG_DEBUG_ATTEMPT (R515): outside FIELD-OPEN the TAP ignores it and bit 63 rises, CHECK 0x9 (DEDUCED, log 26). -/
def Device.jtagAttempt (d : Device) (t : Nat) : Device :=
  if d.otp.lc = 1 ∨ !d.running then d else (d.at t).raiseErr (errAt 63 0 9 none) t

end Sys2Proof.Machine
end

