-- ==== Sys2Proof/Machine/Lifecycle.lean ====
section
/-! DEFINITION. Lifecycle, live update, the journal in flash and the return record (R419, R510..R526). -/

namespace Sys2Proof.Machine

def Device.bankVersion (d : Device) (b : Nat) : Nat :=
  let x := tabGet {} d.flash.banks b
  if x.authentic then x.version else 0

/-- The LC_STATUS payload (R419). -/
def Device.lcStatus (d : Device) : List Byte :=
  [BitVec.ofNat 8 d.otp.lc, BitVec.ofNat 8 d.press.bank,
   BitVec.ofNat 8 (flag (d.otp.customer.isSome && d.otp.lc == 2) 0 + flag d.flash.proofPermitted 1), 0] ++
  le32 d.press.version ++ le32 (if d.mode.updStaged then d.update.stagedVersion else 0) ++ le32 (d.bankVersion (1 - d.press.bank))

def runLcStatus (_c : Cmd) (d : Device) : Res := ok d d.lcStatus

def lcAdvanceStatic (c : Cmd) : List Check :=
  [bad (decide (c.u8 0 < 1) || decide (3 < c.u8 0)) 0, resv c.par [1, 2, 3], bad (c.u32 4 ≠ 0x5A5A0000 + c.u8 0) 4]

/-- LC_ADVANCE (R36, R516, R517). -/
def runLcAdvance (c : Cmd) (d : Device) : Res :=
  checked d (lcAdvanceStatic c ++ [no (!(d.inStandby || d.inSafe)) stWRONG_MODE, no (d.otp.lc == 2 && c.u8 0 ≠ 3) stDENIED])
    (let b := d.boundary c
     (.done stOK (le64 b), d.commandMode c (.wipe (c.u8 0)) b))

/-- WIPE_COMPLETE (R516, R517): OTP holds the new state, the flash regions of RETURNED are erased, and BRING-UP starts in the new
lifecycle state. -/
def Device.wipeComplete (d : Device) : Device :=
  if d.mode.phase = .wipe then
    let t := d.mode.wipeTarget
    let key := match d.flash.config with
      | some c => let h := (c.bytes.drop 72).take 48
                  if h.all (· == 0) then none else some h
      | none => none
    let otp := { d.otp with lc := t, transitions := d.otp.transitions + 1, customer := if t = 2 && d.otp.lc = 1 then key else d.otp.customer }
    let flash : Flash := if t = 3 then { banks := d.flash.banks } else d.flash
    let d' : Device := { d with otp := otp, flash := flash }
    d'.restart .lifecycle
  else d

/-! ### UPD_STAGE, UPD_SWITCH (R518, R519) -/

/-- Chunk rules that UPD_STAGE and FM_LOAD share (R395) for a chunk that is not the first: it starts at the bytes received, declares
the same total and does not run beyond it. -/
def chunkChecks (c : Cmd) (received total : Nat) : List Check :=
  [bad (c.u32 0 ≠ received) 0, bad (c.u32 4 ≠ total) 4, bad (decide (total < c.u32 0 + (c.par.length - 8))) 0]

def updStageStatic (c : Cmd) : List Check :=
  [bad (decide (c.u32 4 < 4096) || decide (16777216 < c.u32 4)) 4, bad (decide (c.u32 4 < c.u32 0 + (c.par.length - 8))) 0]

/-- UPD_STAGE (R419, R518): the last chunk is long. While the last chunk's completion is owed a further chunk is BUSY (DESIGN CHOICE,
log 27). -/
def runUpdStage (c : Cmd) (d : Device) : Res :=
  let data := c.par.drop 8
  let old := match d.update.upload with | some u => if c.u32 0 = 0 then [] else u.bytes | none => []
  let total := match d.update.upload with | some u => if c.u32 0 = 0 then c.u32 4 else u.total | none => c.u32 4
  let bytes := old ++ data
  checked d ([no d.mode.updActive stBUSY, no d.update.completing.isSome stBUSY, no d.press.alt stNOT_READY] ++ updStageStatic c ++
      (if c.u32 0 = 0 then [] else chunkChecks c old.length total))
    (let other := 1 - d.press.bank
     let first := c.u32 0 == 0
     let cfg := byteAt bytes 4 == 1
     let banks := if cfg then d.flash.banks else tabSet {} d.flash.banks other { image := bytes }
     let mode := if first then { d.mode with updStaged := false } else d.mode
     let d := { d with mode := mode, flash := { d.flash with banks := banks } }
     if bytes.length < total then
       ok { d with update := { d.update with upload := some { total := total, bytes := bytes } } } (le32 bytes.length)
     else
       (.interim stACCEPTED [],
        { d with update := { d.update with upload := some { total := total, bytes := bytes }, completing := some c.env, isConfig := cfg } }))

/-- UPD_STAGE_COMPLETE (R511, R514, R518): the image is authentic or not, as the outcome of the cryptographic checks gives. -/
def Device.updStageComplete (d : Device) (authentic : Bool) : Device :=
  match d.update.completing, d.update.upload with
  | some env, some up =>
    let v := u32At up.bytes 8
    let clear := { d.update with upload := none, completing := none }
    if d.update.isConfig then
      let allowed := if d.otp.lc = 1 then true else authentic && d.otp.customer.isSome
      if allowed then
        let a := tabGet {} d.flash.configs 0
        let b := tabGet {} d.flash.configs 1
        let i := if a.authentic && (!b.authentic || decide (b.seq < a.seq)) then 1 else 0
        let cc : ConfigCopy := { seq := v, authentic := true, bytes := (up.bytes.drop 16384).take 128 }
        { d with update := clear, flash := { d.flash with configs := tabSet {} d.flash.configs i cc } }.final env stOK (le32 v)
      else { d with update := clear }.final env stDENIED []
    else
      let other := 1 - d.press.bank
      if authentic && decide (u32At up.bytes 16 ≤ d.press.version) && decide (d.otp.floor ≤ u32At up.bytes 12) then
        let bk : Bank := { image := up.bytes, authentic := true, version := v, security := u32At up.bytes 12 }
        { d with update := { clear with stagedVersion := v, stagedSecurity := u32At up.bytes 12 }
                 flash := { d.flash with banks := tabSet {} d.flash.banks other bk }
                 mode := { d.mode with updStaged := true } }.final env stOK (le32 v)
      else
        { d with update := clear, flash := { d.flash with banks := tabSet {} d.flash.banks other { image := up.bytes } } }.final env stDENIED []
  | _, _ => d

def updSwitchStatic (c : Cmd) : List Check := [bad (decide (1 < c.u8 0)) 0, resv c.par [1, 2, 3]]

/-- UPD_SWITCH (R36, R519). -/
def runUpdSwitch (c : Cmd) (d : Device) : Res :=
  checked d (updSwitchStatic c ++
      [no (!(d.runFamily || d.inStandby || d.inSafe)) stWRONG_MODE, no (!d.mode.updStaged || d.press.alt) stNOT_READY,
       no d.update.switchEnv.isSome stBUSY])
    (let d' : Device := { d with update := { d.update with switchEnv := some c.env, persist := bit (c.u8 0) 0 } }
     (.interim stACCEPTED [], d'.commandMode c .update (d.boundary c)))

/-- UPDATE_END (R33, R519): the new image runs and writes the completion; with PERSIST the boot-bank record and the security floor
follow. A new image that does not come up leaves the old one running (R486). -/
def Device.updateEnd (d : Device) (ok : Bool) : Device :=
  if !d.mode.updActive then d
  else if ok then
    let bank := 1 - d.press.bank
    let v := d.update.stagedVersion
    let sec := d.update.stagedSecurity
    let persist := d.update.persist
    let d := { d with
      press := { d.press with bank := bank, version := v, pair := 1 - d.press.pair, standbyReady := false, alt := true, reloading := some false }
      aon := { d.aon with fwVersion := v } }
    let d := if persist then
        let d := d.journal 9 d.modeCode 255 d.time.now 0 0 0 ([BitVec.ofNat 8 bank] ++ le32 v ++ le32 sec)
        { d with flash := { d.flash with bootBank := bank }, otp := { d.otp with floor := max d.otp.floor sec } }
      else d
    (d.endSwitch stOK (le64 d.time.now ++ le32 v)).openShadow .standbyPress 0 (some (d.nextTick + 160 * d.time.n))
  else d.endSwitch stFAULT_ACTIVE []

/-! ### The journal in flash (R521, R523, R524) -/

/-- Sector of the journal ring in which a record index lies. -/
def journalSector (index : Nat) : Nat := index / 1024 % 64

/-- The journal record's place still holds an older ring turn's record: its sector must be erased first (R521). -/
def Flash.needsErase (f : Flash) : Bool :=
  f.jcount % 1024 == 0 && f.journal.any fun r => journalSector r.1 == journalSector f.jcount

/-- One record programmed; a sector-start record begins each sector. -/
def Flash.program (f : Flash) (r : JRec) : Flash :=
  let f := if f.jcount % 1024 = 0 then
      let s : JRec := { r with kind := 0x0C, pfBit := 255, event := 0, cause := 0, errWord := 0, payload := le32 f.sectorSeq }
      { f with journal := tabInsert f.journal f.jcount (s.bytes f.jcount), jcount := (f.jcount + 1) % 2 ^ 32, sectorSeq := (f.sectorSeq + 1) % 2 ^ 32 }
    else f
  { f with journal := tabInsert f.journal f.jcount (r.bytes f.jcount), jcount := (f.jcount + 1) % 2 ^ 32 }

/-- JOURNAL_PROGRAM (R524): a page of up to four records, not during a die shutdown (R312); a full ring first asks for its oldest
sector to be erased (R521). -/
def Device.journalProgram (d : Device) : Device :=
  if d.imp.die.shutdown || d.aon.jbuf.isEmpty || !d.aon.vddAon then d
  else if d.flash.needsErase then
    let s := 0x202 + journalSector d.flash.jcount
    if d.flash.erases.any fun e => e.sector == s then d
    else { d with flash := { d.flash with erases := d.flash.erases ++ [{ sector := s, running := false }] } }
  else
    let room := if d.flash.jcount % 1024 = 0 then 3 else min 4 (1024 - d.flash.jcount % 1024)
    { d with flash := (d.aon.jbuf.take room).foldl Flash.program d.flash, aon := { d.aon with jbuf := d.aon.jbuf.drop room } }

/-- HOURLY_HISTORY (R523): minimum, maximum, mean of the die, DX maxima, operating hours, seconds above 100 °C. -/
def Device.hourlyHistory (d : Device) : Device :=
  if !d.aon.vddAon then d
  else
    let a := d.aon
    let mean : Int := if a.hourCount = 0 then 0 else a.hourSum / (a.hourCount : Int)
    let pay := le16 (ofSigned 16 a.hourMin) ++ le16 (ofSigned 16 a.hourMax) ++ le16 (ofSigned 16 mean) ++
      (a.hourDx.map fun x => le16 (ofSigned 16 x)).flatten ++ le32 (a.hours + 1) ++ le16 a.hotSeconds
    let d := d.journal 11 d.modeCode 255 d.time.now 0 0 0 pay
    { d with aon := { d.aon with hours := a.hours + 1, hourMin := 0, hourMax := 0, hourSum := 0, hourCount := 0, hourDx := [0, 0, 0, 0], hotSeconds := 0 } }

/-- No erase starts at or above 115 °C, in die HOLD or during a die shutdown (R312, R313). -/
def Device.eraseAllowed (d : Device) : Bool :=
  !d.imp.die.shutdown && decide (d.imp.die.temp < 115) && d.imp.die.state ≠ 2

/-- SECTOR_ERASE_START (R313). -/
def Device.eraseStart (d : Device) : Device :=
  if d.flash.erases.any (·.running) || !d.eraseAllowed then d
  else match d.flash.erases with
    | [] => d
    | e :: l => { d with flash := { d.flash with erases := { e with running := true } :: l, busy := true } }

/-- SECTOR_ERASE_COMPLETE (R313, R521): the sector's contents are gone. -/
def Device.eraseComplete (d : Device) : Device :=
  match d.flash.erases.find? (·.running) with
  | none => d
  | some e =>
    let journal := if 0x202 ≤ e.sector ∧ e.sector ≤ 0x241 then d.flash.journal.filter fun r => journalSector r.1 ≠ e.sector - 0x202 else d.flash.journal
    let configs := if e.sector = 0x200 ∨ e.sector = 0x201 then tabErase d.flash.configs (e.sector - 0x200) else d.flash.configs
    let customer := if 0x242 ≤ e.sector then d.flash.customer.filter fun x => x.1 / 65536 ≠ e.sector - 0x242 else d.flash.customer
    { d with flash := { d.flash with journal := journal, configs := configs, customer := customer, busy := false
                                     erases := d.flash.erases.filter fun x => !x.running } }

/-! ### The return record (R526) -/

/-- A section as packet bodies of at most 65,520 data bytes each. -/
def sectionParts (type total : Nat) : Nat → Nat → List Byte → List (List Byte)
  | 0, _, _ => []
  | k + 1, part, data =>
    (le16 type ++ le16 part ++ le32 total ++ le32 (part * 65520) ++ zeros 4 ++ data.take 65520) ::
    (if data.length ≤ 65520 then [] else sectionParts type total k (part + 1) (data.drop 65520))

def sectionBodies (type : Nat) (data : List Byte) : List (List Byte) := sectionParts type data.length (data.length / 65520 + 1) 0 data

/-- The status section: MODE_STATUS, PF_WORD, READY words, LC_STATUS, every unit's error word. -/
def Device.returnStatus (d : Device) : List Byte :=
  le32 d.mode.word ++ le64 d.flt.pf ++ d.readyBytes ++ d.lcStatus ++
  ((List.range 664).map fun i => le32 (tabGet {} d.flt.words i).word).flatten

def MemState.code : MemState → Nat | .training => 0 | .inService => 1 | .retired => 2 | .rebuilding => 3

/-- The retirement map: device states, five remap tables of 1,024 entries of 8 bytes, engines held faulty, Press pairs out of service,
links DISABLED or REFUSED with their reason codes. DESIGN CHOICE (log 23): field widths. -/
def Device.returnMap (d : Device) : List Byte :=
  ((List.range 5).map fun m => BitVec.ofNat 8 (d.memDev m).state.code) ++
  ((List.range 5).map fun m => padTo 8192 (((d.memDev m).remap.map fun r => le32 r.1 ++ le32 r.2).flatten)).flatten ++
  leBytes 9 ((List.range 72).foldl (fun w e => w + flag (d.engine e).faulty e) 0) ++ [BitVec.ofNat 8 (flag d.press.standbyOut 0)] ++
  (channels.map fun l => match (d.link l).state with
    | .disabled => (0x80 : Byte)
    | .refused => BitVec.ofNat 8 (0x40 + (d.link l).refuse)
    | _ => 0)

/-- The packet bodies of the return record, in order; the header names the whole record's length. -/
def Device.returnBodies (d : Device) : List (List Byte) :=
  let rest := sectionBodies 1 d.colophon ++ sectionBodies 2 d.returnStatus ++ sectionBodies 3 d.returnMap ++
    sectionBodies 4 (d.flash.journal.map (·.2)).flatten
  let len := rest.foldl (fun s b => s + b.length) 40
  sectionBodies 0 (le32 0x54455243 ++ le32 1 ++ le64 d.time.tick ++ le32 d.aon.boots ++ le32 len) ++ rest

/-- RET_RECORD (R419, R526): the record's packets go into the ring; the completion follows. -/
def runRetRecord (c : Cmd) (d : Device) : Res :=
  let q := c.u32 0
  let bodies := d.returnBodies
  let len := bodies.foldl (fun s b => s + b.length) 0
  checked d (d.qCheck c 0 false ++
      [bad (match d.ring? q with | some r => r.kind ≠ 3 || decide (r.z - r.level < len + 8 * bodies.length) | none => true) 0,
       no d.ret.isSome stBUSY])
    (let d := bodies.foldl (fun d b => (d.produce q b 1 true).1) d
     let job : RetJob := { ring := q, env := c.env, len := len, crc := crc32 bodies.flatten }
     (.interim stACCEPTED [], { d with ret := some job }))

/-- RET_RECORD_COMPLETE (R419). -/
def Device.retComplete (d : Device) : Device :=
  match d.ret with
  | none => d
  | some j => { d with ret := none }.final j.env stOK (le32 j.len ++ le32 j.crc)

end Sys2Proof.Machine
end

