-- ==== Sys2Proof/Machine/LoopLaw.lean ====
section
/-! DEFINITION. The control law, compliance and the stability rule (R61..R75). -/

namespace Sys2Proof.Machine

/-- Function codes (R62). -/
def fnOFF : Nat := 0
def fnFV : Nat := 1
def fnFI : Nat := 2
def fnFVZ : Nat := 3
def fnCR : Nat := 4
def fnCP : Nat := 5
def fnMV : Nat := 6
def fnMI : Nat := 7

/-- Forcing path of a function: 0 voltage, 1 current, none for OFF (R62). -/
def fnPath (f : Nat) : Option Nat :=
  if f = fnFV ∨ f = fnFVZ ∨ f = fnMI then some 0
  else if f = fnFI ∨ f = fnCR ∨ f = fnCP ∨ f = fnMV then some 1
  else none

/-- A function with a closed loop (R62). -/
def fnClosed (f : Nat) : Bool := decide (1 ≤ f ∧ f ≤ 5)

/-- The limited quantity of a function: 0 voltage, 1 current (R62); OFF has none. -/
def fnLimited (f : Nat) : Option Nat :=
  if f = fnFV ∨ f = fnFVZ ∨ f = fnMI then some 1
  else if f = fnFI ∨ f = fnCR ∨ f = fnCP ∨ f = fnMV then some 0
  else none

/-- The source quantity of a function (R98): that of its forcing path. -/
def fnSource (f : Nat) : Option Nat := fnPath f

/-- May autorange change the range of quantity `q` under function `f` (R98). -/
def fnAutoAllows (f q : Nat) : Bool :=
  if fnClosed f then true else if f = fnMV then q == 0 else if f = fnMI then q == 1 else false

/-- Function costs in engine cycles (R48). -/
def fnCost : Nat → Nat
  | 0 => 6 | 1 => 40 | 2 => 40 | 3 => 54 | 4 => 46 | 5 => 52 | 6 => 22 | 7 => 22 | _ => 0

/-- The current that CP commands at voltage `v` (R75). -/
def cpCurrent (pset vfloor v : Rat) : Rat :=
  if ratAbs v < vfloor then -(v * pset) / (vfloor * vfloor) else -pset / v

/-- What the law of one frame reads (R67): the function, full scales, calibrated normalised samples, the setpoints in force,
programmed limits of the clip, and the gains. -/
structure LawIn where
  func : Nat
  fsV : Rat
  fsI : Rat
  v : Rat
  i : Rat
  vset : Rat
  iset : Rat
  rset : Rat
  pset : Rat
  z : Rat
  vfloor : Rat
  iPos : Rat
  iNeg : Rat
  kp : Rat
  ki : Rat
  kff : Rat
  kpc : Rat
  kic : Rat
  g : Rat
  gc : Rat
  /-- Normalised effective limits of the limited quantity (R72). -/
  limPos : Rat
  limNeg : Rat
  /-- Soft-park scale of the target (R90). -/
  scale : Rat
  deriving DecidableEq, Repr

/-- The current that CR or CP commands before the clip of R62. -/
def LawIn.command (x : LawIn) : Rat :=
  if x.func = fnCR then -(x.v * x.fsV) / x.rset else cpCurrent x.pset x.vfloor (x.v * x.fsV)

/-- CLIP of the frame: the command lies outside I-..I+ (R74). -/
def LawIn.clip (x : LawIn) : Bool :=
  (x.func == fnCR || x.func == fnCP) && (decide (x.command < x.iNeg) || decide (x.iPos < x.command))

/-- The regulated quantity q and the normalised target r of R67, the target scaled by a soft park (R90). -/
def LawIn.target (x : LawIn) : Rat × Rat :=
  let q := if fnPath x.func = some 0 then x.v else x.i
  let r :=
    if x.func = fnFV then x.vset / x.fsV
    else if x.func = fnFVZ then (x.vset - x.z * x.i * x.fsI) / x.fsV
    else if x.func = fnFI then x.iset / x.fsI
    else ratClamp x.iNeg x.iPos x.command / x.fsI
  (q, r * x.scale)

/-- The limited quantity's normalised sample m (R67). -/
def LawIn.limited (x : LawIn) : Rat := if fnLimited x.func = some 0 then x.v else x.i

/-- One evaluation of the law from a given compliance state and integrator (R67): u, integrator and saturation. The engine's
fixed-point rounding is `Config.fix36`. -/
def lawStep (x : LawIn) (c : Compl) (integ : Rat) (sat : Int) : Rat × Rat × Int :=
  let (q, r) := x.target
  let lim := if c = .neg then x.limNeg else x.limPos
  let e := if c = .none then r - q else lim - x.limited
  let ff := if c = .none then x.kff * r else 0
  let kp := if c = .none then x.kp else x.kpc
  let ki := if c = .none then x.ki else x.kic
  let g := if c = .none then x.g else x.gc
  let integ' := if 0 < (sat : Rat) * e then integ else Config.fix36 (ratClamp (-1) uMax (integ + ki * e / g))
  let u := Config.fix36 ((ff + kp * e) / g + integ')
  let sat' : Int := if uMax < u then 1 else if u < -1 then -1 else 0
  (ratClamp (-1) uMax u, integ', sat')

/-- Does the sample reach an effective limit (R70, R73): positive, negative or neither; equality enters. -/
def LawIn.reaches (x : LawIn) : Compl :=
  if x.limPos ≤ x.limited then .pos else if x.limited ≤ x.limNeg then .neg else .none

/-- Does a channel in compliance release in this frame (R71); h is 0.1 % of the regulated quantity's full scale. -/
def LawIn.releases (x : LawIn) (c : Compl) : Bool :=
  let (q, r) := x.target
  let h : Rat := 1 / 1000
  match c with
  | .pos => decide (r + h ≤ q)
  | .neg => decide (q ≤ r - h)
  | .none => false

/-- Step 2 and step 3 of a frame in which the strobe group fired (R67, R70, R71): the loop after the frame, and whether the
channel entered compliance. -/
def loopFrame (x : LawIn) (l : Loop) : Loop × Bool :=
  let uLast := l.uPrev
  match l.compl with
  | .none =>
    let c := x.reaches
    if c = .none then
      let (u, i, s) := lawStep x .none l.integ l.sat
      ({ l with uPrev := u, integ := i, sat := s }, false)
    else
      let lim := if c = .neg then x.limNeg else x.limPos
      let integ := Config.fix36 (uLast - x.kpc * (lim - x.limited) / x.gc)
      let (u, i, s) := lawStep x c integ l.sat
      ({ l with uPrev := u, integ := i, sat := s, compl := c }, true)
  | c =>
    if x.releases c then
      let (q, r) := x.target
      let integ := Config.fix36 (uLast - (x.kff * r + x.kp * (r - q)) / x.g)
      let (u, i, s) := lawStep x .none integ l.sat
      ({ l with uPrev := u, integ := i, sat := s, compl := .none }, false)
    else
      let (u, i, s) := lawStep x c l.integ l.sat
      ({ l with uPrev := u, integ := i, sat := s }, false)

/-- Coefficients of P(z) of R68 with d = 3, constant term first:
(z - 1)(z - a) z^2 + (1 - a) g ((k1 + k2) z - k1). -/
def charPoly (a g k1 k2 : Rat) : List Rat :=
  [-((1 - a) * g * k1), (1 - a) * g * (k1 + k2), a, -(1 + a), 1]

/-- The polynomial with z replaced by rho z, so that its roots are the old ones divided by rho. -/
def scaleRoots (rho : Rat) (p : List Rat) : List Rat :=
  (p.zipIdx).map fun c => c.1 * (List.range c.2).foldl (fun x _ => x * rho) 1

/-- Jury's reduction of a polynomial given by its coefficients, constant term first: all roots lie strictly inside the unit circle. -/
def juryInside : Nat → List Rat → Bool
  | 0, _ => true
  | n + 1, p =>
    let a0 := p.headD 0
    let an := p.getLastD 0
    if ratAbs an ≤ ratAbs a0 then false
    else
      let red := (List.zipWith (fun x y => an * x - a0 * y) p p.reverse).tail
      juryInside n red

/-- Every root has modulus below rho. -/
def rootsBelow (rho : Rat) (p : List Rat) : Bool := juryInside (p.length - 1) (scaleRoots rho p)

/-- The largest root modulus of a polynomial by bisection over 0..16 to 2^-40 (R69's payload). -/
def maxRoot (p : List Rat) : Rat :=
  let rec go : Nat → Rat → Rat → Rat
    | 0, _, hi => hi
    | n + 1, lo, hi => let m := (lo + hi) / 2; if rootsBelow m p then go n lo m else go n m hi
  go 44 0 16

/-- R68 accepts: every root has modulus at most 0.95. A root at 0.95 itself is told from one above it to 2^-40 (log 9). -/
def polyOk (p : List Rat) : Bool := rootsBelow (95 / 100 + 1 / 2 ^ 40) p

/-- The pole a of the plant at frame period T seconds (R66). -/
def plantPole (tSec tau : Rat) : Rat := if tau ≤ 0 then 0 else expNeg (tSec / tau)

end Sys2Proof.Machine
end

