-- ==== Sys2Proof/Machine/RangeLogic.lean ====
section
/-! DEFINITION. Decisions of ranging: methods, counts, bounds and autorange (R95..R116). -/

namespace Sys2Proof.Machine

/-- Frames of a time at N: the least count of frames of N periods of 10 ns that covers it (R102, R111). -/
def framesOf (n : Nat) (seconds : Rat) : Nat := ceilF32 (seconds * 100000000 / ((max n 1 : Nat) : Rat))

/-- Make count of the pair k, k + 1 of a quantity (R102). -/
def makeCount (d : Desc) (n q k : Nat) : Nat :=
  max 1 (framesOf n (match d.range? q k with | some r => f32ToRat r.tMk | none => 0))

/-- Hold length of a switch into range `r` (R111). -/
def holdCount (d : Desc) (n q r : Nat) : Nat :=
  max 1 (framesOf n (match d.range? q r with | some x => f32ToRat x.tSw | none => 0))

/-- Every pair that a change from `a` to `b` crosses is overlap-capable with Mk at most 64 (R102). -/
def pairsOverlap (d : Desc) (n q a b : Nat) : Bool :=
  (List.range (max a b - min a b)).all fun j =>
    let k := min a b + j
    (match d.range? q k with | some r => r.overlap | none => false) && d.capOverlap &&
    decide (makeCount d n q k ≤ 64)

/-- The larger full scale of two ranges. -/
def widerFs (d : Desc) (q a b : Nat) : Rat := ratMax (d.fs q a) (d.fs q b)

/-- The deviation bound of an overlap step between adjacent ranges (R110). -/
def overlapBound (d : Desc) (q a b : Nat) : Rat :=
  widerFs d q a b * 5 / 10000 + (match d.range? q (min a b) with | some r => f32ToRat r.dOv | none => 0)

/-- The deviation bound of a hold-and-switch change into `r` (R112). -/
def holdBound (d : Desc) (q r : Nat) : Rat := match d.range? q r with | some x => f32ToRat x.dHs | none => 0

/-- Frames that a change spans, frame b and the frame at whose boundary it completes among them (R107, R111, R116; DEDUCED, log 122);
steps of an overlap change follow each other in the frame after the previous one completes. -/
def changeLength (d : Desc) (n q a b m : Nat) (overlap : Bool) : Nat :=
  if overlap then
    (List.range (max a b - min a b)).foldl (init := 0) fun s j => s + makeCount d n q (min a b + j) + m + 4
  else holdCount d n q b + 2

/-- The lowest range within lo..hi whose rated value × 1.05 exceeds |x|, or hi (R115). -/
def setpointRange (d : Desc) (q lo hi : Nat) (x : Rat) : Nat :=
  match (offsets lo hi).find? fun r => decide (ratAbs x < d.rated q r * 105 / 100) with
  | some r => r
  | none => hi

/-- Autorange wants to go up (R113): 1.05 times the rated value is reached, or the raw sample is at an end of the span. -/
def wantsUp (d : Desc) (q k hi : Nat) (x : Rat) (saturated : Bool) : Bool :=
  decide (k < hi) && (saturated || decide (d.rated q k * 105 / 100 ≤ x))

/-- The frame counts towards a down-range (R113). -/
def countsDown (d : Desc) (q k lo : Nat) (x : Rat) : Bool :=
  decide (lo < k) && decide (x < d.rated q k * 9 / 100) && decide (x < d.rated q (k - 1) * 90 / 100)

end Sys2Proof.Machine
end

