-- ==== Sys2Proof/Machine/Budget.lean ====
section
/-! DEFINITION. Timing sets and their limits (R250..R254), the engine cycle budget (R47..R50), the loop delay (R45) and SET_FRAME (R40, R41). -/

namespace Sys2Proof.Machine

/-! ### Timing sets (R250) -/

/-- Entry numbers: edge e of pin m at 4 m + e, link k's conversion instant at 256 + k, group g's strobe instant at 768 + g, window w's
start and end at 784 + 2 w and 785 + 2 w. -/
def tsEdge (m e : Nat) : Nat := 4 * m + e
def tsConv (k : Nat) : Nat := 256 + k
def tsStrobe (g : Nat) : Nat := 768 + g
def tsWindow (w : Nat) : Nat := 784 + 2 * w
def tsEntries : Nat := 800

/-- An entry's value after a reset at frame count `n` (R250). -/
def tsDefault (n i : Nat) : Nat := if i < 256 then 0 else if i < 768 then 80 * n else if i < 784 then 40 * n else 0

def Device.tsSet (d : Device) (s : Nat) : TimingSet := tabGet [] d.edge.sets s

/-- Entry `i` of a set. -/
def Device.tsWord (d : Device) (s i : Nat) : Nat := tabGet (tsDefault d.edge.resetN i) (d.tsSet s) i

/-- A set's contents as a function of the entry number, with a staged copy in place of it where one is given. -/
def Device.tsView (d : Device) (s : Nat) (staged : Option TimingSet) (i : Nat) : Nat :=
  tabGet (tsDefault d.edge.resetN i) (staged.getD (d.tsSet s)) i

def edgePos (e : Nat) : Nat := bits e 23 0
def edgeLevel (e : Nat) : Bool := bit e 24
def edgeValid (e : Nat) : Bool := bit e 25

/-- The valid edges of a pin in a set, in the order of the record: entry number, position, level. -/
def pinEdges (v : Nat → Nat) (m : Nat) : List (Nat × Nat × Bool) :=
  ((List.range 4).filter fun e => edgeValid (v (tsEdge m e))).map fun e =>
    (tsEdge m e, edgePos (v (tsEdge m e)), edgeLevel (v (tsEdge m e)))

/-- First edge at fault among a pin's valid edges: position limits, ascending order and distance (R253). -/
def edgeFault (t : Nat) : Option Nat → List (Nat × Nat × Bool) → Option Nat
  | _, [] => none
  | prev, (i, p, _) :: l =>
    if p < 16 ∨ t - 17 < p then some i
    else match prev with
      | some q => if p < q + 32 then some i else edgeFault t (some p) l
      | none => edgeFault t (some p) l

/-- The first entry of a set that breaks a limit of R253 which does not depend on a front-end, at frame count `n`. -/
def tsFault (v : Nat → Nat) (n : Nat) : Option Nat :=
  let t := 160 * n
  match (List.range 64).findSome? fun m => edgeFault t none (pinEdges v m) with
  | some i => some i
  | none =>
    match (offsets 256 767).find? fun i => decide (bits (v i) 23 0 < 520) with
    | some i => some i
    | none =>
      match (offsets 768 783).find? fun i => decide (bits (v i) 23 0 < 520 ∨ t ≤ bits (v i) 23 0) with
      | some i => some i
      | none =>
        match (List.range 8).find? fun w => decide (v (tsWindow w + 1) < v (tsWindow w) ∨ t < v (tsWindow w + 1)) with
        | some w => some (tsWindow w)
        | none => none

/-- Pairs per frame of a channel's link (R39, R48, R168): one where the digitizer is off. -/
def Chan.pairsOf (c : Chan) (desc : Option Desc) (n : Nat) : Nat :=
  if c.cfg.digMode = 0 then 1
  else max 1 (min (min c.cfg.pairs (classPairs n)) (match desc with | some x => x.pmax | none => 16))

/-- A conversion instant keeps the limits of R253 that depend on a front-end. -/
def convOk (desc : Desc) (n p c : Nat) : Bool :=
  (if 100 ≤ n then decide (520 + unitsOf (f32ToRat desc.tLead) ≤ c) else true) &&
  decide (c + unitsOf (f32ToRat desc.tCl) + (p - 1) * unitsOf (f32ToRat desc.tBs) ≤ 160 * n + 465)

/-- A set is usable on a link at frame count `n` (R254); a link without a descriptor judges none. -/
def Device.setUsableAt (d : Device) (l n : Nat) (v : Nat → Nat) : Bool :=
  match (d.link l).desc with
  | some desc => convOk desc n ((d.chan (d.chanOfLink l)).pairsOf (some desc) n) (bits (v (tsConv l)) 23 0)
  | none => true

def Device.setUsable (d : Device) (l s : Nat) : Bool := !d.linkUp l || d.setUsableAt l d.time.n (d.tsWord s)

/-- The links of a channel: both of a dual-homed pair. -/
def Device.linksOf (d : Device) (ch : Nat) : List Nat := if (d.link ch).dual then [ch, ch + 1] else [ch]

/-- A set is usable for a channel on every UP link of it. -/
def Device.setUsableFor (d : Device) (ch s : Nat) : Bool := (d.linksOf ch).all fun l => d.setUsable l s

/-- The loop delay is 3 frames: the conversion instant is not later than the strobe instant in the selected set (R45). -/
def Device.delay3 (d : Device) (ch : Nat) : Bool :=
  let c := (d.chan ch).cfg
  decide (bits (d.tsWord c.tset (tsConv (d.linkOf ch))) 23 0 ≤ bits (d.tsWord c.tset (tsStrobe c.strobe)) 23 0)

/-! ### The engine cycle budget (R47..R50) -/

/-- E(N) (R47). -/
def engineBudget (n : Nat) : Nat := 2 * (10 * n - linkAllowance n / 16 - 10)

/-- The functions that a channel may take: its own, and those of the FUNC words of its locked forme (R48). -/
def Chan.mayTake (c : Chan) : List Nat :=
  c.cfg.func :: (if c.seq.state == .empty || c.seq.state == .loaded then [] else (List.range 8).filter fun f => bit c.seq.fnSet f)

/-- Digitizer pairs that the engine averages (R48). -/
def Chan.averaged (c : Chan) (desc : Option Desc) (n : Nat) : Nat :=
  if c.cfg.digMode = 2 ∨ c.cfg.digMode = 3 then
    min (min c.cfg.pairs (classPairs n)) (match desc with | some x => x.pmax | none => 16)
  else 0

/-- F + V + A of one channel (R48). The upper channel of a dual-homed pair is charged as OFF (R184). -/
def Device.chanCost (d : Device) (n ch : Nat) : Nat :=
  let c := d.chan ch
  if ch % 2 = 1 ∧ (d.link ch).dual then 6
  else
    let fs := c.mayTake
    let f := fs.foldl (fun m x => max m (fnCost x)) 0
    if fs.all (· == fnOFF) then f
    else
      let desc := d.desc? ch
      let v := match desc with | some x => if x.capOverlap && c.range.ovEn then 8 else 0 | none => 0
      f + v + c.averaged desc n

/-- Start delay that PRF_PERTURB adds to a slot (R49, R497). -/
def Device.startDelay (d : Device) (j : Nat) : Nat :=
  d.proof.perturbs.foldl (fun s p => if p.kind == 3 && d.slotOf p.unit == some j then s + p.amount else s) 0

/-- The charged cost of a slot (R48). -/
def Device.slotCost (d : Device) (n j : Nat) : Nat :=
  (slotChans j).foldl (fun s ch => s + d.chanCost n ch) (60 + d.startDelay j)

/-- The lowest slot whose charged cost exceeds E(N) (R49): the refusal's payload. -/
def Device.overBudget (d : Device) (n : Nat) : Option (List Byte) :=
  (engineSlots.find? fun j => decide (engineBudget n < d.slotCost n j)).map fun j =>
    le32 j ++ le32 (d.slotCost n j) ++ le32 (engineBudget n)

/-- The check of R49 against a configuration after the command. -/
def budgetCheck (after : Device) : Check :=
  match after.overBudget after.time.n with
  | some p => (true, stFRAME_BUDGET, p)
  | none => (false, stFRAME_BUDGET, [])

/-! ### SET_FRAME (R40, R41) -/

/-- Check 1 of R40. -/
def Device.setFrameMode (d : Device) : Option Nat :=
  match d.mode.phase with
  | .normal => if d.inProof then some stWRONG_MODE else none
  | .bringUp => if d.blk bTIMEBASE && d.blk bEDGE && d.blk bLINKS then none else some stNOT_READY
  | _ => some stWRONG_MODE

/-- The checks of SET_FRAME that depend on the packet alone. -/
def setFrameStatic (c : Cmd) : List Check := [bad (decide (c.u32 0 < 25) || decide (10000 < c.u32 0)) 0]

/-- The checks of R40 in order. "Joined to a registered system" is read as REGISTERED (DEDUCED, log 28). -/
def Device.setFrameChecks (d : Device) (c : Cmd) : List Check :=
  let n := c.u32 0
  [(d.setFrameMode.isSome, d.setFrameMode.getD stWRONG_MODE, []), no d.anyArmed stBUSY] ++ setFrameStatic c ++
  [badAny (d.reg.state == .registered && c.nb == 0),
   (match d.overBudget n with | some p => (true, stFRAME_BUDGET, p) | none => (false, stFRAME_BUDGET, [])),
   no (!Config.fabricFits n) stFRAME_BUDGET,
   badAny ((List.range 16).any fun s => (tsFault (d.tsWord s) n).isSome)]

end Sys2Proof.Machine
end

