-- ==== Sys2Proof/Machine/LinkOps.lean ====
section
/-! DEFINITION. The management channel of an Elvux link (R166..R168), table entries and their reload (R181, R182, R254), round trips
(R179, R180) and the status word (R178). -/

namespace Sys2Proof.Machine

/-! ### Management requests -/

/-- Opcode and payload of a request (R167). -/
def MgmtReq.code : MgmtReq → Nat
  | .pageRead _ => 1 | .accept => 2 | .config _ _ => 3 | .tableWrite _ _ _ => 4 | .nvmRead _ _ _ => 5 | .nvmWrite _ _ _ => 6
  | .nvmSeal _ => 7 | .revoke => 8

def MgmtReq.payload (l : Nat) : MgmtReq → List Byte
  | .pageRead p => [BitVec.ofNat 8 p]
  | .accept => le16 l
  | .config sg p => [BitVec.ofNat 8 sg, BitVec.ofNat 8 p]
  | .tableWrite s c t => [BitVec.ofNat 8 s] ++ le32 c ++ le32 t
  | .nvmRead s o n => [BitVec.ofNat 8 s] ++ le16 o ++ [BitVec.ofNat 8 n]
  | .nvmWrite s o data => [BitVec.ofNat 8 s] ++ le16 o ++ data
  | .nvmSeal s => [BitVec.ofNat 8 s]
  | .revoke => []

/-- The bytes of a message as MGMT carries them: VALID in bit 8, START in bit 9 of the opcode (R166). -/
def MgmtReq.words (l : Nat) (r : MgmtReq) : List Nat :=
  let body := [BitVec.ofNat 8 r.code, BitVec.ofNat 8 (r.payload l).length] ++ r.payload l
  let all := body ++ le16 (crc16 body)
  match all with
  | [] => []
  | o :: rest => (768 + o.toNat) :: rest.map fun b => 256 + b.toNat

def MgmtReq.isNvm : MgmtReq → Bool
  | .nvmRead _ _ _ => true | .nvmWrite _ _ _ => true | .nvmSeal _ => true | _ => false

/-- CONFIG and TABLE_WRITE are staged at the front-end until TAPPLY (R167). -/
def MgmtReq.isStaged : MgmtReq → Bool
  | .config _ _ => true | .tableWrite _ _ _ => true | _ => false

/-- The first request waiting, CONFIG and TABLE_WRITE ahead of coefficient-memory traffic (R168), and the others. -/
def nextReq (l : List MgmtReq) : Option (MgmtReq × List MgmtReq) :=
  match l.find? fun r => !r.isNvm with
  | some r => some (r, l.erase r)
  | none => match l with | [] => none | r :: rest => some (r, rest)

/-- The link sends its next request when none is outstanding (R168). -/
def Link.pump (x : Link) (l frame : Nat) : Link :=
  match x.out with
  | some _ => x
  | none =>
    match nextReq x.reqs with
    | none => x
    | some (r, rest) => { x with out := some { msg := r, attempts := 1, sentAt := frame }, reqs := rest, tx := x.tx ++ r.words l }

/-- Requests added to a link. -/
def Device.request (d : Device) (l : Nat) (rs : List MgmtReq) : Device :=
  d.onLink l fun x => { x with reqs := x.reqs ++ rs }.pump l d.time.frame

/-- Everything outstanding on a link is dropped. -/
def Link.quiet (x : Link) : Link := { x with out := none, reqs := [], tx := [], tapply := false, recBytes := [] }

/-! ### Table entries (R181, R254) -/

/-- Rounding to the nearest tick unit, halves upward (R181). -/
def roundUp (q : Rat) : Nat := (q + 1 / 2).floor.toNat

/-- The entry of a set for a link (R181), with a staged copy in place of the set; 338 tick units for an unusable one (R254). -/
def Device.entryFor (d : Device) (l s : Nat) (staged : Option TimingSet) : Nat × Nat :=
  let v := d.tsView s staged
  let x := d.link l
  let g := (d.chan (d.chanOfLink l)).cfg.strobe
  if d.setUsableAt l d.time.n v then
    (roundUp ((bits (v (tsConv l)) 23 0 : Nat) - x.tu), roundUp ((bits (v (tsStrobe g)) 23 0 : Nat) - x.tu))
  else (338, 338)

/-- TABLE_WRITE requests for the sets whose entries differ from those loaded. -/
def Device.changedEntries (d : Device) (l : Nat) (sets : List Nat) (staged : Nat → Option TimingSet) : List MgmtReq :=
  sets.filterMap fun s =>
    let e := d.entryFor l s (staged s)
    if tabGet (0, 0) (d.link l).table s = e then none else some (.tableWrite s e.1 e.2)

/-- The loaded entries as the requests name them. -/
def Link.loading (x : Link) (rs : List MgmtReq) : Link :=
  rs.foldl (fun x r => match r with
    | .tableWrite s c t => { x with table := tabSet (0, 0) x.table s (c, t) }
    | .config sg p => { x with cfgSg := sg, cfgPairs := p }
    | _ => x) x

/-- A link is sent staged values; TAPPLY follows the last acknowledgement (R182). -/
def Device.stageOnLink (d : Device) (l : Nat) (rs : List MgmtReq) : Device :=
  if rs.isEmpty then d else (d.onLink l fun x => x.loading rs).request l rs

/-- CONFIG for a link where its strobe group or pair count changes (R167, R190). -/
def Device.configFor (d : Device) (l n : Nat) : List MgmtReq :=
  let c := d.chan (d.chanOfLink l)
  let p := c.pairsOf (d.link l).desc n
  let x := d.link l
  if x.cfgSg = c.cfg.strobe ∧ x.cfgPairs = p then [] else [.config c.cfg.strobe p]

/-- The staged copy of a set while a TS_WRITE of it is in progress (R255). -/
def Device.stagedOf (d : Device) (s : Nat) : Option TimingSet :=
  match d.edge.write with
  | some w => if w.set = s then some w.staged else none
  | none => none

/-- Every entry of an UP link that has changed is reloaded: after a change of t_u, of the strobe group or of the period (R182, R254). -/
def Device.reload (d : Device) (l n : Nat) : Device :=
  if d.linkUp l then d.stageOnLink l (d.configFor l n ++ d.changedEntries l (List.range 16) d.stagedOf) else d

/-! ### Round trips (R179, R180, R182) -/

/-- RT_f and t_f in tick units; RT_f is the mean of the last 1,024 valid round trips. -/
def Link.rtf (x : Link) : Rat :=
  if x.rts.isEmpty then 0 else ((x.rts.foldl (· + ·) 0 : Nat) : Rat) / (16 * (x.rts.length : Rat))
def Link.tf (x : Link) : Rat := (x.rtf - 50688 / 100) / 2 + (x.trim : Rat) / 16

/-- t_u follows t_f once they differ by 2 tick units, with the reload of R182. -/
def Device.followSkew (d : Device) (l : Nat) : Device :=
  let x := d.link l
  if d.linkUp l && decide (2 ≤ ratAbs (x.tf - x.tu)) then (d.setLink l { x with tu := x.tf }).reload l d.time.n else d

/-- The status word of EL_STATUS (R178). -/
def LinkState.code : LinkState → Nat
  | .disabled => 0 | .search => 1 | .describe => 2 | .up => 3 | .refused => 4

def Device.elWord (d : Device) (l : Nat) : Nat :=
  let x := d.link l
  x.state.code + flag x.dual 3 + flag (x.state == .up && x.active) 4 + flag x.newFe 5 + flag x.rtStep 6 + flag x.feProt 7 + x.refuse * 256 +
  flag (d.chan (d.chanOfLink l)).cal.persist.isSome 12 + x.misses * 65536

end Sys2Proof.Machine
end

