-- ==== Sys2Proof/Machine/Edge.lean ====
section
/-! DEFINITION. The edge-placement engine: timing-set commands, MK pins, triggers, strobe groups, auxiliary DACs and monitor comparators
(R250..R282, R406..R411). -/

namespace Sys2Proof.Machine

/-! ### Timing sets (R252..R255, R257) -/

/-- R257: the valid edges of a MARKER pin end at IDLE in a set. -/
def endsIdle (v : Nat → Nat) (m : Nat) (idle : Bool) : Bool :=
  match (pinEdges v m).getLast? with
  | some e => e.2.2 == idle
  | none => true

def routeMode (r : Nat) : Nat := bits r 2 0
def routeIdle (r : Nat) : Bool := bit r 3
def routeBit (r : Nat) : Nat := bits r 4 4
def routePol (r : Nat) : Bool := bit r 5
def routeChan (r : Nat) : Nat := bits r 14 6
def routeSrc (r : Nat) : Bool := bit r 15

/-- The first MARKER pin that a set's contents leave away from IDLE. -/
def Device.markerFault (d : Device) (v : Nat → Nat) : Option Nat :=
  (d.edge.pins.find? fun p => routeMode p.2.route == 3 && !endsIdle v p.1 (routeIdle p.2.route)).map (·.1)

/-- The entries that TS_WRITE carries: entry number and value. -/
def Cmd.tsWords (c : Cmd) : List (Nat × Nat) :=
  (List.range ((c.par.length - 8) / 4)).map fun k => (c.u32 4 / 4 + k, c.u32 (8 + 4 * k))

/-- The staged copy that TS_WRITE leaves. -/
def Device.tsStaged (d : Device) (c : Cmd) : TimingSet :=
  c.tsWords.foldl (fun t w => tabSet (tsDefault d.edge.resetN w.1) t w.1 w.2) (d.tsSet (c.u8 0))

/-- Parameter offset of an entry, no single field where TS_WRITE does not carry it (R383). -/
def Cmd.tsOffset (c : Cmd) (i : Nat) : Nat :=
  if c.u32 4 ≤ 4 * i ∧ 4 * i + 8 < c.u32 4 + c.par.length then 8 + 4 * i - c.u32 4 else 0xFFFFFFFF

/-- Reserved bits of an entry (R250). -/
def tsReserved (i v : Nat) : Bool := if i < 256 then bits v 31 26 ≠ 0 else bits v 31 24 ≠ 0

/-- The checks of TS_WRITE that depend on the packet alone. -/
def tsWriteStatic (c : Cmd) : List Check :=
  [bad (decide (15 < c.u8 0)) 0, resv c.par [1, 2, 3],
   bad (c.u32 4 % 4 ≠ 0 || decide (3200 ≤ c.u32 4) || decide (3200 < c.u32 4 + (c.par.length - 8))) 4] ++
  (match c.tsWords.find? fun w => tsReserved w.1 w.2 with
   | some w => [bad true (c.tsOffset w.1)]
   | none => [])

/-- A channel is armed or about to be. -/
def Chan.inUse (c : Chan) : Bool := c.armed || c.armReq.isSome

/-- The first link of a channel in use on which TS_WRITE would make the selected set unusable (R254). -/
def Device.breaksArmed (d : Device) (s : Nat) (v : Nat → Nat) : Option Nat :=
  d.usedChans.findSome? fun ch =>
    if (d.chan ch).inUse && (d.chan ch).cfg.tset == s then (d.linksOf ch).find? fun l => d.linkUp l && !d.setUsableAt l d.time.n v else none

/-- TS_WRITE (R255): the staged copy, and TABLE_WRITE to every UP link whose delays change. -/
def runTsWrite (c : Cmd) (d : Device) : Res :=
  let s := c.u8 0
  let staged := d.tsStaged c
  let v := d.tsView s (some staged)
  checked d (tsWriteStatic c ++
    [(match tsFault v d.time.n with | some i => bad true (c.tsOffset i) | none => bad false 0),
     (match d.markerFault v with | some m => bad true (c.tsOffset (tsEdge m 0)) | none => bad false 0),
     (match d.breaksArmed s v with | some l => bad true (c.tsOffset (tsConv l)) | none => bad false 0), no d.edge.write.isSome stBUSY])
    (let ls := (d.links.map (·.1)).filter fun l => d.linkUp l && !(d.changedEntries l [s] fun _ => some staged).isEmpty
     let w : TsWrite := { set := s, staged := staged, links := ls, affected := ls, env := c.env }
     let d : Device := { d with edge := { d.edge with write := some w } }
     (.interim stACCEPTED [], d.each ls fun d l => d.stageOnLink l (d.changedEntries l [s] fun _ => some staged)))

/-- A link of a TS_WRITE has acknowledged, or is lost (R255). -/
def Device.tsLinkDone (d : Device) (l : Nat) (lost : Bool) : Device :=
  match d.edge.write with
  | some w =>
    let w' : TsWrite := { w with links := w.links.filter (· ≠ l), affected := if lost then w.affected.filter (· ≠ l) else w.affected }
    { d with edge := { d.edge with write := some w' } }
  | none => d

/-- Is TAPPLY of a link left to a TS_WRITE in progress. -/
def Device.tsHolds (d : Device) (l : Nat) : Bool := match d.edge.write with | some w => w.affected.contains l | none => false

/-- Frame u of R255 begins: contents in force, TAPPLY in this frame's blocks of every affected link, the completion with the tick of u. -/
def Device.tsCommit (d : Device) : Device :=
  match d.edge.write with
  | some w =>
    if w.links.isEmpty then
      let d := { d with edge := { d.edge with write := none, sets := tabSet [] d.edge.sets w.set w.staged } }
      let d := d.each w.affected fun d l => d.onLink l fun x => { x with tapply := true }
      d.final w.env stOK (le64 d.time.tick)
    else d
  | none => d

/-- An action of a command waits for a given boundary tick. -/
def Device.schedAt (d : Device) (op : Op) (c : Cmd) (tick : Nat) : Device :=
  { d with sched := d.sched ++ [{ tick := tick, acc := c.acc, act := .cmd op c }] }

/-- The boundary no earlier than frame k + 2 for a command accepted in frame k (R252, R266, R268). -/
def Device.leadBoundary (d : Device) (c : Cmd) (lead : Nat) : Nat :=
  d.boundaryAt c.frame (max c.nb (d.nextTick + (c.frame + lead - 1 - d.time.frame) * (160 * d.time.n)))

def tsSelectStatic (c : Cmd) : List Check := [bad (decide (15 < c.u32 0)) 0]

/-- TS_SELECT (R252, R254). -/
def runTsSelect (c : Cmd) (d : Device) : Res :=
  checked d (tsSelectStatic c ++ [bad (c.scope == 1 && !d.setUsableFor c.idx (c.u32 0)) 0])
    (let b := d.leadBoundary c 2
     okBoundary (d.schedAt .tsSelect c b) b)

/-- The selection at its boundary. -/
def applyTsSelect (c : Cmd) (d : Device) : Device :=
  if c.scope = 0 then { d with edge := { d.edge with devSet := c.u32 0 } }
  else d.onChan c.idx fun x => { x with cfg := { x.cfg with tset := c.u32 0 } }

/-! ### MK pins (R256..R259) -/

def mkRouteStatic (c : Cmd) : List Check := [bad (decide (4 < routeMode (c.u32 0)) || bits (c.u32 0) 31 16 ≠ 0) 0]

/-- A routing entry in force (R258): an output starts at IDLE, a pin that becomes an input is released. -/
def applyMkRoute (c : Cmd) (d : Device) : Device :=
  let r := c.u32 0
  let p := d.pin c.idx
  let fresh := routeMode p.route = 0 ∨ routeMode r = 1 ∨ routeMode r = 3
  d.setPin c.idx { p with route := r, issued := [], level := if routeMode r ≠ 0 ∧ fresh then routeIdle r else p.level }

/-- MK_ROUTE (R257, R258). -/
def runMkRoute (c : Cmd) (d : Device) : Res :=
  let r := c.u32 0
  checked d (mkRouteStatic c ++
    [bad (routeMode r == 3 && !((List.range 16).all fun s => endsIdle (d.tsWord s) c.idx (routeIdle r))) 0])
    (let b := d.boundary c
     okBoundary (d.atBoundary .mkRoute c applyMkRoute) b)

/-- The set that a pin or comparator follows (R251): that of its source channel, or the device set. -/
def Device.followedSet (d : Device) (src : Option Nat) : Nat :=
  match src with
  | some ch => (d.chan ch).cfg.tset
  | none => d.edge.devSet

/-- Edges that change the level, in order: position and level (R257). -/
def issueEdges : Bool → List (Nat × Nat × Bool) → List (Nat × Bool) × Bool
  | lv, [] => ([], lv)
  | lv, (_, p, l) :: es =>
    let (out, last) := issueEdges l es
    (if l = lv then out else (p, l) :: out, last)

/-- The marker bits of a channel for the frame just begun: those of the sample sent, none while it is parked (R259). -/
def Device.markerOf (d : Device) (ch : Nat) : Nat := if (d.chan ch).arm = .parked then 0 else (d.chan ch).seq.sampleMark

/-- One MK pin in the frame just begun (R256, R257). -/
def Device.pinFrame (d : Device) (m : Nat) : Device :=
  let p := d.pin m
  let r := p.route
  let es := pinEdges (d.tsWord (d.followedSet (if routeSrc r then some (routeChan r) else none))) m
  let mark := bit (d.markerOf (routeChan r)) (routeBit r) != routePol r
  match routeMode r with
  | 0 =>
    let act := p.level != p.actLow
    let inactive := !act
    d.setPin m { p with fired := false, issued := [], activeFrames := if act then p.activeFrames + 1 else 0,
                        masked := p.masked && !(p.unmaskPend && inactive), unmaskPend := p.unmaskPend && !inactive }
  | 1 => d.setPin m { p with fired := false, issued := [], level := routeIdle r }
  | 2 => let (l, last) := issueEdges p.level es
         d.setPin m { p with fired := false, issued := l, level := last }
  | 3 => if mark then let (l, last) := issueEdges p.level es
                      d.setPin m { p with fired := false, issued := l, level := last }
         else d.setPin m { p with fired := false, issued := [], level := routeIdle r }
  | _ =>
    let pos := match es with | e :: _ => e.2.1 | [] => 16
    d.setPin m { p with fired := false, issued := if mark = p.level then [] else [(pos, mark)], level := mark }

/-! ### Trigger inputs (R260..R265) -/

def sat16 (n : Nat) : Nat := min 65535 n
def sat32 (n : Nat) : Nat := min (2 ^ 32 - 1) n

/-- The status word of R265. -/
def MkPin.word (p : MkPin) : Nat :=
  flag p.level 0 + flag p.stuck 1 + flag p.masked 2 + flag p.unmaskPend 3 + p.chatterQ * 65536

/-- The active edge of R260: RISE is the edge into the active level, FALL the edge out of it, BOTH either (DEDUCED, log 29). -/
def MkPin.isActive (p : MkPin) (level : Bool) : Bool :=
  match p.edge with
  | 0 => level != p.actLow
  | 1 => level == p.actLow
  | _ => true

/-- A captured edge (R261..R263): window, event, excess and record. -/
def Device.capture (d : Device) (m t : Nat) (level synthetic : Bool) : Device :=
  let p := d.pin m
  let act := p.evEn && p.isActive level
  let fires := act && !p.fired
  let rec_ := le64 t ++ [BitVec.ofNat 8 m, BitVec.ofNat 8 (flag level 0 + flag synthetic 1 + flag fires 2)] ++ le16 p.chatter ++
    [BitVec.ofNat 8 p.folio] ++ zeros 3
  let d := d.setPin m { p with winEnd := some (t + 64), capLevel := level, fired := p.fired || fires,
                               excess := if act && p.fired then sat32 (p.excess + 1) else p.excess,
                               chatter := if p.capEn then 0 else p.chatter, folio := if p.capEn then (p.folio + 1) % 256 else p.folio }
  let d := if p.capEn then { d with queue := { d.queue with trigRecs := d.queue.trigRecs ++ [(m, rec_)] } } else d
  if fires then d.event m t else d

/-- TRIGGER_EDGE (R261). -/
def Device.triggerEdge (d : Device) (m : Nat) (rising : Bool) (t : Nat) : Device :=
  let d := d.at t
  let p := d.pin m
  if routeMode p.route ≠ 0 then d
  else
    let d := d.setPin m { p with level := rising, activeFrames := if rising != p.actLow then p.activeFrames else 0 }
    if p.masked then d
    else
      match p.winEnd with
      | some w =>
        if t < w then d.setPin m { d.pin m with chatter := sat16 (p.chatter + 1), chatterQ := sat16 (p.chatterQ + 1) }
        else d.capture m t rising false
      | none => d.capture m t rising false

/-- TRIGGER_RESAMPLE (R261): the pin is sampled at the end of the window; a level other than the captured one is a synthetic edge. -/
def Device.triggerResample (d : Device) (m t : Nat) : Device :=
  let d := d.at t
  let p := d.pin m
  match p.winEnd with
  | some w =>
    let d := d.setPin m { p with winEnd := none }
    if routeMode p.route = 0 && !p.masked && p.level != p.capLevel then d.capture m w p.level true else d
  | none => d

/-- TRIGGER_STUCK (R264). -/
def Device.triggerStuck (d : Device) (m : Nat) : Device :=
  let p := d.pin m
  if routeMode p.route = 0 && !p.masked && decide (0 < p.stuckTime) && decide (p.stuckTime < p.activeFrames) then
    let d := d.setPin m { p with stuck := true, masked := true, winEnd := none }
    d.notice p.owner 3 m d.time.tick (le32 (d.pin m).word)
  else d

def trigConfigStatic (c : Cmd) : List Check :=
  if c.opf = 0 then
    [bad (decide (1 < c.u8 0)) 0, bad (decide (2 < c.u8 1)) 1, bad (decide (1 < c.u8 2)) 2, bad (decide (1 < c.u8 3)) 3,
     bad (decide (2 ^ 20 ≤ c.u32 4)) 4, bad (decide (16777215 < c.u32 8)) 8, resv c.par [12, 13, 14, 15]]
  else [badAny (c.opf == 3)]

/-- TRIG_CONFIG's settings at their boundary (R407). -/
def applyTrigConfig (c : Cmd) (d : Device) : Device :=
  d.setPin c.idx { d.pin c.idx with actLow := c.u8 0 == 1, edge := c.u8 1, evEn := c.u8 2 == 1, capEn := c.u8 3 == 1, ring := c.u32 4,
                                    stuckTime := c.u32 8 }

/-- TRIG_CONFIG, with CLEAR and with QUERY (R260, R264, R265, R406, R407). -/
def runTrigConfig (c : Cmd) (d : Device) : Res :=
  let p := d.pin c.idx
  let ringOk := if c.opf = 0 && c.u8 3 == 1 then
      d.qCheck c 4 false ++ [bad (match d.ring? (c.u32 4) with | some r => r.kind ≠ 3 | none => false) 4]
    else []
  checked d (trigConfigStatic c ++ ringOk)
    (if c.opf = 0 then ok (d.atBoundary .trigConfig c applyTrigConfig) []
     else if c.opf = 1 then ok (d.setPin c.idx { p with stuck := false, unmaskPend := true }) []
     else ok (d.setPin c.idx { p with chatterQ := 0 }) (le32 p.word ++ le32 p.excess ++ le32 p.lost))

/-! ### Strobe groups (R266, R267) -/

/-- Members of a 16-bit mask. -/
def maskBits (m n : Nat) : List Nat := (List.range n).filter fun b => bit m b

/-- A request of strobe groups for a frame; requests for one frame merge (R266). -/
def Device.requestStrobe (d : Device) (mask frame : Nat) : Device :=
  d.each (maskBits mask 16) fun d g =>
    let s := d.strobe g
    if s.reqs.contains frame then d else d.setStrobe g { s with reqs := s.reqs ++ [frame] }

def chStrobeStatic (c : Cmd) : List Check := [bad (decide (65536 ≤ c.u32 0)) 0]

/-- CH_STROBE (R266): the groups fire in frame k + 2 or later. -/
def runChStrobe (c : Cmd) (d : Device) : Res :=
  checked d (chStrobeStatic c ++ [no ((maskBits (c.u32 0) 16).any fun g => (d.strobe g).owner ≠ c.env.fn) stBAD_TARGET])
    (let b := d.leadBoundary c 2
     okBoundary (d.requestStrobe (c.u32 0) (d.frameOfTick b)) b)

/-- The groups that fire in the frame just begun. -/
def Device.strobeFrame (d : Device) : Device :=
  d.each (List.range 16) fun d g =>
    let s := d.strobe g
    d.setStrobe g { s with fires := s.always || s.reqs.contains d.time.frame, reqs := s.reqs.filter fun k => decide (d.time.frame < k) }

/-- MASK of D0 (R159). -/
def Device.strobeMask (d : Device) : Nat := (List.range 16).foldl (fun w g => w + flag (d.strobe g).fires g) 0

/-! ### Auxiliary DACs (R268..R270) -/

def bindOk (b : Nat) : Bool := b == 0xFFFF || decide (b < 512) || (bit b 15 && decide (b % 32768 < 64))

def axdWriteStatic (c : Cmd) : List Check :=
  [bad (decide (3 < c.u8 2)) 2, bad (bit (c.u8 2) 0 && decide (15 < c.u8 3)) 3, bad (decide (0x3FFFF < c.u32 4)) 4,
   bad (bit (c.u8 2) 1 && !bindOk (c.u16 8)) 8, resv c.par [10, 11]]

/-- The owner of what an AXD is bound to. -/
def Device.bindOwner (d : Device) (b : Nat) : Option Nat :=
  if b = 0xFFFF then none else if bit b 15 then some (d.zone (b % 64)).owner else some (d.chan b).owner

/-- AXD_WRITE (R268, R411): the code is staged, for frame k + 2 at the earliest. -/
def runAxdWrite (c : Cmd) (d : Device) : Res :=
  let f := c.env.fn
  let other (o : Option Nat) := match o with | some x => x ≠ f | none => false
  checked d (axdWriteStatic c ++
    [no ((maskBits (c.u16 0) 16).any fun a => (d.axd a).owner ≠ f) stBAD_TARGET,
     no (bit (c.u8 2) 0 && (d.strobe (c.u8 3)).owner ≠ f) stBAD_TARGET,
     no (bit (c.u8 2) 1 && other (d.bindOwner (c.u16 8))) stBAD_TARGET])
    (ok (d.each (maskBits (c.u16 0) 16) fun d a =>
      let x := d.axd a
      d.setAxd a { x with staged := some (c.u32 4, c.frame + 2), group := if bit (c.u8 2) 0 then c.u8 3 else x.group,
                          bind := if bit (c.u8 2) 1 then c.u16 8 else x.bind }) [])

def axdStrobeStatic (c : Cmd) : List Check := [bad (decide (65536 ≤ c.u32 0)) 0]

/-- AXD_STROBE (R268). -/
def runAxdStrobe (c : Cmd) (d : Device) : Res :=
  checked d (axdStrobeStatic c ++ [no ((maskBits (c.u32 0) 16).any fun a => (d.axd a).owner ≠ c.env.fn) stBAD_TARGET])
    (let b := d.leadBoundary c 2
     okBoundary (d.each (maskBits (c.u32 0) 16) fun d a =>
       let x := d.axd a
       d.setAxd a { x with strobes := x.strobes ++ [d.frameOfTick b] }) b)

/-- Staged codes that apply at the strobe instants of the frame just begun (R267, R268). -/
def Device.axdFrame (d : Device) : Device :=
  d.each (List.range 16) fun d a =>
    let x := d.axd a
    let n := d.time.frame
    let go := (d.strobe x.group).fires || x.strobes.contains n
    let strobes := x.strobes.filter fun k => decide (n < k)
    match x.staged with
    | some (code, from_) =>
      if go && decide (from_ ≤ n) && x.out.isSome then d.setAxd a { x with out := some code, staged := none, strobes := strobes }
      else d.setAxd a { x with strobes := strobes }
    | none => d.setAxd a { x with strobes := strobes }

/-- AXDs bound to a hard-parked channel, or to its zone, go to mid-scale for causes 0x2 and 0x4 (R270). -/
def Device.axdSafe (d : Device) (ch cause : Nat) : Device :=
  if cause = 2 ∨ cause = 4 then
    d.each (List.range 16) fun d a =>
      let x := d.axd a
      if x.bind = ch ∨ (x.bind ≠ 0xFFFF ∧ bit x.bind 15 ∧ x.bind % 64 = (d.model ch).zone) then
        d.setAxd a { x with out := x.out.map fun _ => 0x20000, staged := none, strobes := [] }
      else d
  else d

/-! ### Monitor comparators (R272..R281) -/

/-- Hysteresis in µV and an LSB of the thresholds in units of 1/4096 of 1.8 V (R272). -/
def monHyst (h : Nat) : Nat := match h with | 0 => 0 | 1 => 5000 | 2 => 10000 | _ => 20000

/-- LO + h < HI (R272). -/
def monBandOk (lo hi h : Nat) : Bool := decide (lo * 1800000 + monHyst h * 4096 < hi * 1800000)

/-- The status word of R280. -/
def Mon.word (m : Mon) : Nat :=
  flag m.live 0 + flag m.latch 1 + flag m.unsettled 2 + flag m.edgeMode 3 + flag m.rise 4 + flag m.fall 5 + flag m.blanked 6 +
  flag m.prot 7 + m.trips * 65536

/-- An instant lies in a selected blanking window of the comparator's set (R56, R273). -/
def Device.monBlanked (d : Device) (m : Nat) (t : Nat) : Bool :=
  let x := d.mon m
  let s := d.followedSet x.srcChan
  let o := t - d.time.tick
  (maskBits x.blank 8).any fun w => decide (bits (d.tsWord s (tsWindow w)) 23 0 ≤ o) && decide (o < bits (d.tsWord s (tsWindow w + 1)) 23 0)

/-- A wake (R29): the engines ungate and the mode changes at a boundary once they run. -/
def Device.wake (d : Device) (t : Nat) : Device :=
  if d.inStandby && d.mode.waking.isNone then
    let (b, d) := d.wakeBoundary t d.nextTick
    let d' : Device := { d with mode := { d.mode with waking := some b } }
    d'.askMode b d.cmd.nextAcc .wake
  else d

/-- An entry into the tripped state, stamped `t` (R275..R277). -/
def Device.monEnter (d : Device) (m t : Nat) : Device :=
  let x := d.mon m
  let targets := if x.protEn then (maskBits x.protSet 512).filter fun ch => (d.chan ch).inUse else []
  let x' : Mon := { x with live := true, latch := x.latch || !x.edgeMode, rise := x.rise || x.edgeMode, unsettled := false,
                           trips := sat16 (x.trips + 1), first := if x.first = 0 && x.last = 0 then t else x.first, last := t,
                           prot := x.prot || !targets.isEmpty, fired := x.fired || x.evEn }
  let d := (d.setMon m x').parkAll targets 2 (t + 320)
  let d := if x.evEn && !x.fired then d.event (64 + m) t else d
  let d := if x.noticeEn then d.notice x.owner 4 m t (le32 x'.word ++ le64 t) else d
  if x.wakeEn then d.wake t else d

/-- A release (R272, R275). -/
def Device.monLeave (d : Device) (m : Nat) : Device :=
  let x := d.mon m
  d.setMon m { x with live := false, fall := x.fall || x.edgeMode }

/-- MONITOR_TRIP and MONITOR_RELEASE: a crossing that a window suppresses sets BLANKED alone (R273). -/
def Device.monitorTrip (d : Device) (m t : Nat) : Device :=
  let d := d.at t
  if !d.running || (d.mon m).live then d
  else if d.monBlanked m t then d.setMon m { d.mon m with blanked := true }
  else d.monEnter m t

def Device.monitorRelease (d : Device) (m t : Nat) : Device :=
  let d := d.at t
  if !d.running || !(d.mon m).live then d
  else if d.monBlanked m t then d.setMon m { d.mon m with blanked := true }
  else d.monLeave m

/-- BLANKING_WINDOW_END (R273): the input is judged afresh at the window's end. -/
def Device.blankingEnd (d : Device) (m : Nat) (tripped : Bool) (t : Nat) : Device :=
  let d := d.at t
  let live := (d.mon m).live
  if !d.running || d.monBlanked m t then d
  else if tripped && !live then d.monEnter m t
  else if !tripped && live then d.monLeave m
  else d

/-- MONITOR_PERIOD_CLEAR (R274): at a boundary of a frame with k mod P = 0 the latch takes the live state. -/
def Device.monitorPeriod (d : Device) (m : Nat) : Device :=
  let x := d.mon m
  if x.atPeriod && !x.edgeMode && d.time.frame % (max x.period 1) == 0 then d.setMon m { x with latch := x.live } else d

/-- UNSETTLED_CLEARS (R279): on the non-trip side the state clears; a comparator that started released trips on the trip side. -/
def Device.unsettledClears (d : Device) (m : Nat) (tripSide : Bool) : Device :=
  let x := d.mon m
  if !x.unsettled then d
  else
    let d := d.setMon m { x with unsettled := false }
    if !tripSide && x.live then d.monLeave m
    else if tripSide && !x.live then d.monEnter m d.time.now
    else d

def monConfigStatic (c : Cmd) : List Check :=
  [bad (decide (3 < c.u8 0)) 0, bad (decide (3 < c.u8 1)) 1, bad (decide (1 < c.u8 2)) 2, bad (decide (4095 < c.u16 4)) 4,
   bad (decide (4095 < c.u16 6)) 6, bad (decide (2 ≤ c.u8 0) && !monBandOk (c.u16 4) (c.u16 6) (c.u8 1)) 4,
   bad (decide (c.u32 8 < 1) || decide (65536 < c.u32 8)) 8, bad (decide (1 < c.u8 12)) 12, bad (decide (1 < c.u8 13)) 13,
   bad (decide (511 < c.u16 14)) 14, bad (decide (15 < c.u8 16)) 16, resv c.par [17, 18, 19]]

/-- The protection set that MON_CONFIG carries. -/
def Cmd.protSet (c : Cmd) : Nat := leNat ((c.par.drop 20).take 64)

/-- MON_CONFIG at its boundary (R272, R279, R410). -/
def applyMonConfig (c : Cmd) (d : Device) : Device :=
  let x := d.mon c.idx
  let e := c.u8 16
  d.setMon c.idx { x with
    mode := c.u8 0, hyst := c.u8 1, atPeriod := c.u8 2 == 1, blank := c.u8 3, lo := c.u16 4, hi := c.u16 6, period := c.u32 8
    srcChan := if c.u8 12 = 1 then some (c.u16 14) else none, safeNot := c.u8 13 == 1
    live := if x.unsettled then c.u8 13 == 0 else x.live
    evEn := bit e 0, noticeEn := bit e 1, wakeEn := bit e 2, protEn := bit e 3, protSet := c.protSet }

/-- MON_CONFIG (R272, R281, R410). -/
def runMonConfig (c : Cmd) (d : Device) : Res :=
  checked d (monConfigStatic c ++ [no ((maskBits c.protSet 512).any fun ch => (d.chan ch).owner ≠ c.env.fn) stBAD_TARGET])
    (let b := d.boundary c
     okBoundary (d.atBoundary .monConfig c applyMonConfig) b)

/-- MON_STATUS; CLEAR reports first, then clears (R274, R280, R409). -/
def runMonStatus (c : Cmd) (d : Device) : Res :=
  let x := d.mon c.idx
  let pay := le32 x.word ++ zeros 4 ++ le64 x.first ++ le64 x.last
  let x : Mon := { x with trips := 0 }
  ok (d.setMon c.idx (if c.opf = 1 then { x with rise := false, fall := false, blanked := false, prot := false, first := 0, last := 0,
                                                 clearPend := true }
                      else x)) pay

/-- Edge-flag mode is in force (R275): BRING-UP, PROOF and recovery from SAFE. -/
def Device.edgeFlagMode (d : Device) : Bool := d.mode.phase == .bringUp || d.inProof || d.mode.recovery

/-- A comparator at a frame boundary (R274, R275): the end of edge-flag mode and a software clear load the latch. -/
def Device.monFrame (d : Device) (m : Nat) : Device :=
  let x := d.mon m
  let em := d.edgeFlagMode
  let x := { x with fired := false }
  let x := if x.edgeMode && !em then { x with edgeMode := false, latch := x.live || x.rise } else { x with edgeMode := em }
  d.setMon m (if x.clearPend then { x with clearPend := false, latch := if em then x.latch else x.live } else x)

/-- A comparator in the protection set blocks CH_ARM (R278). -/
def Device.monBlocks (d : Device) (ch : Nat) : Bool := d.edge.mons.any fun m => bit m.2.protSet ch && (m.2.live || m.2.latch)

/-! ### SET_FRAME (R40, R41, R190) -/

/-- The frame that begins at the tick just reached has the new length (R41): entries and CONFIG of every UP link follow, TAPPLY with the
first block, and the reply with N and t_c. -/
def Device.changePeriod (d : Device) (n : Nat) (e : Env) : Device :=
  let d := { d with time := { d.time with n := n } }
  let d := d.each ((d.links.map (·.1)).filter d.linkUp) fun d l => (d.reload l n).onLink l fun x => { x with tapply := true }
  d.final e stOK (le32 n ++ zeros 4 ++ le64 d.time.tick)

/-- Every SET_FRAME that is due at the boundary just begun. -/
def Device.dueSetFrame (d : Device) : Device :=
  let due := d.time.setFrame.filter fun s => decide (s.1 ≤ d.time.tick)
  let d := { d with time := { d.time with setFrame := d.time.setFrame.filter fun s => !decide (s.1 ≤ d.time.tick) } }
  due.foldl (fun d s => d.changePeriod s.2.1 s.2.2) d

/-- SET_FRAME (R40, R41): CONFIG with the new pair counts goes out before the change (R190); the reply follows the change. -/
def runSetFrame (c : Cmd) (d : Device) : Res :=
  let n := c.u32 0
  checked d (d.setFrameChecks c)
    (if c.atNow then (.later, d.changePeriod n c.env)
     else
       let d := { d with time := { d.time with setFrame := d.time.setFrame ++ [(d.boundary c, n, c.env)] } }
       (.later, d.each ((d.links.map (·.1)).filter d.linkUp) fun d l => d.stageOnLink l (d.configFor l n)))

end Sys2Proof.Machine
end

