-- ==== Sys2Proof/Machine/Cal.lean ====
section
/-! DEFINITION. Background calibration: reference requests, fits, commits, persistence and the CAL_ opcodes (R121..R148, R403..R405, R557). -/

namespace Sys2Proof.Machine

/-- The quantity and range of a measure or source set (R121). -/
def setQuantity (s : Nat) : Nat := if s < 8 then 0 else if s < 20 then 1 else if s < 28 then 0 else 1
def setRange (s : Nat) : Nat := if s < 8 then s else if s < 20 then s - 8 else if s < 28 then s - 20 else s - 28

/-- Is a set's range declared. -/
def Desc.declares (x : Desc) (s : Nat) : Bool := decide (setRange s < (x.ranges (setQuantity s)).length)

/-- The measure sets of a round in their order (R130). -/
def Desc.roundSets (x : Desc) : List Nat := (List.range x.v.length) ++ (List.range x.i.length).map (8 + ·)

/-- The reference kinds, 1 ZERO to 5 HALF_MINUS, that a measure set's range declares (R125). -/
def Desc.kinds (x : Desc) (s : Nat) : List Nat :=
  match x.range? (setQuantity s) (setRange s) with
  | some r => (offsets 1 5).filter fun k => bit r.refMask (k - 1)
  | none => []

/-- The true value of a reference, normalised to the range's full scale (R125, R171). -/
def Desc.truth (x : Desc) (s k : Nat) : Rat :=
  match x.range? (setQuantity s) (setRange s) with
  | some r =>
    let v : F32 := match k with | 2 => r.plus | 3 => r.minus | 4 => r.halfPlus | 5 => r.halfMinus | _ => 0
    f32ToRat v / f32ToRat r.fs
  | none => 0

/-! ### Reference conversions (R126..R129, R165) -/

/-- The position in the round at or after (set, kind): the reference to convert next. -/
def Desc.position (x : Desc) (s k : Nat) : Option (Nat × Nat) :=
  match (x.kinds s).find? fun j => decide (k ≤ j) with
  | some j => some (s, j)
  | none => none

/-- The set after `s` in a round, the first one after the last. -/
def Desc.nextSet (x : Desc) (s : Nat) : Nat :=
  match x.roundSets.find? fun j => decide (s < j) with
  | some j => j
  | none => x.roundSets.headD 0

/-- Reference conversions are made in leading slots: class C with t_ref at most t_lead (R127). -/
def leadingSlot (x : Desc) (n : Nat) : Bool := decide (100 ≤ n) && decide (f32ToRat x.tRef ≤ f32ToRat x.tLead)

/-- The second path conducts in the block under way (R165). -/
def Chan.secv (c : Chan) : Bool := c.range.state == .ovMake || c.range.state == .ovCompare || c.range.state == .ovFade

/-- A calibration frame may be taken from the channel (R128). -/
def Chan.calFrameOk (c : Chan) (frame : Nat) : Bool :=
  c.loop.compl == .none && c.range.state == .steady && c.range.change.isNone && !(c.arm == .arming) &&
  !(c.arm ≠ .parked && decide (c.armFrame ≤ frame ∧ frame ≤ c.armFrame + c.settle)) &&
  (match c.cal.calFrame with | some k => decide (k + 4096 ≤ frame) | none => true)

/-- The reference that the block of the frame just begun requests for a channel (R126..R130): the point under way, or the one after it
where the request still out completes it. The die budget slows requests to one frame in four, or stops them. -/
def Device.calRequest (d : Device) (ch : Nat) : Option (Nat × Nat) :=
  let c := d.chan ch
  match d.desc? ch with
  | none => none
  | some x =>
    let slow := if leadingSlot x d.time.n then decide (d.time.frame % 4 = 0)
                else (match c.cal.calFrame with | some k => decide (k + 16384 ≤ d.time.frame) | none => true)
    if c.cal.mode = 0 || c.cal.sensorHold || d.imp.die.state == 2 || d.shutDown || c.secv || (d.imp.die.state == 1 && !slow) ||
        !(leadingSlot x d.time.n || c.calFrameOk d.time.frame) then none
    else
      let full := c.cal.ask == some (c.cal.set, c.cal.kind) && decide (c.cal.k ≤ c.cal.count + 1)
      match x.position c.cal.set (if full then c.cal.kind + 1 else c.cal.kind) with
      | some p => some p
      | none => x.position (x.nextSet c.cal.set) 1

/-- The request of a frame takes its place: that of the frame before is what the upstream block answers (R126). -/
def Device.calFrameBegin (d : Device) (ch : Nat) : Device :=
  let c := d.chan ch
  let r := d.calRequest ch
  let taken := match d.desc? ch with | some x => r.isSome && !leadingSlot x d.time.n | none => false
  if c.cal.ask.isNone && c.cal.asked.isNone && r.isNone then d
  else d.onCal ch fun k => { k with asked := k.ask, ask := r, calFrame := if taken then some d.time.frame else k.calFrame }

/-- The value that the active set gives for a raw mean is within 0.5 % of FS of the reference's true value (R131); with no valid
active set nothing is predicted (DEDUCED, log 32). -/
def Device.pointOk (d : Device) (ch s k : Nat) (m : Rat) : Bool :=
  let b := (d.chan ch).cal.active
  match d.desc? ch with
  | some x => !bit b.valid s || decide (ratAbs ((b.use s).measure (d.chan ch).cal.th m - x.truth s k) ≤ 5 / 1000)
  | none => false

/-- The point under way is complete (R130, R131): its mean is kept or counted as discarded, and the round moves on. -/
def Device.calPoint (d : Device) (ch : Nat) : Device :=
  let k := (d.chan ch).cal
  match d.desc? ch with
  | none => d
  | some x =>
    let m := k.sum / ((max k.count 1 : Nat) : Rat)
    let fine := d.pointOk ch k.set k.kind m
    let points := if fine then k.points ++ [(k.kind, m)] else k.points
    let lost := k.lost || !fine
    let disc := if fine then k.pointsDisc else sat32 (k.pointsDisc + 1)
    match x.position k.set (k.kind + 1) with
    | some (_, j) => d.onCal ch fun k => { k with kind := j, sum := 0, count := 0, points := points, lost := lost, pointsDisc := disc }
    | none =>
      let th := k.thTotal / ((max k.thCount 1 : Nat) : Rat)
      d.onCal ch fun k => { k with set := x.nextSet k.set, kind := 1, sum := 0, count := 0, points := [], lost := false, thTotal := 0,
                                   thCount := 0, pointsDisc := disc, fits := k.fits ++ [(k.set, points, th, lost)] }

/-- A reference result arrives in AUX (R126, R165): it counts for the request of the frame before. -/
def Device.calResult (d : Device) (ch : Nat) (aux : Int) : Device :=
  let k := (d.chan ch).cal
  match k.asked with
  | some (s, j) =>
    let d := d.onCal ch fun k => { k with asked := none }
    if k.mode = 0 || k.sensorHold || (s, j) ≠ (k.set, k.kind) then d
    else
      let d := d.onCal ch fun k => { k with sum := k.sum + (aux : Rat) / 131072, count := k.count + 1, thTotal := k.thTotal + k.th,
                                            thCount := k.thCount + 1 }
      if k.k ≤ k.count + 1 then d.calPoint ch else d
  | none => d

/-! ### Fits (R130..R133) -/

/-- A rational as the nearest binary32 coefficient. -/
def coefOf (g o c2 c3 a t : Rat) : Coef :=
  { g := ratToF32 g, o := ratToF32 o, c2 := ratToF32 c2, c3 := ratToF32 c3, alpha := ratToF32 a, t0 := ratToF32 t }

/-- α, T0 and g from the history of (Th, gT) pairs (R132): the set that results. -/
def tempFit (act : Coef) (hist : List (Rat × Rat)) (th gT o c2 c3 : Rat) : Coef :=
  let ths := hist.map (·.1)
  if 5 ≤ spread ths then
    match lineFit hist with
    | some (slope, icpt) =>
      let t0 := mean ths
      let g := icpt + slope * t0
      coefOf g o c2 c3 (if g = 0 then 0 else slope / g) t0
    | none => { coefOf gT o c2 c3 0 th with alpha := act.alpha, t0 := act.t0 }
  else
    let den := 1 + f32ToRat act.alpha * (th - f32ToRat act.t0)
    { coefOf (if den = 0 then gT else gT / den) o c2 c3 0 0 with alpha := act.alpha, t0 := act.t0 }

/-- A fit of a set is discarded: the count of consecutive rounds; at the sixteenth the set is marked and bit 50 rises (R131). -/
def Device.fitDiscarded (d : Device) (ch s : Nat) : Device :=
  let k := (d.chan ch).cal
  let n := tabGet 0 k.fails s + 1
  let d := d.onCal ch fun k => { k with fails := tabSet 0 k.fails s n, fitFail := if 16 ≤ n then setBit k.fitFail s else k.fitFail,
                                        fitsDisc := sat32 (k.fitsDisc + 1) }
  if n = 16 then d.raiseErr (errAt 50 0 11 (some ch)) d.time.now else d

/-- An accepted fit goes into the staged set, or into the monitor step while a commit is withheld (R130, R139). -/
def CalUnit.accept (k : CalUnit) (s : Nat) (c : Coef) : CalUnit :=
  let k := { k with fails := tabSet 0 k.fails s 0, fitFail := clrBit k.fitFail s }
  if k.withheld then
    if bit k.active.valid s then { k with monAcc := ratMax k.monAcc (setStep (k.active.use s) c s k.th * 1000000) } else k
  else { k with staged := { k.staged with valid := setBit k.staged.valid s, sets := tabSet { g := 0 } k.staged.sets s c } }

/-- The fit of one measure set (R125, R130..R132). -/
def Device.fitMeasure (d : Device) (ch : Nat) (f : Nat × List (Nat × Rat) × Rat × Bool) : Device :=
  let (s, pts, th, lost) := f
  let k := (d.chan ch).cal
  match d.desc? ch with
  | none => d
  | some x =>
    let act := k.active.use s
    match (if lost then none else fitPoints act (pts.map fun p => (p.2, x.truth s p.1))) with
    | none => d.fitDiscarded ch s
    | some (gT, o, c2, c3) =>
      let hist := ((th, gT) :: tabGet [] k.hist s).take 16
      let c := tempFit act hist th gT o c2 c3
      if c.ok then d.onCal ch fun k => { k with hist := tabSet [] k.hist s hist }.accept s c else d.fitDiscarded ch s

/-- The refit of one source set at the end of a round (R133): w against y, with the second and third order terms at the active gain
(DESIGN CHOICE, log 33: the place at which the held terms are evaluated). -/
def CalUnit.fitSource (k : CalUnit) (s : Nat) : CalUnit × Bool :=
  let ps := tabGet [] k.pairs s
  let act := k.active.use s
  let f := 1 + f32ToRat act.alpha * (k.th - f32ToRat act.t0)
  let gT := f32ToRat act.g * f
  let hi := fun (y : Rat) => let t := if gT = 0 then 0 else y / gT; f32ToRat act.c2 * t * t + f32ToRat act.c3 * t * t * t
  let k := { k with newPairs := tabSet 0 k.newPairs s 0 }
  let c : Option Coef :=
    if 1 / 10 ≤ spread (ps.map (·.2)) then
      match lineFit (ps.map fun p => (p.2, p.1 - hi p.2)) with
      | some (slope, o) => if slope = 0 ∨ f = 0 then none else some { act with g := ratToF32 (1 / slope / f), o := ratToF32 o }
      | none => none
    else some { act with o := ratToF32 (mean (ps.map fun p => p.1 - (if gT = 0 then 0 else p.2 / gT) - hi p.2)) }
  match c with
  | some c => if c.ok then (k.accept s c, true) else (k, false)
  | none => (k, false)

/-- A pair (w, y) of a source set forwarded by the engine (R133). -/
def CalUnit.pushPair (k : CalUnit) (s : Nat) (w y : Rat) : CalUnit :=
  { k with pairs := tabInsert k.pairs s (((w, y) :: tabGet [] k.pairs s).take 4096), newPairs := tabInsert k.newPairs s (tabGet 0 k.newPairs s + 1) }

/-- Every source set with 1,024 new pairs is refitted (R133). -/
def Device.fitSources (d : Device) (ch : Nat) : Device :=
  if !(d.chan ch).cal.fitting then d
  else
    (((d.chan ch).cal.newPairs.filter fun p => decide (1024 ≤ p.2)).map (·.1)).foldl (init := d) fun d s =>
      let (k, ok) := (d.chan ch).cal.fitSource s
      let d := d.onCal ch fun _ => k
      if ok then d else d.fitDiscarded ch s

/-! ### Commits (R136..R142) -/

/-- Channels of a calibration group, or the channel alone for group 0; of one function where a command asks. -/
def Device.calMembers (d : Device) (g : Nat) (fn : Option Nat) : List Nat :=
  d.usedChans.filter fun ch => (d.chan ch).cal.group == g && (match fn with | some f => (d.chan ch).owner == f | none => true)

def Device.calWith (d : Device) (ch : Nat) (fn : Option Nat) : List Nat :=
  let g := (d.chan ch).cal.group
  if g = 0 then [ch] else d.calMembers g fn

/-- The step test of R138 over the members of a commit: the largest step, its set, and whether it exceeds that member's limit. -/
def Device.stepTest (d : Device) (l : List Nat) : Rat × Nat × Bool :=
  l.foldl (init := ((0 : Rat), 0, false)) fun acc ch =>
    let k := (d.chan ch).cal
    let (st, s) := bankStep k.active k.staged k.th
    let past := decide ((k.limit : Rat) < st)
    if acc.1 < st then (st, s, acc.2.2 || past) else (acc.1, acc.2.1, acc.2.2 || past)

/-- A commit is withheld (R139, R141). -/
def Device.withhold (d : Device) (l : List Nat) (st : Rat) (s : Nat) : Device :=
  d.each l fun d ch =>
    let d := d.onCal ch fun k => { k with withheld := true, lastStep := ratToF32 st, lastSet := s, monitor := ratToF32 st, monAcc := 0, ready := false }
    d.notice (d.chan ch).owner 2 ch d.time.now (leF32 (ratToF32 st) ++ [BitVec.ofNat 8 s, 1])

/-- Staged differs from active: there is something to commit. -/
def CalUnit.dirty (k : CalUnit) : Bool := k.staged.sets ≠ k.active.sets || k.staged.valid ≠ k.active.valid

/-- A bank becomes active at the boundary just begun (R135, R136); the capture packet under way ends (R82). -/
def Device.commitNow (d : Device) (ch : Nat) : Device :=
  d.onChan ch fun c =>
    let b := commitBank c.cal.staged c.cal.active d.time.tick
    { c with cal := { c.cal with active := b, staged := b, withheld := false, monitor := 0, monAcc := 0, ready := false, lastCommit := d.time.tick } }

/-- A commit's reply payload (R140). -/
def commitPayload (b : Nat) (step : F32) (s : Nat) : List Byte := le64 b ++ leF32 step ++ [BitVec.ofNat 8 s] ++ zeros 3

/-- A commit that waits for its boundary (R136, R140..R142): made at the first boundary after the range changes in progress have
completed, R118 (the last frame of an overlap change, e, is past: log 125), not made where a member's link is down. -/
def Device.commitFrame (d : Device) (ch : Nat) : Device :=
  match (d.chan ch).cal.commit with
  | none => d
  | some p =>
    if d.time.tick < p.nb then d
    else
      let l := d.calWith ch (p.env.map (·.fn))
      let drop (d : Device) := d.onCal ch fun k => { k with commit := none }
      if !(d.linkUp (d.linkOf ch)) then (drop d).final? p.env stNOT_READY (commitPayload 0 p.step p.set)
      else if l.any (fun m => (d.chan m).range.change.isSome || (d.chan m).range.tail.isSome) || (!p.force && decide (1 < l.length) && l.any fun m => !(d.chan m).cal.dirty) then
        match p.env with
        | some e =>
          if p.interim then d
          else (d.reply e stACCEPTED [] true).onCal ch fun k => { k with commit := some { p with interim := true } }
        | none => d
      else
        let d := (drop d).each l fun d m => d.commitNow m
        let d := d.each l fun d m => d.onCal m fun k => { k with lastStep := p.step, lastSet := p.set }
        d.final? p.env stOK (commitPayload d.time.tick p.step p.set)

/-- An automatic commit at the end of a round (R137, R139, R141). -/
def Device.autoCommit (d : Device) (ch : Nat) : Device :=
  let k := (d.chan ch).cal
  if k.mode ≠ 2 || k.withheld || !k.dirty then d
  else
    let d := d.onCal ch fun k => { k with ready := true }
    let l := d.calWith ch none
    if l.all fun m => (d.chan m).cal.ready then
      let (st, s, past) := d.stepTest l
      if past then d.withhold l st s
      else d.onCal ch fun k => { k with commit := some { nb := d.nextTick, env := none, interim := false, force := false, step := ratToF32 st, set := s } }
    else d

/-- CAL_FIT_COMPLETE (R130): the oldest due fit, and with a round's last one the source refits, the monitor step and the commit. -/
def Device.calFitComplete (d : Device) (ch : Nat) : Device :=
  match (d.chan ch).cal.fits with
  | [] => d
  | f :: rest =>
    let d := (d.onCal ch fun k => { k with fits := rest }).fitMeasure ch f
    match d.desc? ch with
    | none => d
    | some x =>
      if x.roundSets.getLast? = some f.1 then
        let d := (d.fitSources ch).onCal ch fun k =>
          { k with rounds := sat32 (k.rounds + 1), monitor := if k.withheld then ratToF32 k.monAcc else 0, monAcc := 0 }
        d.autoCommit ch
      else d

/-! ### Persistence (R144, R145, R173) -/

/-- The 1,040-byte record (R173). -/
def persistRecord (seq : Nat) (bank : List Byte) : List Byte := le32 0x4B4E4142 ++ le32 seq ++ le32 1024 ++ le32 (crc32 bank) ++ bank

/-- NVM_WRITE requests for a record, 64 bytes each. -/
def persistWrites (slot : Nat) (rec_ : List Byte) : List MgmtReq :=
  (List.range 17).map fun k => .nvmWrite slot (64 * k) ((rec_.drop (64 * k)).take 64)

/-- A persist is asked for; the snapshot waits for the next boundary. -/
def Device.startPersist (d : Device) (ch : Nat) (e : Option Env) : Device :=
  d.onCal ch fun k => { k with persist := some { env := e, boundary := none, bytes := [], slot := 0, seq := 0, offset := 0, sealing := false } }

/-- The snapshot at a boundary, and the writes of the other slot (R144, R173). -/
def Device.persistFrame (d : Device) (ch : Nat) : Device :=
  match (d.chan ch).cal.persist with
  | some p =>
    if p.boundary.isSome then d
    else
      let l := d.linkOf ch
      let (slot, seq) := match (d.link l).newest with | some (s, q) => (1 - s, (q + 1) % 2 ^ 32) | none => (0, 1)
      let bytes := (d.chan ch).cal.active.bytes
      let d := d.onCal ch fun k => { k with persist := some { p with boundary := some d.time.tick, bytes := bytes, slot := slot, seq := seq } }
      d.request l (persistWrites slot (persistRecord seq bytes) ++ [.nvmSeal slot])
  | none => d

/-- The persist ends: confirmed, or cut short (R145). -/
def Device.endPersist (d : Device) (ch : Nat) (done : Bool) : Device :=
  match (d.chan ch).cal.persist with
  | none => d
  | some p =>
    let l := d.linkOf ch
    let d := d.onCal ch fun k => { k with persist := none, persistFail := !done, lastPersist := if done then d.time.now else k.lastPersist }
    let d := if done then d.onLink l fun x => { x with newest := some (p.slot, p.seq) }
             else d.onLink l fun x => { x with reqs := x.reqs.filter fun r => !r.isNvm }
    d.final? p.env (if done then stOK else stFAULT_ACTIVE) (if done then le64 (p.boundary.getD 0) ++ le32 p.seq else [])

/-- CAL_PERSIST_TIMER (R144): 24 hours after the last persist, skipped without coefficient memory. -/
def Device.persistTimer (d : Device) (ch : Nat) : Device :=
  match d.desc? ch with
  | some x => if x.capMemory && (d.chan ch).cal.persist.isNone then d.startPersist ch none else d
  | none => d

/-- A persist that was cut short is retried at link-up (R145). -/
def Device.retryPersist (d : Device) (ch : Nat) : Device :=
  if (d.chan ch).cal.persistFail && (d.chan ch).cal.persist.isNone then d.startPersist ch none else d

/-! ### Link up and link loss (R142, R143) -/

/-- The banks at link-up: the sets of the front-end's record (R143). -/
def Device.calLinkUp (d : Device) (ch : Nat) (rec_ : Option (List Byte)) : Device :=
  match (d.link (d.linkOf ch)).desc with
  | none => d
  | some x =>
    let bank := match rec_ with | some r => loadBank r x.declares | none => {}
    d.onCal ch fun k => { k.dropPartial with active := bank, staged := bank, set := x.roundSets.headD 0, hist := [], pairs := [], newPairs := [],
                                              fails := [], fitFail := 0, withheld := false, monitor := 0, monAcc := 0, ready := false, calFrame := none }

/-- Link loss (R142, R143): staged bank, fit history and any withheld commit go; a commit under way is answered NOT_READY; a
persist is cut short. -/
def Device.calLinkLost (d : Device) (ch : Nat) : Device :=
  let pend := (d.chan ch).cal.commit
  let d := d.endPersist ch false
  let d := d.onCal ch fun k => { k.dropPartial with active := {}, staged := {}, hist := [], pairs := [], newPairs := [], fails := [], fitFail := 0,
                                                     withheld := false, monitor := 0, monAcc := 0, ready := false, commit := none }
  match pend with
  | some p => d.final? p.env stNOT_READY (commitPayload 0 p.step p.set)
  | none => d

/-! ### The CAL_ opcodes (R147, R148, R403..R405) -/

/-- The code range's source set of a channel: that of its function's forcing path, voltage for OFF. -/
def Chan.codeSet (c : Chan) : Nat :=
  let q := (fnSource c.cfg.func).getD 0
  sourceSet q (if q = 0 then c.range.v else c.range.i)

/-- A set in use is invalid (R148). -/
def Chan.invalidSets (c : Chan) : Bool :=
  !bit c.cal.active.valid (measureSet 0 c.range.v) || !bit c.cal.active.valid (measureSet 1 c.range.i) || !bit c.cal.active.valid c.codeSet

/-- The calibration state word (R148). -/
def Device.calWord (d : Device) (ch : Nat) : Nat :=
  let c := d.chan ch
  let k := c.cal
  k.mode + flag k.withheld 2 + flag (k.fitFail ≠ 0) 3 + flag k.sensorHold 4 + flag (d.imp.die.state ≠ 0) 5 + flag k.persistFail 6 +
  flag c.invalidSets 7 + k.group * 256 + k.lastSet * 65536

/-- The members that a CAL_ command acts on (R403): the group's that the function owns, or the channel's. -/
def Device.calTargets (d : Device) (c : Cmd) : List Nat :=
  if c.scope = 2 then d.calMembers c.idx (some c.env.fn) else d.calWith c.idx (some c.env.fn)

/-- The channel that answers: the target, or the lowest-numbered member. -/
def Device.calLead (d : Device) (c : Cmd) : Nat := if c.scope = 2 then (d.calTargets c).headD 0 else c.idx

def calModeStatic (c : Cmd) : List Check :=
  [bad (decide (2 < c.u8 0)) 0, bad (decide (1 < c.u8 1)) 1, resv c.par [3], bad (decide (c.u32 4 < 16) || decide (4096 < c.u32 4)) 4,
   bad (decide (c.u32 8 < 1) || decide (1000 < c.u32 8)) 8]

/-- CAL_MODE's settings at their boundary (R147). -/
def applyCalMode (c : Cmd) (d : Device) : Device :=
  d.onCal c.idx fun k => { k with mode := c.u8 0, fitting := c.u8 1 == 1, group := c.u8 2, k := c.u32 4, limit := c.u32 8 }

def runCalMode (c : Cmd) (d : Device) : Res :=
  let k := (d.chan c.idx).cal
  checked d (calModeStatic c ++ [no (k.withheld && k.group ≠ c.u8 2) stBUSY])
    (let b := d.boundary c
     okBoundary (d.atBoundary .calMode c applyCalMode) b)

/-- CAL_STATUS (R404). -/
def runCalStatus (c : Cmd) (d : Device) : Res :=
  let ch := d.calLead c
  let k := (d.chan ch).cal
  checked d [no (c.scope == 2 && (d.calTargets c).isEmpty) stBAD_TARGET]
    (ok d (le32 (d.calWord ch) ++ le32 k.active.commits ++ le64 k.lastCommit ++ leF32 k.lastStep ++ leF32 k.monitor ++ le32 k.pointsDisc ++
      le32 k.fitsDisc ++ le32 k.rounds ++ zeros 4))

/-- Discard (R139, R141): the staged banks become copies of the active ones. -/
def applyCalCommit (c : Cmd) (d : Device) : Device :=
  d.each (d.calTargets c) fun d ch => d.onCal ch fun k => { k with staged := k.active, withheld := false, monitor := 0, monAcc := 0, ready := false }

/-- CAL_COMMIT, with FORCE and with DISCARD (R139..R142, R403). -/
def runCalCommit (c : Cmd) (d : Device) : Res :=
  let l := d.calTargets c
  let ch := d.calLead c
  let (st, s, past) := d.stepTest l
  let b := d.boundary c
  let pend (force : Bool) : PendCommit := { nb := b, env := some c.env, interim := false, force := force, step := ratToF32 st, set := s }
  checked d [badAny (c.opf == 3), no (c.scope == 2 && l.isEmpty) stBAD_TARGET]
    (if c.opf = 2 then (.done stOK (commitPayload b (d.chan ch).cal.lastStep (d.chan ch).cal.lastSet), d.atBoundary .calCommit c applyCalCommit)
     else if c.opf = 0 && past then (.done stBUDGET_REFUSED (commitPayload 0 (ratToF32 st) s), d.withhold l st s)
     else
       let old := (d.chan ch).cal.commit
       let d := d.onCal ch fun k => { k with commit := some (pend (c.opf == 1)) }
       let d := match old with | some p => d.final? p.env stOK (commitPayload b p.step p.set) | none => d
       (.later, if c.atNow then d.commitFrame ch else d))

/-- CAL_READ (R403, R405). -/
def runCalRead (c : Cmd) (d : Device) : Res :=
  if c.scope = 0 then ok d (padTo 1056 Config.trims)
  else
    checked d [bad (decide (1 < c.u8 0)) 0, resv c.par [1, 2, 3]]
      (let k := (d.chan c.idx).cal
       ok d (if c.u8 0 = 0 then k.active else k.staged).bytes)

def calWriteStatic (c : Cmd) : List Check :=
  [bad (decide (39 < c.u8 0)) 0, resv c.par [1, 2, 3],
   (match (decodeCoef c.par 4).badField with | some o => bad true (4 + o) | none => bad false 0)]

/-- CAL_WRITE (R147): one set of the staged bank. -/
def runCalWrite (c : Cmd) (d : Device) : Res :=
  let k := (d.chan c.idx).cal
  checked d (calWriteStatic c ++
    [bad (match d.desc? c.idx with | some x => !x.declares (c.u8 0) | none => true) 0, no (k.mode == 2 || k.withheld) stBUSY])
    (ok (d.onCal c.idx fun k =>
      { k with staged := { k.staged with valid := setBit k.staged.valid (c.u8 0), sets := tabSet { g := 0 } k.staged.sets (c.u8 0) (decodeCoef c.par 4) } }) [])

/-- CAL_PERSIST (R144, R403). -/
def runCalPersist (c : Cmd) (d : Device) : Res :=
  let x := d.desc? c.idx
  checked d [no x.isNone stNOT_READY, badAny (match x with | some x => !x.capMemory | none => false),
             no (d.chan c.idx).cal.persist.isSome stBUSY]
    (.interim stACCEPTED [], d.startPersist c.idx (some c.env))

end Sys2Proof.Machine
end

