-- ==== Sys2Proof/Machine/Link.lean ====
section
/-! DEFINITION. Elvux links: link states, descriptors, coefficient records, upstream blocks, dual homing and the EL_ opcodes (R157..R190, R422). -/

namespace Sys2Proof.Machine

/-! ### Range state at link-up and at a park (R97, R118) -/

/-- The ranges of a channel whose link comes up (R97). -/
def Device.rangesUp (d : Device) (ch : Nat) : Device :=
  match (d.link (d.linkOf ch)).desc with
  | some x => d.onChan ch fun c => { c with range := { v := x.top 0, i := x.top 1 } }
  | none => d

/-- The range of a quantity in force, and a new one. -/
def RangeUnit.code (r : RangeUnit) (q : Nat) : Nat := if q = 0 then r.v else r.i
def RangeUnit.setCode (r : RangeUnit) (q k : Nat) : RangeUnit := if q = 0 then { r with v := k } else { r with i := k }

/-- A change in progress ends as a hard park ends it (R118): before the release of the old path the old range stays; once the switch
has been sent the new one. The command that asked for it completes with the range in force. -/
def Device.abortRange (d : Device) (ch : Nat) : Device :=
  let r := (d.chan ch).range
  match r.change with
  | none =>
    match r.cont with
    | none => d
    | some w =>
      let d := d.onChan ch fun c => { c with range := { c.range with cont := none } }
      d.final? w.env stOK (le64 d.time.tick ++ le64 d.time.tick ++ [BitVec.ofNat 8 (r.code w.quantity)] ++ zeros 3)
  | some x =>
    let q := x.want.quantity
    let code := if r.state = .hsHold then x.new else r.code q
    let d := d.onChan ch fun c => { c with range := { (r.setCode q code) with state := .steady, change := none, cont := none, tail := none } }
    let env := match r.cont with | some w => w.env | none => x.want.env
    d.final? env stOK (le64 (d.tickOfFrame (x.want.first.getD x.b)) ++ le64 d.time.tick ++ [BitVec.ofNat 8 code] ++ zeros 3)

/-! ### Loss of a link (R176, R187) -/

/-- The other link of a dual-homed pair. -/
def pairOther (l : Nat) : Nat := if l % 2 = 0 then l + 1 else l - 1

/-- The other link of the pair takes the active role from the next boundary (R187). -/
def Device.swapActive (d : Device) (l : Nat) : Device :=
  let o := pairOther l
  let d := (d.onLink l fun x => { x with active := false }).onLink o fun x => { x with active := true }
  (d.onChan (min l o) fun c => { c with linkAlt := o % 2 == 1 }).abortRange (min l o)

/-- What a link leaves behind as it leaves UP, whatever the cause: requests, TS_WRITE's wait, the ready bit, and the channel's park, or
the switch to the other link of a pair that is UP. -/
def Device.dropLink (d : Device) (l cause : Nat) (dst : LinkState) : Device :=
  let x := d.link l
  let wasUp := x.state == .up
  let ch := d.chanOfLink l
  let o := pairOther l
  let saved := x.dual && d.linkUp o
  let d := d.setLink l { x.quiet with state := dst, pages := [], hdrs := [], missRun := 0, missAt := [], validRun := 0, rts := [], held := false,
                                       up := none, table := [], cfgPairs := 0 }
  let d := d.tsLinkDone l true
  if !wasUp then d
  else
    let d := { d with ready := { d.ready with linksClr := setBit d.ready.linksClr l, linksNext := clrBit d.ready.linksNext l } }
    if saved then (if x.active then d.swapActive l else d)
    else (d.park ch cause d.nextTick).calLinkLost ch

/-- Link loss (R176): the PF_WORD bit rises and the link's shadow opens until two frames after SEARCH is entered (R488). -/
def Device.linkLost (d : Device) (l : Nat) : Device :=
  let id := d.flt.nextId
  let up := d.linkUp l
  let d := d.dropLink l 3 .search
  if up then
    let d := d.raiseErr (errAt (9 + l / 16) (l % 16) 8 (some (d.chanOfLink l))) d.time.now
    d.openShadow (.link (Fin.ofNat 512 l)) id (some (d.nextTick + 2 * (160 * d.time.n)))
  else d

/-- Misses within the last 1,024 frames. -/
def Link.recentMisses (x : Link) (frame : Nat) : Nat := (x.missAt.filter fun k => decide (frame < k + 1024)).length

/-- LINK_LOSS (R175, R176): 8 consecutive misses, or in UP 64 of 1,024. -/
def Device.linkLossEvent (d : Device) (l : Nat) : Device :=
  let x := d.link l
  let gone := decide (8 ≤ x.missRun)
  if x.state = .disabled ∨ x.state = .search then d
  else if gone || (x.state == .up && decide (64 ≤ x.recentMisses d.time.frame)) then d.linkLost l
  else d

/-- One missed upstream block (R175, R178). -/
def Link.miss (x : Link) (frame : Nat) : Link :=
  { x with held := false, misses := sat16 (x.misses + 1), missRun := x.missRun + 1, validRun := 0
           missAt := frame :: x.missAt.filter fun k => decide (frame < k + 1024) }

/-! ### Bring-up of a link (R169..R175, R189) -/

/-- SYNC_BLOCKS_FOUND: SEARCH to DESCRIBE after 16 consecutive valid upstream blocks, page 0 first. -/
def Device.syncFound (d : Device) (l : Nat) : Device :=
  if (d.link l).state = .search ∧ 16 ≤ (d.link l).validRun then
    (d.onLink l fun x => { x.quiet with state := .describe, pages := [], hdrs := [], missRun := 0, missAt := [] }).request l [.pageRead 0]
  else d

/-- The request outstanding is done; the next one goes. Staged values that are all acknowledged wait for TAPPLY (R167, R182), with a
TS_WRITE or a SET_FRAME where one is under way (R190, R255). -/
def Device.reqDone (d : Device) (l : Nat) : Device :=
  let was := match (d.link l).out with | some o => o.msg.isStaged | none => false
  let drained := was && !((d.link l).reqs.any MgmtReq.isStaged)
  let d := d.onLink l fun x => { x with out := none }.pump l d.time.frame
  if !drained then d
  else if d.tsHolds l then d.tsLinkDone l false
  else if d.time.setFrame.isEmpty then d.onLink l fun x => { x with tapply := true }
  else d

/-- CONFIG, the 16 TABLE_WRITE entries and ACCEPT (R175). -/
def Device.configureLink (d : Device) (l : Nat) : Device :=
  let c := d.chan (d.chanOfLink l)
  let cfg : MgmtReq := .config c.cfg.strobe (c.pairsOf (d.link l).desc d.time.n)
  let tables := (List.range 16).map fun s => let e := d.entryFor l s (d.stagedOf s); MgmtReq.tableWrite s e.1 e.2
  let rs := cfg :: tables
  (d.onLink l fun x => x.loading rs).request l (rs ++ [.accept])

/-- The header of a sealed record (R173): its sequence number, none where magic or length is wrong. -/
def recordSeq (h : List Byte) : Option Nat := if u32At h 0 = 0x4B4E4142 ∧ u32At h 8 = 1024 then some (u32At h 4) else none

/-- The slot of the record to read next: the higher sequence number among the headers still in question. -/
def Link.bestSlot (x : Link) : Option Nat :=
  match recordSeq (tabGet [] x.hdrs 0), recordSeq (tabGet [] x.hdrs 1) with
  | some a, some b => some (if a < b then 1 else 0)
  | some _, none => some 0
  | none, some _ => some 1
  | none, none => none

/-- Reads of a record's bank, 64 bytes each. -/
def recordReads (slot : Nat) : List MgmtReq := (List.range 16).map fun k => .nvmRead slot (16 + 64 * k) 64

/-- The newest record is read, or there is none: the record is taken and the front-end is configured (R143, R175). -/
def Device.nextRecord (d : Device) (l : Nat) : Device :=
  match (d.link l).bestSlot with
  | some s => (d.onLink l fun x => { x with recSlot := s, recBytes := [] }).request l (recordReads s)
  | none => (d.onLink l fun x => { x with recBytes := [], newest := none }).configureLink l

/-- All pages are read (R172): the checks, then the coefficient record, or REFUSED. -/
def Device.descriptorRead (d : Device) (l : Nat) : Device :=
  let x := d.link l
  let other := if x.dual then (d.link (pairOther l)).desc.map (·.serial) else none
  let code := checkDesc x.pages other
  if code ≠ 0 then d.setLink l { x.quiet with state := .refused, refuse := code, desc := none }
  else
    let desc := decodeDesc x.pages
    let d := d.setLink l { x with desc := some desc, refuse := 0, tu := x.tf, hdrs := [], recBytes := [], newest := none }
    if desc.capMemory then d.request l [.nvmRead 0 0 16, .nvmRead 1 0 16] else d.configureLink l

/-- Pages that a link in DESCRIBE still has to read after page 0: those of R169, none where page 0 is out of its limits. -/
def pagesAfter (p : List Byte) : List Nat :=
  let n := byteAt p 6 + byteAt p 7
  if byteAt p 6 < 1 ∨ 8 < byteAt p 6 ∨ byteAt p 7 < 1 ∨ 12 < byteAt p 7 ∨ byteAt p 5 ≠ descPages n then [] else offsets 1 (byteAt p 5 - 1)

/-- PAGE_DATA (R167, R169): the page of the request outstanding. -/
def Device.pageData (d : Device) (l page : Nat) (data : List Byte) : Device :=
  let x := d.link l
  if x.state = .describe ∧ data.length = 256 ∧ (x.out.map (·.msg)) = some (.pageRead page) then
    let d := (d.onLink l fun x => { x with pages := tabInsert x.pages page data }).reqDone l
    let d := if page = 0 then d.request l ((pagesAfter data).map .pageRead) else d
    if (d.link l).out.isNone && (d.link l).reqs.isEmpty then d.descriptorRead l else d
  else d

/-- NVM_DATA (R167, R173): both headers, then the newest record; one whose CRC fails gives way to the other. -/
def Device.nvmData (d : Device) (l slot offset : Nat) (data : List Byte) : Device :=
  let x := d.link l
  if x.state = .describe ∧ (x.out.map (·.msg)) = some (.nvmRead slot offset data.length) then
    let d := d.reqDone l
    if offset = 0 then
      let d := d.onLink l fun x => { x with hdrs := tabInsert x.hdrs slot data }
      if (d.link l).reqs.isEmpty && (d.link l).out.isNone then d.nextRecord l else d
    else
      let d := d.onLink l fun x => { x with recBytes := x.recBytes ++ data }
      let x := d.link l
      if x.recBytes.length < 1024 then d
      else
        let h := tabGet [] x.hdrs slot
        if crc32 x.recBytes = u32At h 12 then (d.onLink l fun x => { x with newest := some (slot, u32At h 4) }).configureLink l
        else (d.onLink l fun x => { x with hdrs := tabInsert x.hdrs slot [] }).nextRecord l
  else d

/-- A link notice (kind 8, R189, R375). -/
def Device.linkNotice (d : Device) (l : Nat) : Device :=
  d.notice (d.chan (d.chanOfLink l)).owner 8 l d.time.now (le32 (d.elWord l))

/-- After the ACK of ACCEPT (R175): UP, the ready bit, NEWFE, and for a channel that had no link its ranges and its banks (R97, R143). -/
def Device.linkUpNow (d : Device) (l : Nat) : Device :=
  let x := d.link l
  let ch := d.chanOfLink l
  let o := pairOther l
  let otherUp := x.dual && d.linkUp o
  let ser := match x.desc with | some s => s.serial | none => []
  let fresh := match x.lastSerial with | some s => s ≠ ser | none => false
  let rec_ := if x.newest.isSome then some x.recBytes else none
  let d := d.setLink l { x with state := .up, active := !otherUp, newFe := fresh || x.newFe, lastSerial := some ser, missRun := 0, missAt := [],
                                recBytes := [] }
  let d := { d with ready := { d.ready with linksNext := setBit d.ready.linksNext l, linksClr := clrBit d.ready.linksClr l } }
  let d := if fresh then d.linkNotice l else d
  if otherUp then d
  else
    let d := if x.dual then (d.onLink o fun y => { y with active := false }).onChan ch fun c => { c with linkAlt := l % 2 == 1 } else d
    ((d.rangesUp ch).calLinkUp ch rec_).retryPersist ch

/-- ACK (R167): the request outstanding is done. A failed result of a coefficient write cuts the persist short; any other failed result
leaves its request to R168 (DEDUCED, log 34). -/
def Device.ackEvent (d : Device) (l code : Nat) : Device :=
  match (d.link l).out with
  | none => d
  | some o =>
    let ch := d.chanOfLink l
    match o.msg with
    | .pageRead _ => d
    | .nvmRead _ _ _ => d
    | .accept => if code ≠ 0 then d else let d := d.reqDone l
                                         if (d.link l).state = .describe then d.linkUpNow l else d
    | .nvmWrite _ _ _ => if code = 0 then d.reqDone l else (d.endPersist ch false).reqDone l
    | .nvmSeal _ => if code = 0 then (d.reqDone l).endPersist ch true else (d.endPersist ch false).reqDone l
    | _ => if code = 0 then d.reqDone l else d

/-- MGMT_REPLY_TIMEOUT (R168): repeated, and at the third failure given up. -/
def Device.mgmtTimeout (d : Device) (l : Nat) : Device :=
  let x := d.link l
  match x.out with
  | none => d
  | some o =>
    if o.attempts < 3 then
      d.setLink l { x with out := some { o with attempts := o.attempts + 1, sentAt := d.time.frame }, tx := o.msg.words l }
    else if x.state = .describe then d.dropLink l 3 .search
    else if o.msg.isNvm then (d.endPersist (d.chanOfLink l) false).reqDone l
    else if x.state = .up then d.linkLost l
    else d.reqDone l

/-! ### Upstream blocks (R157, R162..R165, R175, R177, R179) -/

/-- One bit of a CRC-16 register (R85). -/
def crc16Bit (r : Nat) (b : Bool) : Nat :=
  let top := decide (0x8000 ≤ r) != b
  if top then ((2 * r) ^^^ 0x1021) % 65536 else 2 * r % 65536

/-- The bits of a digitizer burst's words, first word's bit 0 first. -/
def wordBits (l : List Word64) : List Bool := l.flatMap fun w => (List.range 64).map fun i => bit w.toNat i

def bitsNat : List Bool → Nat
  | [] => 0
  | b :: l => (if b then 1 else 0) + 2 * bitsNat l

/-- Pairs 1..p - 1 of the DZ words, and whether their CRC is right (R165). -/
def decodePairs (dz : List Word64) (p : Nat) : List (Int × Int) × Bool :=
  let n := 36 * (p - 1)
  let bs := wordBits dz
  let val := bs.take n
  let crc := bitsNat ((bs.drop n).take 16)
  let ok := decide (n + 16 ≤ bs.length) && val.foldl crc16Bit 0xFFFF == crc
  ((List.range (p - 1)).map fun j =>
    let w := bitsNat ((val.drop (36 * j)).take 36)
    (toSigned 18 (bits w 17 0), toSigned 18 (bits w 35 18)), ok)

/-- Half a unit interval of D0's delay in 1/16 tick unit: odd N and odd frame numbers (R154). -/
def Device.half16 (d : Device) : Nat := if d.time.n % 2 = 1 ∧ d.time.frame % 2 = 1 then 20 else 0

/-- A valid upstream block held for the engines: fields of U0 and U1, and the pairs (R162..R165). -/
def Device.upstreamOf (d : Device) (l : Nat) (u0 u1 : Nat) (dz : List Word64) : Upstream :=
  let p := (d.link l).cfgPairs
  let (ps, ok) := if p ≤ 1 then ([], true) else decodePairs dz p
  { frame := d.time.frame, v := toSigned 18 (bits u0 29 12), i := toSigned 18 (bits u0 47 30), status := bits u0 63 48, ts := bits u0 7 4,
    aux := bits u1 17 0, temp := toSigned 12 (bits u1 29 18), tempOk := bits u1 29 18 ≠ 0x800, rail := toSigned 12 (bits u1 41 30),
    pairs := if ok then ps else [], dzOk := ok }

/-- ACCEPTED clear in UP (R175): the channel parks with cause 0x3, the PF_WORD bit rises, and the link describes itself again. -/
def Device.selfProtected (d : Device) (l : Nat) : Device :=
  let d := d.dropLink l 3 .describe
  let d := d.raiseErr (errAt (9 + l / 16) (l % 16) 8 (some (d.chanOfLink l))) d.time.now
  d.request l [.pageRead 0]

/-- Link latency is perturbed (R497): round trips are not folded into RT_f, and t_u stays. -/
def Device.jittered (d : Device) (l : Nat) : Bool := d.proof.perturbs.any fun p => p.kind == 0 && p.unit == l

/-- UPSTREAM_BLOCK: a block with a wrong CRC, type or echo, or a round trip more than 4 UI from its mean, is missed; a valid one is held,
its round trip, temperature, reference result and status taken. -/
def Device.upstreamBlock (d : Device) (l : Nat) (u0 u1 : Word64) (dz : List Word64) (crcOk : Bool) (t16 : Nat) : Device :=
  let d := d.at (t16 / 16)
  let x := d.link l
  if x.state = .disabled ∨ ¬ d.time.started then d
  else
    let w0 := u0.toNat
    let rt := t16 - 16 * d.time.tick - d.half16
    let fine := crcOk && bits w0 3 0 == 0xA && bits w0 11 8 == d.time.frame % 16
    let far := fine && !x.rts.isEmpty && decide (4 * 256 / 100 < ratAbs (((rt : Nat) : Rat) / 16 - x.rtf))
    if !fine || far then d.setLink l { x.miss d.time.frame with rtStep := x.rtStep || far }
    else
      let b := d.upstreamOf l w0 u1.toNat dz
      let st := b.status
      let prot := bit st 7 || bit st 8
      let d := d.setLink l { x with held := true, up := some b, blkErr := bit st 4, missRun := 0, validRun := x.validRun + 1,
                                    rts := if d.jittered l then x.rts else (rt :: x.rts).take 1024, feProt := x.feProt || prot }
      if x.state ≠ .up then d
      else if !bit st 5 then d.selfProtected l
      else
        let ch := d.chanOfLink l
        let d := if b.tempOk && !(d.chan ch).cal.sensorHold then d.onCal ch fun k => { k with th := (b.temp : Rat) / 16 } else d
        let mine := l == d.linkOf ch
        let d := if mine && !bit st 3 then d.calResult ch (toSigned 18 b.aux) else d
        let d := if mine && bit st 4 then d.onCal ch fun k => { k with ask := none } else d
        if d.jittered l then d else d.followSkew l

/-- UPSTREAM_DEADLINE_MISS (R51): nothing held by L. The link's bit rises for a link that is UP. -/
def Device.upstreamMiss (d : Device) (l : Nat) : Device :=
  let x := d.link l
  if x.state = .disabled ∨ x.held then d
  else
    let d := d.fromL.setLink l (x.miss d.time.frame)
    if x.state = .up then d.raiseErr (errAt (9 + l / 16) (l % 16) 6 (some (d.chanOfLink l))) d.time.now else d

/-! ### The EL_ opcodes (R178, R184, R187, R422) -/

/-- t_f, RT_f and t_u as EL_STATUS returns them; RT_f of no round trip is a free value (log 6). -/
def Device.skewBytes (d : Device) (l : Nat) : List Byte × Device :=
  let x := d.link l
  let (rt, d) := if x.rts.isEmpty then d.freeRat else (x.rtf, d)
  (leF32 (ratToF32 ((rt - 50688 / 100) / 2)) ++ leF32 (ratToF32 rt) ++ leF32 (ratToF32 x.tu), d)

def runElStatus (c : Cmd) (d : Device) : Res :=
  let l := c.idx
  let w := d.elWord l
  let (s, d) := d.skewBytes l
  ok (if c.opf = 1 then d.onLink l fun x => { x with newFe := false, rtStep := false, feProt := false, misses := 0 } else d) (le32 w ++ s)

def elDescriptorStatic (c : Cmd) : List Check := [bad (decide (5 < c.u32 0)) 0]

def runElDescriptor (c : Cmd) (d : Device) : Res :=
  let x := d.link c.idx
  checked d (elDescriptorStatic c ++ [no (x.state ≠ .up && x.state ≠ .refused) stNOT_READY, bad (tabFind x.pages (c.u32 0)).isNone 0])
    (ok d (tabGet [] x.pages (c.u32 0)))

/-- The descriptor conditions of R184. -/
def Device.pairable (d : Device) (l : Nat) : Bool :=
  d.linkUp l && d.linkUp (l + 1) &&
  match (d.link l).desc, (d.link (l + 1)).desc with
  | some a, some b => a.serial == b.serial && a.capDual && b.capDual
  | _, _ => false

/-- EL_PAIR, SPLIT and SWAP at their boundary (R184, R187). -/
def applyElPair (c : Cmd) (d : Device) : Device :=
  let l := c.idx
  if c.opf = 0 then
    let d := (d.onLink l fun x => { x with dual := true, active := true }).onLink (l + 1) fun x => { x with dual := true, active := false }
    (d.onChan l fun x => { x with linkAlt := false }).onChan (l + 1) fun x => { x with arm := .parked, armReq := none, parkPend := none }
  else if c.opf = 1 then
    let d := (d.onLink l fun x => { x with dual := false, active := true }).onLink (l + 1) fun x => { x with dual := false, active := true }
    d.onChan l fun x => { x with linkAlt := false }
  else d.swapActive (d.linkOf l)

def runElPair (c : Cmd) (d : Device) : Res :=
  let l := c.idx
  let x := d.link l
  checked d [badAny (c.opf == 3), badAny (l % 2 == 1), no ((d.chan (l + 1)).owner ≠ c.env.fn) stBAD_TARGET, badAny (c.opf ≠ 0 && !x.dual),
             badAny (c.opf == 0 && !d.pairable l), no (c.opf ≠ 2 && (d.chan l).inUse) stBUSY,
             no (c.opf == 2 && !d.linkUp (pairOther (d.linkOf l))) stNOT_READY]
    (let b := d.boundary c
     okBoundary (d.atBoundary .elPair c applyElPair) b)

def elSkewStatic (c : Cmd) : List Check := [bad (decide (320 < (toSigned 32 (c.u32 0)).natAbs)) 0]

/-- EL_SKEW (R182, R422). -/
def runElSkew (c : Cmd) (d : Device) : Res :=
  checked d (elSkewStatic c)
    (let d := (d.onLink c.idx fun x => { x with trim := toSigned 32 (c.u32 0) }).followSkew c.idx
     let (s, d) := d.skewBytes c.idx
     ok d s)

/-- EL_RESET (R175): DISABLE from any state, ENABLE from DISABLED and REFUSED. -/
def runElReset (c : Cmd) (d : Device) : Res :=
  let x := d.link c.idx
  checked d [badAny (c.opf ≠ 1 && c.opf ≠ 2)]
    (if c.opf = 1 then ok (d.dropLink c.idx 3 .disabled) []
     else if x.state = .disabled ∨ x.state = .refused then
       ok (d.setLink c.idx { x.quiet with state := .search, pages := [], rts := [], missRun := 0, missAt := [], validRun := 0, refuse := 0 }) []
     else ok d [])

end Sys2Proof.Machine
end

