-- ==== Sys2Proof/Machine/Channel.lean ====
section
/-! DEFINITION. The channel opcodes (R63, R64, R68, R69, R76, R87..R91, R94, R115, R116, R389..R393). -/

namespace Sys2Proof.Machine

/-! ### Plant figures, limits and the stability rule (R63, R66, R68) -/

/-- G, τ, Gc, τc of a forcing path and range: the override of CH_CONFIG or the descriptor's figure (R66, R390). -/
def Chan.plantOf (c : Chan) (x : Desc) (path r : Nat) : F32 × F32 × F32 × F32 :=
  let o := tabGet {} c.cfg.plant (16 * path + r)
  match x.range? path r with
  | some rr => (o.g.getD rr.g, o.tau.getD rr.tau, o.gc.getD rr.gc, o.tauc.getD rr.tauc)
  | none => (o.g.getD 0x3F800000, o.tau.getD 0, o.gc.getD 0x3F800000, o.tauc.getD 0)

/-- Programmed limits of current and of voltage; one that was never set is 10 % of the present range's FS (R63). -/
def Chan.limit (c : Chan) (x : Desc) (q : Nat) (pos : Bool) : Rat :=
  let fs := x.fs q (c.range.code q) / 10
  let v := if q = 0 then (if pos then c.cfg.vPos else c.cfg.vNeg) else (if pos then c.cfg.iPos else c.cfg.iNeg)
  match v with
  | some l => f32ToRat l
  | none => if pos then fs else -fs

/-- R_Lmin, by default the quotient of the present ranges' full scales (R63). -/
def Chan.rlmin (c : Chan) (x : Desc) : Rat :=
  match c.cfg.rlmin with
  | some r => f32ToRat r
  | none => x.fs 0 c.range.v / x.fs 1 c.range.i

/-- P(z) of R68 for a loop of a function on one range: loop 0 main, 1 compliance. -/
def Chan.poly (c : Chan) (x : Desc) (n f path r lp : Nat) : List Rat :=
  let (_, tau, _, tauc) := c.plantOf x path r
  let t : Rat := (n : Rat) / 100000000
  if lp = 0 then
    let g := if f = fnFVZ then 1 + f32ToRat c.cfg.z / c.rlmin x else 1
    charPoly (plantPole t (f32ToRat tau)) g (f32ToRat c.cfg.kp) (f32ToRat c.cfg.ki)
  else charPoly (plantPole t (f32ToRat tauc)) 1 (f32ToRat c.cfg.kpc) (f32ToRat c.cfg.kic)

/-- The first range and loop of a function that fail R68: the payload of R69. -/
def Chan.unstable (c : Chan) (x : Desc) (n f : Nat) : Option (List Byte) :=
  if !fnClosed f then none
  else
    match fnPath f with
    | none => none
    | some path =>
      ((List.range (x.ranges path).length).flatMap fun r => [(r, 0), (r, 1)]).findSome? fun rl =>
        let p := c.poly x n f path rl.1 rl.2
        if polyOk p then none else some (le32 rl.1 ++ le32 rl.2 ++ leF32 (ratToF32 (maxRoot p)))

/-- The check of R69. -/
def Device.loopCheck (d : Device) (ch : Nat) (c : Chan) (f : Nat) : Check :=
  match d.desc? ch with
  | some x => match c.unstable x d.time.n f with | some p => (true, stBAD_PARAM, p) | none => (false, stBAD_PARAM, [])
  | none => (false, stBAD_PARAM, [])

/-- The context is RUNNING; it holds a locked forme. -/
def Chan.running (c : Chan) : Bool := c.seq.state == .running
def Chan.lockedForme (c : Chan) : Bool := c.seq.state == .locked || c.seq.state == .running || c.seq.state == .halted || c.seq.state == .stopped

/-- |x| is above a bound. -/
def above (x bound : Rat) : Bool := decide (bound < ratAbs x)

/-! ### CH_CONFIG (R390) -/

/-- A binary32 field within lo..hi. -/
def f32Check (c : Cmd) (o : Nat) (lo hi : Rat) : Check := bad (!f32In lo hi (c.f32 o)) o

def chConfigStatic (c : Cmd) : List Check :=
  if c.opf = 0 then
    [f32Check c 0 0 10, badF32 c.par 4, badF32 c.par 8, bad (decide (c.rat 8 < 0)) 8, f32Check c 12 0 4, f32Check c 16 0 2, f32Check c 20 0 2,
     f32Check c 24 0 4, f32Check c 28 0 2, bad (decide (15 < c.u8 32)) 32, bad (decide (3 < c.u8 33)) 33,
     bad (decide (c.u8 34 < 1) || decide (16 < c.u8 34)) 34, resv c.par (offsets 35 47)]
  else
    [bad (decide (1 < c.u8 0)) 0, bad (decide (15 < c.u8 2)) 2, resv c.par (3 :: offsets 20 23),
     bad (bit (c.u8 2) 0 && !f32Pos (c.f32 4)) 4, bad (bit (c.u8 2) 1 && (f32Bad (c.f32 8) || decide (c.rat 8 < 0))) 8,
     bad (bit (c.u8 2) 2 && !f32Pos (c.f32 12)) 12, bad (bit (c.u8 2) 3 && (f32Bad (c.f32 16) || decide (c.rat 16 < 0))) 16]

/-- The settings that CH_CONFIG asks for (R390). -/
def Chan.configured (x : Chan) (c : Cmd) : Chan :=
  if c.opf = 0 then
    { x with cfg := { x.cfg with z := c.f32 0, vfloor := c.f32 4, rlmin := if c.rat 8 = 0 then none else some (c.f32 8), kp := c.f32 12, ki := c.f32 16,
                                 kff := c.f32 20, kpc := c.f32 24, kic := c.f32 28, strobe := c.u8 32, digMode := c.u8 33, pairs := c.u8 34 } }
  else
    let m := c.u8 2
    let pick (b o : Nat) : Option F32 := if bit m b then some (c.f32 o) else none
    let o : PlantOv := { g := pick 0 4, tau := pick 1 8, gc := pick 2 12, tauc := pick 3 16 }
    { x with cfg := { x.cfg with plant := tabSet {} x.cfg.plant (16 * c.u8 0 + c.u8 1) o } }

/-- CH_CONFIG at its boundary; the front-end's entries follow a change of strobe group or pair count (R182). -/
def applyChConfig (c : Cmd) (d : Device) : Device :=
  (d.onChan c.idx fun x => x.configured c).each ((d.linksOf c.idx)) fun d l => d.reload l d.time.n

def runChConfig (c : Cmd) (d : Device) : Res :=
  let x := d.chan c.idx
  let after := x.configured c
  checked d ([no x.lockedForme stLOCKED] ++ chConfigStatic c ++
    (match d.desc? c.idx with
     | some s =>
       if c.opf = 0 then [bad (!f32Pos (c.f32 4) || decide (s.maxFs 0 < c.rat 4)) 4]
       else [bad (decide ((s.ranges (c.u8 0)).length ≤ c.u8 1)) 1]
     | none => []) ++
    [no (c.opf == 0 && (d.strobe (c.u8 32)).owner ≠ c.env.fn) stBAD_TARGET, d.loopCheck c.idx after x.cfg.func,
     budgetCheck (d.setChan c.idx after), no (!Config.fabricFits d.time.n) stFRAME_BUDGET])
    (let b := d.boundary c
     okBoundary (d.atBoundary .chConfig c applyChConfig) b)

/-! ### CH_FUNCTION (R64, R69, R76, R195) -/

/-- The stored setpoint of a function lies beyond the FS of the present source range (R64). -/
def Chan.setpointBeyond (c : Chan) (x : Desc) (f : Nat) : Bool :=
  if f = fnFV ∨ f = fnFVZ then above (f32ToRat c.cfg.vset) (x.fs 0 c.range.v)
  else if f = fnFI then above (f32ToRat c.cfg.iset) (x.fs 1 c.range.i)
  else false

/-- Source autorange of a function is enabled. -/
def Chan.autoSource (c : Chan) (f : Nat) : Bool :=
  match fnSource f with
  | some 0 => c.range.autoV
  | some _ => c.range.autoI
  | none => false

def chFunctionStatic (c : Cmd) : List Check := [bad (decide (7 < c.u32 0)) 0]

/-- Settle count S (R88). -/
def Device.settleOf (d : Device) (ch : Nat) : Nat :=
  match d.desc? ch with
  | some x => d.frames 1 (f32ToRat x.tRelay)
  | none => 1

/-- A function takes effect at the boundary just begun, or when the range change in progress completes (R76, R118). The aperture
under way ends. -/
def Device.setFunction (d : Device) (ch f : Nat) : Device :=
  d.onChan ch fun c =>
    if c.range.change.isSome then { c with fnWait := some f }
    else if f = c.cfg.func then { c with fnWait := none }
    else
      let old := c.cfg.func
      let c := { c with cfg := { c.cfg with func := f }, fnWait := none, aper := { c.aper with cut := true } }
      if c.arm = .parked then c
      else { c with fnChange := some { b := d.time.frame, old := old, new := f }, closing := if old = fnOFF then some (d.time.frame + d.settleOf ch - 1) else none }

def applyChFunction (c : Cmd) (d : Device) : Device := d.setFunction c.idx (c.u32 0)

/-- Frames from now to the first boundary after the range change in progress completes (R118). -/
def Device.changeLeft (d : Device) (ch : Nat) : Nat :=
  match (d.chan ch).range.change, d.desc? ch with
  | some x, some s =>
    let hold := (d.chan ch).range.state == .hsHold
    (x.b + changeLength s d.time.n x.want.quantity x.old x.new x.m (!hold)) - d.time.frame
  | _, _ => 0

def runChFunction (c : Cmd) (d : Device) : Res :=
  let x := d.chan c.idx
  let f := c.u32 0
  let after : Chan := { x with cfg := { x.cfg with func := f } }
  checked d ([no x.running stLOCKED] ++ chFunctionStatic c ++
    [no (x.lockedForme && !bit x.seq.fnSet f) stLOCKED,
     bad (match d.desc? c.idx with | some s => x.setpointBeyond s f && !x.autoSource f | none => false) 0,
     d.loopCheck c.idx x f, budgetCheck (d.setChan c.idx after)])
    (let b := max (d.boundary c) (if x.range.change.isSome then d.nextTick + (d.changeLeft c.idx - 1) * (160 * d.time.n) else 0)
     okBoundary (d.atBoundary .chFunction c applyChFunction) b)

/-! ### CH_SETPOINT and CH_LIMITS (R63, R64, R115) -/

/-- The setpoint that a selector names: 1 Vset, 2 Iset, 3 Rset, 4 Pset; selector 0 is that of the function in force. -/
def Chan.selector (c : Chan) (s : Nat) : Nat :=
  if s ≠ 0 then s
  else if c.cfg.func = fnFV ∨ c.cfg.func = fnFVZ then 1 else if c.cfg.func = fnFI then 2 else if c.cfg.func = fnCR then 3
  else if c.cfg.func = fnCP then 4 else 0

/-- A selected setpoint breaks its limits of R63. -/
def setpointBad (x : Desc) (s : Nat) (v : Rat) : Bool :=
  match s with
  | 1 => above v (x.maxFs 0)
  | 2 => above v (x.maxFs 1)
  | 3 => decide (v < 1 / 1000) || decide (100000000 < v)
  | 4 => above v (x.maxFs 0 * x.maxFs 1)
  | _ => true

/-- The quantity in which a selected setpoint is the source setpoint of the function in force (R64). -/
def Chan.sourceSel (c : Chan) (s : Nat) : Option Nat :=
  if s = 1 ∧ (c.cfg.func = fnFV ∨ c.cfg.func = fnFVZ) then some 0 else if s = 2 ∧ c.cfg.func = fnFI then some 1 else none

/-- Bounds of autorange of a quantity within the declared ranges (R113). -/
def RangeUnit.lo (r : RangeUnit) (q : Nat) : Nat := if q = 0 then r.loV else r.loI
def RangeUnit.hi (r : RangeUnit) (x : Desc) (q : Nat) : Nat := min ((if q = 0 then r.hiV else r.hiI).getD (x.top q)) (x.top q)
def RangeUnit.auto (r : RangeUnit) (q : Nat) : Bool := if q = 0 then r.autoV else r.autoI

/-- A source setpoint asks for a range change under R115. -/
def Chan.setpointMoves (c : Chan) (x : Desc) (q : Nat) (v : Rat) : Bool :=
  c.range.auto q && decide (x.rated q (c.range.code q) * 105 / 100 ≤ ratAbs v) &&
  setpointRange x q (c.range.lo q) (c.range.hi x q) v ≠ c.range.code q

def Chan.setSel (c : Chan) (s : Nat) (v : F32) : Chan :=
  match s with
  | 1 => { c with cfg := { c.cfg with vset := v } }
  | 2 => { c with cfg := { c.cfg with iset := v } }
  | 3 => { c with cfg := { c.cfg with rset := v } }
  | 4 => { c with cfg := { c.cfg with pset := v } }
  | _ => c

/-- A change that a setpoint asked for is queued or under way, so that the earlier setpoint stays in force (R115). -/
def RangeUnit.setpointHeld (r : RangeUnit) : Bool :=
  let own (w : Option RWant) : Bool := match w with | some x => x.source == .setpoint | none => false
  own r.queued || own (r.change.map (·.want)) || own r.cont

def chSetpointStatic (c : Cmd) : List Check := [badF32 c.par 0, bad (decide (4 < c.u8 4)) 4, resv c.par [5, 6, 7]]

/-- The checks that hang on the descriptor and the ranges (R63, R64, R115). -/
def Device.setpointChecks (d : Device) (ch s : Nat) (v : Rat) : List Check :=
  let x := d.chan ch
  match d.desc? ch with
  | none => []
  | some t =>
    [bad (setpointBad t s v) 0] ++
    (match x.sourceSel s with
     | some q =>
       if x.range.auto q then
         [bad (above v (t.fs q (x.range.hi t q))) 0, no (x.arm == .armed && x.setpointMoves t q v && x.range.queued.isSome) stBUSY]
       else [bad (above v (t.fs q (x.range.code q))) 0]
     | none => [])

/-- The range change that a CH_SETPOINT asks for (R115): it is queued as a commanded change, where the queue has room. -/
def Device.askRange (d : Device) (c : Cmd) : Device :=
  let x := d.chan c.idx
  match d.desc? c.idx, x.sourceSel (x.selector (c.u8 4)) with
  | some t, some q =>
    if x.arm == .armed && x.range.queued.isNone && x.setpointMoves t q (c.rat 0) then
      let w : RWant := { quantity := q, target := setpointRange t q (x.range.lo q) (x.range.hi t q) (c.rat 0), source := .setpoint }
      d.setChan c.idx { x with range := { x.range with queued := some w } }
    else d
  | _, _ => d

/-- The boundary of a CH_SETPOINT (R64): the new setpoint is stored, and asks for its range change unless one is under way (R115). -/
def applyChSetpoint (c : Cmd) (d : Device) : Device :=
  let d := d.onChan c.idx fun x => x.setSel (x.selector (c.u8 4)) (c.f32 0)
  if (d.chan c.idx).range.setpointHeld then d else d.askRange c

/-- CH_SETPOINT (R390): without a later boundary its range change is asked for at acceptance, where it may be refused with BUSY (R115;
DEDUCED, log 123). -/
def runChSetpoint (c : Cmd) (d : Device) : Res :=
  let x := d.chan c.idx
  let s := x.selector (c.u8 4)
  checked d ([no x.running stLOCKED] ++ chSetpointStatic c ++ [bad (s == 0) 4] ++ d.setpointChecks c.idx s (c.rat 0))
    (let b := d.boundary c
     let d := if !c.atNow && decide (b ≤ d.nextTick) then d.askRange c else d
     okBoundary (d.atBoundary .chSetpoint c applyChSetpoint) b)

def chLimitsStatic (c : Cmd) : List Check :=
  [badF32 c.par 0, badF32 c.par 4, badF32 c.par 8, badF32 c.par 12, bad (decide (c.rat 0 < 0)) 0,
   bad (decide (0 < c.rat 4) || decide (c.rat 0 ≤ c.rat 4)) 4, bad (decide (c.rat 8 < 0)) 8, bad (decide (0 < c.rat 12) || decide (c.rat 8 ≤ c.rat 12)) 12]

def applyChLimits (c : Cmd) (d : Device) : Device :=
  d.onChan c.idx fun x => { x with cfg := { x.cfg with vPos := some (c.f32 0), vNeg := some (c.f32 4), iPos := some (c.f32 8), iNeg := some (c.f32 12) } }

def runChLimits (c : Cmd) (d : Device) : Res :=
  checked d (chLimitsStatic c ++
    (match d.desc? c.idx with
     | some x => [bad (above (c.rat 0) (x.maxFs 0)) 0, bad (above (c.rat 4) (x.maxFs 0)) 4, bad (above (c.rat 8) (x.maxFs 1)) 8,
                  bad (above (c.rat 12) (x.maxFs 1)) 12]
     | none => []))
    (let b := d.boundary c
     okBoundary (d.atBoundary .chLimits c applyChLimits) b)

/-! ### CH_RANGE and CH_AUTORANGE (R99, R116, R391) -/

/-- A change would run by overlap ranging (R102). -/
def Chan.byOverlap (c : Chan) (x : Desc) (n q a b : Nat) : Bool :=
  c.arm == .armed && c.cfg.func ≠ fnOFF && c.range.ovEn && pairsOverlap x n q a b

/-- Method, expected length and deviation bound of a change (R110, R112, R391). -/
def Chan.changePlan (c : Chan) (x : Desc) (n q a b : Nat) : Nat × Nat × Rat :=
  if a = b then (2, 0, 0)
  else if c.byOverlap x n q a b then
    (0, changeLength x n q a b c.range.fade true,
     (List.range (max a b - min a b)).foldl (fun m j => ratMax m (overlapBound x q (min a b + j) (min a b + j + 1))) 0)
  else (1, changeLength x n q a b c.range.fade false, holdBound x q b)

def chRangeStatic (c : Cmd) : List Check :=
  [bad (decide (1 < c.u8 0)) 0, bad (decide (1 < c.u8 2)) 2, resv c.par [3, 5, 6, 7], bad (c.u8 4 ≠ 0 && (decide (c.u8 4 < 4) || decide (64 < c.u8 4))) 4]

/-- The magnitude of a channel's present target in its source quantity. -/
def Chan.presentTarget (c : Chan) (q : Nat) : Rat :=
  if q = 0 then ratAbs c.loop.vset else if c.cfg.func = fnFI then ratAbs c.loop.iset else 0

/-- The settings that CH_RANGE and CH_AUTORANGE change at once. -/
def Chan.overlapSet (c : Chan) (en : Bool) (m : Nat) : Chan :=
  { c with range := { c.range with ovEn := en, fade := if m = 0 then c.range.fade else m } }

/-- CH_RANGE (R116). -/
def runChRange (c : Cmd) (d : Device) : Res :=
  let x := d.chan c.idx
  let q := c.u8 0
  let k := c.u8 1
  match d.desc? c.idx with
  | none => refuse d (stNOT_READY, [])
  | some s =>
    let after := x.overlapSet (bit (c.u8 2) 0) (c.u8 4)
    let after := if q = 0 then { after with range := { after.range with autoV := false } } else { after with range := { after.range with autoI := false } }
    let from_ := match x.range.change with | some g => if g.want.quantity = q then g.want.target else x.range.code q | none => x.range.code q
    let (m, len, dev) := after.changePlan s d.time.n q from_ k
    let src := fnSource x.cfg.func == some q
    checked d ([no x.running stLOCKED] ++ chRangeStatic c ++
      [bad (decide (s.top q < k)) 1, bad (x.armed && src && decide (s.fs q k < x.presentTarget q)) 1,
       (if bit (c.u8 2) 0 then budgetCheck (d.setChan c.idx after) else (false, stOK, [])), no x.range.queued.isSome stBUSY])
      (let pay := le32 m ++ le32 len ++ leF32 (ratToF32 dev)
       if m = 2 ∧ x.range.change.isNone then
         let b := d.boundary c
         (.both pay stOK (le64 b ++ le64 b ++ [BitVec.ofNat 8 k] ++ zeros 3), d.setChan c.idx after)
       else
         let w : RWant := { quantity := q, target := k, source := .command, env := some c.env }
         (.interim stACCEPTED pay, d.setChan c.idx { after with range := { after.range with queued := some w, bound := ratToF32 dev } }))

def chAutorangeStatic (c : Cmd) : List Check :=
  [bad (decide (1 < c.u8 0)) 0, bad (decide (1 < c.u8 1)) 1, bad (decide (c.u8 3 < c.u8 2)) 2, bad (decide (1 < c.u8 4)) 4,
   bad (c.u8 5 ≠ 0 && (decide (c.u8 5 < 4) || decide (64 < c.u8 5))) 5, resv c.par [6, 7]]

def Chan.autoranged (x : Chan) (c : Cmd) : Chan :=
  let x := x.overlapSet (bit (c.u8 4) 0) (c.u8 5)
  if c.u8 0 = 0 then { x with range := { x.range with autoV := c.u8 1 == 1, loV := c.u8 2, hiV := some (c.u8 3), downV := 0 } }
  else { x with range := { x.range with autoI := c.u8 1 == 1, loI := c.u8 2, hiI := some (c.u8 3), downI := 0 } }

def applyChAutorange (c : Cmd) (d : Device) : Device := d.onChan c.idx fun x => x.autoranged c

def runChAutorange (c : Cmd) (d : Device) : Res :=
  let x := d.chan c.idx
  checked d ([no x.running stLOCKED] ++ chAutorangeStatic c ++
    (match d.desc? c.idx with
     | some s => [bad (decide (s.top (c.u8 0) < c.u8 2)) 2, bad (decide (s.top (c.u8 0) < c.u8 3)) 3]
     | none => []) ++
    [if bit (c.u8 4) 0 then budgetCheck (d.setChan c.idx (x.autoranged c)) else (false, stOK, [])])
    (let b := d.boundary c
     okBoundary (d.atBoundary .chAutorange c applyChAutorange) b)

/-! ### CH_ARM (R37, R87, R88) -/

/-- A PF_WORD bit covers the channel's engine or link (R87). -/
def Device.faultCovers (d : Device) (ch : Nat) : Bool :=
  bit d.flt.pf (9 + d.linkOf ch / 16) || (match d.engineOf (ch / 8) with | some e => bit d.flt.pf (e / 8) | none => false)

/-- The zone or the rail of a channel is in HOLD with PARK in force for sourcing channels (R295). -/
def Device.heldParked (d : Device) (ch : Nat) : Bool :=
  let m := d.model ch
  (m.zone ≠ 0xFF && (d.zone m.zone).enabled && (d.zone m.zone).state == 2 && (d.zone m.zone).fbSource == 1) ||
  (m.rail ≠ 0xFF && (d.rail m.rail).enabled && (d.rail m.rail).state == 2 && (d.rail m.rail).fbSource == 1)

/-- The modes of CH_ARM (R32, R37). -/
def Device.armMode (d : Device) (ch : Nat) : Bool :=
  match d.mode.phase with
  | .bringUp => true
  | .normal => d.runFamily || d.mode.update && !d.mode.safe ||
      (d.inProof && (!bit d.proof.channels ch || (match d.desc? ch with | some x => x.capDummy | none => true)))
  | _ => false

/-- The checks of CH_ARM in order (R37, R87, R254, R278, R295, R328). -/
def Device.armChecks (d : Device) (ch : Nat) : List Check :=
  let c := d.chan ch
  let b := c.cal.active
  let engineUp := match d.engineOf (ch / 8) with | some e => bit d.ready.eng e | none => false
  [no (!d.armMode ch) stWRONG_MODE,
   no ((d.desc? ch).isNone || !engineUp || !d.blk bSEQ || !d.blk bIMPOS) stNOT_READY, no (d.faultCovers ch) stFAULT_ACTIVE,
   no (!bit b.valid (measureSet 0 c.range.v) || !bit b.valid (measureSet 1 c.range.i)) stNOT_READY, d.loopCheck ch c c.cfg.func,
   no (c.arm == .softPark) stBUSY, badAny (!d.setUsableFor ch c.cfg.tset), no (d.monBlocks ch) stFAULT_ACTIVE,
   no (d.heldParked ch) stBUDGET_REFUSED, no (d.reg.state == .joining || d.reg.state == .aligning) stNOT_READY]

/-- CH_ARM (R87, R88): the reply follows the second check at frame a - 1; for a channel in ARMING or ARMED it is OK at once. Frame a
waits for a range change in progress (R120). -/
def runChArm (c : Cmd) (d : Device) : Res :=
  let x := d.chan c.idx
  if (x.arm == .arming || x.arm == .armed) && d.armMode c.idx then ok d (le64 (d.tickOfFrame x.armFrame) ++ le32 x.settle)
  else
    checked d (d.armChecks c.idx)
      (match x.armReq with
       | some _ => ok d (le64 (d.boundary c) ++ le32 (d.settleOf c.idx))
       | none => (.later, d.setChan c.idx { x with armReq := some (d.boundary c, c.env) }))

/-! ### CH_PARK (R89..R91) -/

/-- The ramp matches SOFT; a device scope takes four bytes of 0 and no ramp (R389). -/
def chParkStatic (c : Cmd) : List Check :=
  [bad (if c.scope = 0 then c.opf == 1 || c.u32 0 ≠ 0 else if c.opf = 1 then decide (c.u32 0 < 1) || decide (65536 < c.u32 0) else c.u32 0 ≠ 0) 0]

/-- A soft park of one channel (R90): a ramp for an ARMED channel with a closed loop, else a hard park with cause 0x1. -/
def Device.softPark (d : Device) (ch p least : Nat) : Device :=
  let c := d.chan ch
  if c.arm = .softPark then d
  else if c.arm == .armed && fnClosed c.cfg.func then d.setChan ch { c with softReq := some (least, p) }
  else d.park ch 1 least

/-- CH_PARK (R89, R90, R389). -/
def runChPark (c : Cmd) (d : Device) : Res :=
  let b := d.boundary c
  checked d (chParkStatic c)
    (if c.scope = 0 then
       okBoundary (d.parkAll (d.usedChans.filter fun ch => c.env.fn == 0 || (d.chan ch).owner == c.env.fn) 1 b) b
     else if c.opf = 1 then
       okBoundary (d.softPark c.idx (c.u32 0) b) (if (d.chan c.idx).arm = .softPark then (d.chan c.idx).rampTick else b)
     else okBoundary (d.park c.idx 1 b) b)

/-! ### Measurement, status, migration (R94, R392, R393) -/

def chMeasureStatic (c : Cmd) : List Check := [bad (decide (c.u32 0 < 1) || decide (4096 < c.u32 0)) 0]

def runChMeasure (c : Cmd) (d : Device) : Res :=
  checked d (chMeasureStatic c ++ [no (d.chan c.idx).measure.isSome stBUSY])
    (.interim stACCEPTED [], d.onChan c.idx fun x => { x with measure := some { env := c.env, k := c.u32 0 } })

def chApertureStatic (c : Cmd) : List Check :=
  [bad (decide (c.u32 0 < 1) || decide (1048576 < c.u32 0)) 0, bad (decide (1 < c.u8 4)) 4, resv c.par [5, 6, 7]]

/-- A new aperture setting ends the aperture under way (R78). -/
def Chan.setAperture (x : Chan) (len : Nat) (seg : Bool) : Chan :=
  { x with cfg := { x.cfg with apLen := len, apSeg := seg },
           aper := { x.aper with cut := true } }

def applyChAperture (c : Cmd) (d : Device) : Device := d.onChan c.idx fun x => x.setAperture (c.u32 0) (c.u8 4 == 1)

def runChAperture (c : Cmd) (d : Device) : Res :=
  checked d ([no (d.chan c.idx).running stLOCKED] ++ chApertureStatic c)
    (let b := d.boundary c
     okBoundary (d.atBoundary .chAperture c applyChAperture) b)

/-- CH_STATUS (R393). -/
def runChStatus (c : Cmd) (d : Device) : Res :=
  let x := d.chan c.idx
  ok d (le32 (d.chStatusWord c.idx (d.delay3 c.idx)) ++ leF32 (ratToF32 x.frame.v) ++ leF32 (ratToF32 x.frame.i) ++ leF32 x.range.bound ++
    le64 x.lastGrant ++ [BitVec.ofNat 8 ((d.engineOf (c.idx / 8)).getD 255), BitVec.ofNat 8 (c.idx / 8), BitVec.ofNat 8 x.cfg.strobe,
    BitVec.ofNat 8 x.cfg.tset] ++ zeros 4)

/-- An engine has an uncleared fault: held faulty, or its error word stands under its PF_WORD bit (R94, R472). -/
def Device.engineFault (d : Device) (e : Nat) : Bool :=
  (d.engine e).faulty || (bit d.flt.pf (e / 8) && (tabGet ({} : ErrWord) d.flt.words e).err)

def chMigrateStatic (c : Cmd) : List Check := [bad (decide (63 < c.u8 0)) 0, bad (decide (71 < c.u8 1)) 1, resv c.par [2, 3]]

/-- CH_MIGRATE (R94): the reply follows the move. -/
def runChMigrate (c : Cmd) (d : Device) : Res :=
  let j := c.u8 0
  let e := c.u8 1
  checked d ([no (!(d.runFamily || d.inStandby || d.inSafe)) stWRONG_MODE] ++ chMigrateStatic c ++
    [no ((d.slotOf e).isSome || d.migrations.any fun m => m.slot == j || m.engine == e) stBUSY, no (d.engineFault e) stFAULT_ACTIVE])
    (.later, { d with migrations := d.migrations ++ [{ slot := j, engine := e, env := c.env, passed := false }] })

/-- MIGRATE_SELFTEST_DONE (R94). -/
def Device.migrateTested (d : Device) (j : Nat) (ok : Bool) : Device :=
  match d.migrations.find? fun m => m.slot == j && !m.passed with
  | none => d
  | some m =>
    let rest := d.migrations.filter fun x => x.slot ≠ j
    if ok then { d with migrations := rest ++ [{ m with passed := true }] }
    else
      let d : Device := { d with migrations := rest }
      (d.setEngine m.engine { d.engine m.engine with faulty := true, tested := false }).final m.env stFAULT_ACTIVE []

/-- Migrations whose test has passed take effect at the boundary just begun (R94). -/
def Device.dueMigrations (d : Device) : Device :=
  let due := d.migrations.filter (·.passed)
  let d := { d with migrations := d.migrations.filter fun m => !m.passed }
  due.foldl (init := d) fun d m =>
    let d := d.setSlot m.slot { d.slot m.slot with engine := if m.engine = m.slot then none else some m.engine }
    let d := d.each (slotChans m.slot) fun d ch => d.onChan ch Chan.fromMirror
    d.final m.env stOK (le64 d.time.tick)

end Sys2Proof.Machine
end

