-- ==== Sys2Proof/Machine/Engine.lean ====
section
/-! DEFINITION. A loop engine's work on one channel: samples, the control law, the range machine, apertures and slugs (R43, R51, R64..R120, R128, R133). -/

namespace Sys2Proof.Machine

/-! ### Flags of a slug (R84) by bit -/

def sfCOMPL := 0
def sfCOMPLNEG := 1
def sfCLIP := 2
def sfCLAMP := 3
def sfRANGING := 4
def sfOVERLAP := 5
def sfINVALID := 6
def sfCAL := 7
def sfCALSTEP := 8
def sfUNDERRUN := 9
def sfDEFERRED := 10
def sfBUDGET := 11
def sfPARKED := 12
def sfOVERRANGE := 13
def sfLINKMISS := 14
def sfLINKALT := 15
def sfMIGRATED := 16
def sfSTROBEHELD := 17
def sfLOCALTIME := 18
def sfPARTIAL := 19
def sfUNCAL := 24

/-- The flags that report the last frame, and not any (R84). -/
def lastMask : Nat := 2 ^ sfCOMPLNEG + 2 ^ sfCALSTEP + 2 ^ sfLINKALT + 2 ^ sfLOCALTIME

/-! ### Conversion frames -/

/-- A channel that the engines serve: its link is UP, it is not parked, or something waits for its frame values. -/
def Device.served (d : Device) (ch : Nat) : Bool :=
  let c := d.chan ch
  d.linkUp (d.linkOf ch) || c.armed || c.armReq.isSome || c.measure.isSome || c.resultRing.isSome || c.captureRing.isSome

/-- The channel's zone or a rail it draws from is in THROTTLE or HOLD (R84, R233, R316). -/
def Device.budgetState (d : Device) (ch : Nat) : Bool :=
  let m := d.model ch
  (m.zone ≠ 0xFF && (d.zone m.zone).enabled && (d.zone m.zone).state ≠ 0) || (m.rail ≠ 0xFF && (d.rail m.rail).enabled && (d.rail m.rail).state ≠ 0)

/-- The conversion instant of the frame in progress on the channel's link (R83, R250, R251). -/
def Device.convInstant (d : Device) (ch : Nat) : Nat :=
  d.time.tick + bits (d.tsWord (d.chan ch).cfg.tset (tsConv (d.linkOf ch))) 23 0

/-- The segment and point that play in the frame in progress (R83, R225). -/
def Device.segPoint (d : Device) (ch : Nat) : Nat × Nat :=
  match (d.chan ch).seq.span with
  | some s =>
    match s.kind with
    | .play seg _ _ => (seg, (d.time.frame - s.start) % 65536)
    | _ => (0xFFFF, 0)
  | none => (0xFFFF, 0)

/-- The strobe group of the channel fires in the frame in progress (R67). -/
def Device.fires (d : Device) (ch : Nat) : Bool := (d.strobe (d.chan ch).cfg.strobe).fires

/-- A second path conducts or is being made: an overlap change is under way (R107). -/
def RState.overlap : RState → Bool
  | .ovMake | .ovCompare | .ovFade => true
  | _ => false

/-- What the state in the frame in progress says of its conversion frame (R84, R88, R107, R111). PARKED stands until the first loop code
is sent, and in SOFT_PARK, which is not ARMED (DEDUCED, log 36). -/
def Device.convNow (d : Device) (ch : Nat) : Conv :=
  let c := d.chan ch
  let r := c.range
  let hold := r.state == .hsHold && (match r.change with | some x => decide (x.j < x.m) | none => false)
  let blk := (d.link (d.linkOf ch)).blkErr
  let (seg, point) := d.segPoint ch
  { frame := d.time.frame,
    flags := flag hold sfRANGING + flag (r.state.overlap || (match r.tail with | some (_, e) => e == d.time.frame | none => false)) sfOVERLAP +
      flag (hold || blk) sfINVALID + flag (c.cal.calFrame == some d.time.frame) sfCAL +
      flag c.seq.under sfUNDERRUN + flag (c.seq.waiting == 3) sfDEFERRED + flag (d.budgetState ch) sfBUDGET +
      flag (c.arm ≠ .armed || decide (d.time.frame < c.armFrame + c.settle)) sfPARKED + flag c.linkAlt sfLINKALT +
      flag c.migrated sfMIGRATED + flag (c.arm ≠ .parked && fnClosed c.cfg.func && !d.fires ch) sfSTROBEHELD + flag d.time.localTime sfLOCALTIME,
    v := r.v, i := r.i, seg := seg, point := point, stamp := d.convInstant ch, func := c.cfg.func, len := c.cfg.apLen }

/-- The conversion frame whose samples this frame's block returned: the one recorded for the frame before, else one like the present. -/
def Device.convBefore (d : Device) (ch : Nat) : Conv :=
  let y := d.convNow ch
  let like : Conv := { y with frame := d.time.frame - 1, stamp := y.stamp - 160 * d.time.n }
  match (d.chan ch).frame.conv with
  | some x => if x.frame + 1 = d.time.frame then x else like
  | none => like

/-! ### Samples (R77, R107..R109, R187) -/

/-- The upstream block that the engine takes: the active link's, else that of the other link of a pair (R187). -/
def Device.heldUp (d : Device) (ch : Nat) : Option Upstream :=
  let l := d.linkOf ch
  let pick (x : Link) := if x.state = .up ∧ x.held then x.up else none
  match pick (d.link l) with
  | some u => some u
  | none => if (d.link l).dual then pick (d.link (pairOther l)) else none

/-- A raw sample at either end of the code span (R77). -/
def rawEnd (s : Int) : Bool := s == -131072 || s == 131071

/-- A raw sample of a quantity's range, calibrated and normalised (R77, R123). -/
def Chan.calibrate (c : Chan) (q r : Nat) (s : Int) : Rat :=
  Config.fix36 ((c.cal.active.use (measureSet q r)).measure c.cal.th ((s : Rat) / 131072))

/-- What the engine has of a frame's samples: values normalised to the present full scales, frame values in V and A, the raw ends
of each quantity, whether each end value was of the present path, the second path's sample in SI units and its end, and UNCAL. -/
structure Sample where
  v : Rat
  i : Rat
  fv : Rat
  fi : Rat
  endV : Bool
  endI : Bool
  clamp : Bool
  /-- Overlap: samples of path k and k′ in SI units, and whether each is at an end of the span. -/
  a : Rat
  b : Rat
  endA : Bool
  endB : Bool
  /-- A sample of either quantity, or of the second path while both are measured, is at an end of the span (R84). -/
  overrange : Bool
  uncal : Bool
  deriving DecidableEq, Repr

/-- Fade weight of the samples that this compute phase uses (R108, R109): 0 before the fade, j / M in it, 1 where an up-range's
present path is at the end of its span. -/
def Chan.weight (c : Chan) (up : Bool) (endA : Bool) : Rat :=
  match c.range.change with
  | some x =>
    if c.range.state = .ovCompare ∨ c.range.state = .ovFade then
      if x.full || (up && endA) then 1
      else if c.range.state = .ovFade then ratMin 1 (((x.j - (x.mkN + 2) : Nat) : Rat) / ((max x.m 1 : Nat) : Rat))
      else 0
    else 0
  | none => 0

/-- The samples of a held block (R77, R81, R107..R109). `cv` is the conversion frame they belong to: they are calibrated with the range
in force there (R83), and the second path's sample of frame e - 1 with its own. -/
def Chan.samples (c : Chan) (x : Desc) (u : Upstream) (frame : Nat) (cv : Conv) : Sample :=
  let raw (q : Nat) : Int := if q = 0 then u.v else u.i
  let tailed (q : Nat) : Bool := match c.range.tail with | some (tq, e) => tq == q && e == frame | none => false
  let own (q : Nat) : Int := if tailed q then u.aux else raw q
  let code (q : Nat) : Nat := if tailed q then c.range.code q else if q = 0 then cv.v else cv.i
  let fs (q : Nat) := x.fs q (c.range.code q)
  let scaled (q : Nat) (y : Int) : Rat := c.calibrate q (code q) y * x.fs q (code q) / fs q
  let one (q : Nat) : Rat := scaled q (own q)
  let ovq : Option (Nat × Nat × Bool) :=
    match c.range.change with
    | some g => if c.range.state.overlap then some (g.want.quantity, g.new, decide (g.old < g.new)) else none
    | none => none
  let (a, b, endA, endB) : Rat × Rat × Bool × Bool :=
    match ovq with
    | some (q, k, _) => (one q * fs q, c.calibrate q k u.aux * x.fs q k, rawEnd (raw q), rawEnd u.aux)
    | none => (0, 0, false, false)
  let w := match ovq with | some (_, _, up) => c.weight up endA | none => 0
  let val (q : Nat) : Rat :=
    match ovq with
    | some (oq, _, _) => if oq = q then ((1 - w) * a + w * b) / fs q else one q
    | none => one q
  let avg := (c.cfg.digMode == 2 || c.cfg.digMode == 3) && ovq.isNone && (c.range.tail.isNone)
  let fv (q : Nat) : Rat :=
    if avg then mean (val q :: u.pairs.map fun p => scaled q (if q = 0 then p.1 else p.2)) * fs q else val q * fs q
  { v := val 0, i := val 1, fv := fv 0, fi := fv 1, endV := rawEnd (own 0), endI := rawEnd (own 1), clamp := bit u.status 0,
    a := a, b := b, endA := endA, endB := endB,
    overrange := rawEnd (raw 0) || rawEnd (raw 1) ||
      (((c.range.state = .ovCompare ∨ c.range.state = .ovFade) || tailed 0 || tailed 1) && rawEnd u.aux)
    uncal := !bit c.cal.active.valid (measureSet 0 (code 0)) || !bit c.cal.active.valid (measureSet 1 (code 1)) }

/-! ### Limits, clamps and codes (R65, R72, R103, R104) -/

/-- The range whose full scale clips the limit of a quantity (R72, R104): during an overlap change of it the larger of the two. -/
def Chan.limitRange (c : Chan) (x : Desc) (q : Nat) : Nat :=
  match c.range.change with
  | some g =>
    if c.range.state.overlap && g.want.quantity == q then (if x.fs q g.old < x.fs q g.new then g.new else g.old) else c.range.code q
  | none => c.range.code q

/-- The effective limit in SI units (R72). -/
def Chan.effLimit (c : Chan) (x : Desc) (q : Nat) (pos : Bool) : Rat :=
  let fs := x.fs q (c.limitRange x q)
  ratClamp (-fs) fs (c.limit x q pos)

/-- Rounding away from zero to a whole step. -/
def outward (v : Rat) : Int := if v < 0 then v.floor else -(-v).floor

/-- The analogue clamps (R72, R159): quantity, range, positive and negative value in units of FS / 1,024. -/
def Chan.clamps (c : Chan) (x : Desc) : Nat × Nat × Int × Int :=
  let q := (fnLimited c.cfg.func).getD 1
  let r := c.limitRange x q
  let fs := x.fs q r
  let cap := (f32ToRat (if q = 0 then x.clampV else x.clampI)) * 1024 / fs
  let p := outward ((c.effLimit x q true + fs / 50) * 1024 / fs)
  let n := outward ((c.effLimit x q false - fs / 50) * 1024 / fs)
  (q, r, min p cap.floor, max n (-cap.floor))

/-- The source set of a channel's forcing path, and its calibrated zero code (R62, R124); OFF has the mid-scale code. -/
def Chan.sourceCoef (c : Chan) (path : Nat) : Coef := c.cal.active.use (sourceSet path (c.range.code path))
def Chan.zero (c : Chan) (f : Nat) : Nat := match fnPath f with | some p => zeroCode (c.sourceCoef p) | none => 0x20000

/-- The inputs of the law (R67). -/
def Chan.lawIn (c : Chan) (x : Desc) (s : Sample) (scale : Rat) : LawIn :=
  let path := (fnPath c.cfg.func).getD 0
  let (g, _, gc, _) := c.plantOf x path (c.range.code path)
  let lq := (fnLimited c.cfg.func).getD 1
  let fl := x.fs lq (c.range.code lq)
  { func := c.cfg.func, fsV := x.fs 0 c.range.v, fsI := x.fs 1 c.range.i, v := s.v, i := s.i, vset := c.loop.vset, iset := c.loop.iset,
    rset := c.loop.rset, pset := c.loop.pset, z := f32ToRat c.cfg.z, vfloor := f32ToRat c.cfg.vfloor, iPos := c.limit x 1 true,
    iNeg := c.limit x 1 false, kp := f32ToRat c.cfg.kp, ki := f32ToRat c.cfg.ki, kff := f32ToRat c.cfg.kff, kpc := f32ToRat c.cfg.kpc,
    kic := f32ToRat c.cfg.kic, g := f32ToRat g, gc := f32ToRat gc, limPos := c.effLimit x lq true / fl, limNeg := c.effLimit x lq false / fl,
    scale := scale }

/-- The law starts from rest: integrator and compliance cleared (R67, R76, R88). -/
def Loop.fresh (l : Loop) : Loop := { l with integ := 0, sat := 0, uPrev := 0, compl := .none }

/-- A change of function within one forcing path (R76): the integrator as on release (R71), the compliance state cleared. -/
def Loop.within (l : Loop) (x : LawIn) : Loop :=
  let (q, r) := x.target
  { l with integ := Config.fix36 (l.uPrev - (x.kff * r + x.kp * (r - q)) / x.g), compl := .none }

/-- Does a change of function run across forcing paths, or to or from MV or MI (R76). -/
def FnChange.across (f : FnChange) : Bool := fnPath f.old ≠ fnPath f.new || !fnClosed f.old || !fnClosed f.new

/-! ### Steps 2 and 3 (R67, R70..R76, R88, R90) -/

/-- What steps 2 and 3 give: the channel, whether it entered compliance, and the slug flags of the frame's samples. -/
structure LawOut where
  c : Chan
  entered : Bool
  flags : Nat
  deriving DecidableEq, Repr

/-- The closed loop of one frame. -/
def Chan.runLoop (c : Chan) (x : Desc) (s : Sample) (scale : Rat) : LawOut :=
  let path := (fnPath c.cfg.func).getD 0
  let y := c.lawIn x s scale
  let (l, entered) := loopFrame y c.loop
  let code := outCode (c.sourceCoef path) c.cal.th l.uPrev
  { c := { c with loop := { l with code := code } }, entered := entered,
    flags := flag (l.compl ≠ .none) sfCOMPL + flag (l.compl == .neg) sfCOMPLNEG + flag y.clip sfCLIP +
      flag (!bit c.cal.active.valid (sourceSet path (c.range.code path))) sfUNCAL }

/-- A code without a loop: the calibrated zero code of a function's path. -/
def Chan.sendZero (c : Chan) (f : Nat) : LawOut :=
  let un := match fnPath f with | some p => !bit c.cal.active.valid (sourceSet p (c.range.code p)) | none => false
  { c := { c with loop := { c.loop with code := c.zero f } }, entered := false, flags := flag un sfUNCAL }

/-- The code sent in this frame is sent again; the loop is frozen (R51, R105, R111, R128). -/
def Chan.resend (c : Chan) : LawOut := { c := { c with loop := { c.loop with code := c.loop.sent } }, entered := false, flags := 0 }

/-- Limits of MV and MI (R73). -/
def Chan.openLimits (c : Chan) (x : Desc) (s : Sample) : Nat :=
  match (c.lawIn x s 1).reaches with
  | .none => 0
  | .pos => flag true sfCOMPL
  | .neg => flag true sfCOMPL + flag true sfCOMPLNEG

/-- Steps 2 and 3 for a channel in frame `k`, whose group fires or not. `s` is absent where no valid sample is held; `calib` marks the
compute phase after a calibration frame. -/
def Chan.law (c : Chan) (x : Desc) (s : Option Sample) (k : Nat) (fires calib : Bool) : LawOut :=
  let f := c.cfg.func
  let scale : Rat := if c.arm = .softPark then (((c.rampP : Rat) - ((c.rampJ + 1 : Nat) : Rat)) / ((max c.rampP 1 : Nat) : Rat)) else 1
  match c.arm with
  | .parked => { c := { c with loop := { c.loop with code := 0x20000 }, fnChange := none, closing := none }, entered := false, flags := 0 }
  | .arming => { c.sendZero f with c := { (c.sendZero f).c with fnChange := none, closing := none } }
  | _ =>
    if f = fnOFF then { c := { c with loop := { c.loop.fresh with code := 0x20000 }, fnChange := none, closing := none }, entered := false, flags := 0 }
    else if (match c.closing with | some m => decide (k < m) | none => false) then
      { c.sendZero f with c := { (c.sendZero f).c with fnChange := none } }
    else
      let starts := c.closing.isSome
      let c := { c with closing := none, loop := if starts then c.loop.fresh else c.loop, fnChange := if starts then none else c.fnChange }
      let first : Bool := match c.fnChange with | some g => g.across && g.b == k | none => false
      if first then { (c.sendZero f) with c := { (c.sendZero f).c with loop := { (c.sendZero f).c.loop.fresh with code := c.zero f } } }
      else
        let second : Bool := match c.fnChange with | some g => g.across | none => false
        let inPath := c.fnChange.isSome && !second
        let c0 := { c with fnChange := none, loop := if second then c.loop.fresh else c.loop }
        if !fnClosed f then
          let o := c0.sendZero f
          match s with
          | some y => { o with flags := o.flags ||| c0.openLimits x y }
          | none => o
        else if c.range.state = .hsHold ∨ calib then { c.resend with c := { c.resend.c with loop := { c.resend.c.loop with code := c.loop.code } } }
        else
          match s with
          | none => c.resend
          | some y =>
            if c.seq.underPark then { c0.sendZero f with flags := (c0.sendZero f).flags ||| flag (c.loop.compl ≠ .none) sfCOMPL }
            else if !fires then { c := { c with loop := { c.loop with code := c.loop.sent } }, entered := false,
                                  flags := flag (c.loop.compl ≠ .none) sfCOMPL + flag (c.loop.compl == .neg) sfCOMPLNEG }
            else
              let c1 := if inPath then { c0 with loop := c0.loop.within (c0.lawIn x y scale) } else c0
              c1.runLoop x y scale

/-! ### Step 4: the range machine (R99..R118) -/

/-- Output and integrator rescaled where the source range changes (R103). -/
def Chan.rescale (c : Chan) (x : Desc) (q old new : Nat) : Chan :=
  if fnPath c.cfg.func = some q ∧ c.arm ≠ .parked then
    let k := x.fs q old / x.fs q new
    let l := { c.loop with uPrev := Config.fix36 (c.loop.uPrev * k), integ := Config.fix36 (c.loop.integ * k) }
    let code := if fnClosed c.cfg.func && c.arm ≠ .arming then outCode (c.cal.active.use (sourceSet q new)) c.cal.th l.uPrev else c.loop.code
    { c with loop := { l with code := code } }
  else c

/-- The zero code follows a new range of the forcing path where no loop runs. -/
def Chan.rezero (c : Chan) : Chan :=
  if c.arm = .arming ∨ (c.armed ∧ ¬ fnClosed c.cfg.func) then { c with loop := { c.loop with code := c.zero c.cfg.func } } else c

/-- The switch to a new range in the next frame's block (R103, R111). -/
def Chan.switchTo (c : Chan) (x : Desc) (n q new : Nat) (g : RChange) : Chan :=
  let old := c.range.code q
  let c := c.rescale x q old new
  let w := holdCount x n q new
  ({ c with range := { (c.range.setCode q new) with state := .hsHold, change := some { g with m := w, j := 0 }, downV := 0, downI := 0 } }).rezero

/-- A wanted change completes at once where the range is already in use (R99). -/
def Device.startChange (d : Device) (ch : Nat) (x : Desc) (w : RWant) : Device :=
  let c := d.chan ch
  let q := w.quantity
  let old := c.range.code q
  let b := d.time.frame + 1
  if w.target = old then
    d.final? w.env stOK (le64 d.nextTick ++ le64 d.nextTick ++ [BitVec.ofNat 8 old] ++ zeros 3)
  else
    let past := c.byOverlap x d.time.n q old w.target
    let new := if past then (if old < w.target then old + 1 else old - 1) else w.target
    let more := past && new ≠ w.target
    let w' : RWant := { w with first := some (w.first.getD b), env := if more then none else w.env }
    let g : RChange := { want := w', old := old, new := new, b := b, mkN := makeCount x d.time.n q (min old new), m := c.range.fade }
    let bound := if past then overlapBound x q old new else holdBound x q new
    let c := { c with range := { c.range with mismatch := false, lastStart := some b, bound := ratToF32 bound,
                                              cont := if more then some { w with first := w'.first } else none } }
    if past then d.setChan ch { c with range := { c.range with state := .ovMake, change := some g } }
    else d.setChan ch (c.switchTo x d.time.n q new g)

/-- The completion of a commanded change: now, or at the next tick where the change completes there (R107, R116). -/
def Device.answerChange (d : Device) (ch : Nat) (env : Option Env) (boundary : Nat) (payload : List Byte) : Device :=
  match env with
  | none => d
  | some e => if boundary ≤ d.time.tick then d.final e stOK payload else d.onChan ch fun c => { c with rangeReply := some (e, payload) }

/-- A change whose completion boundary has just begun is answered (R116). -/
def Device.flushChange (d : Device) (ch : Nat) : Device :=
  match (d.chan ch).rangeReply with
  | none => d
  | some (e, p) => (d.onChan ch fun c => { c with rangeReply := none }).final e stOK p

/-- A change is complete (R116): the event, the command's completion, and no change in progress. -/
def Device.completeChange (d : Device) (ch : Nat) (g : RChange) (boundary : Nat) : Device :=
  let c := d.chan ch
  let code := c.range.code g.want.quantity
  let d := d.setChan ch { c with range := { c.range with state := .steady, change := none } }
  if c.range.cont.isSome then d
  else
    let d := d.event (128 + ch) d.time.now
    d.answerChange ch g.want.env boundary (le64 (d.tickOfFrame (g.want.first.getD g.b)) ++ le64 boundary ++ [BitVec.ofNat 8 code] ++ zeros 3)

/-- A down-range whose new path saturates is abandoned (R109): the range stays, and so do the counts of pacing. The command completes
with the range in use (DEDUCED, log 37). -/
def Device.abandonChange (d : Device) (ch : Nat) (g : RChange) : Device :=
  let c := d.chan ch
  let env := match c.range.cont with | some w => w.env | none => g.want.env
  let d := d.setChan ch { c with range := { c.range with state := .steady, change := none, cont := none } }
  d.answerChange ch env d.nextTick (le64 (d.tickOfFrame (g.want.first.getD g.b)) ++ le64 d.nextTick ++ [BitVec.ofNat 8 (c.range.code g.want.quantity)] ++ zeros 3)

/-- Autorange's judgement of a frame (R113): the counters of the channel, and what is wanted: quantity and code, up-ranges apart. -/
structure AutoOut where
  r : RangeUnit
  ups : List (Nat × Nat)
  downs : List (Nat × Nat)
  deriving DecidableEq, Repr

/-- One quantity judged: `src` tells whether it is the source quantity of the function. -/
def Chan.autoJudge (c : Chan) (x : Desc) (s : Sample) (target : Rat) (src : Bool) (q : Nat) (o : AutoOut) : AutoOut :=
  let k := c.range.code q
  if !(c.range.auto q && fnAutoAllows c.cfg.func q) then o
  else
    let v := if src then ratAbs target else ratAbs (if q = 0 then s.fv else s.fi)
    let sat := if q = 0 then s.endV else s.endI
    let n := if countsDown x q k (c.range.lo q) v then (if q = 0 then c.range.downV else c.range.downI) + 1 else 0
    let r := if q = 0 then { o.r with downV := min n 16 } else { o.r with downI := min n 16 }
    { r := r, ups := if wantsUp x q k (c.range.hi x q) v sat then o.ups ++ [(q, k + 1)] else o.ups,
      downs := if 16 ≤ n then o.downs ++ [(q, k - 1)] else o.downs }

/-- Both quantities, the measure range first (R100). -/
def Chan.autorange (c : Chan) (x : Desc) (s : Sample) (scale : Rat) : AutoOut :=
  let src := (fnSource c.cfg.func).getD 0
  let tgt := if fnClosed c.cfg.func then (c.lawIn x s scale).target.2 * x.fs src (c.range.code src) else 0
  let o := c.autoJudge x s tgt false (1 - src) { r := c.range, ups := [], downs := [] }
  c.autoJudge x s tgt true src o

/-- STEADY: one of the wanted changes starts (R100, R101, R114). -/
def Device.selectChange (d : Device) (ch : Nat) (x : Desc) (auto : Option AutoOut) : Device :=
  let c := d.chan ch
  match c.range.cont with
  | some w => d.startChange ch x w
  | none =>
    match c.range.queued with
    | some w => (d.onChan ch fun c => { c with range := { c.range with queued := none } }).startChange ch x w
    | none =>
      let b := d.time.frame + 1
      let paced := match c.range.lastStart with | some k => decide (k + 16 ≤ b) | none => true
      match auto with
      | none => d
      | some o =>
        let src := fnSource c.cfg.func
        let free (w : Nat × Nat) : Bool := src ≠ some w.1 || c.loop.compl == .none
        match (o.ups ++ o.downs).filter free with
        | w :: _ =>
          if paced && c.arm == .armed then
            let r : RWant := { quantity := w.1, target := w.2, source := .auto }
            d.startChange ch x r
          else d
        | [] => d

/-- The state machine of R117 at step 4. `frozen` tells that no count advances in this frame (R177). -/
def Device.rangeStep (d : Device) (ch : Nat) (x : Desc) (s : Option Sample) (scale : Rat) (frozen : Bool) : Device :=
  let c := d.chan ch
  let judged := c.arm == .armed && s.isSome
  let auto := match s with | some y => if c.arm = .armed then some (c.autorange x y scale) else none | none => none
  let d := if judged then d.onChan ch fun c => { c with range := match auto with | some o => { c.range with downV := o.r.downV, downI := o.r.downI } | none => c.range } else d
  if frozen then d
  else
    let next (g : RChange) (st : RState) : Device :=
      d.onChan ch fun c => { c with range := { c.range with state := st, change := some { g with j := g.j + 1 } } }
    match c.range.state, c.range.change with
    | .steady, _ => d.selectChange ch x auto
    | .hsHold, some g => next g .hsHold
    | .ovMake, some g => next g .ovMake
    | .ovCompare, some g =>
      match s with
      | none => d
      | some y =>
        let up := decide (g.old < g.new)
        let fs := widerFs x g.want.quantity g.old g.new
        if !up && y.endB then d.abandonChange ch g
        else if up && y.endA then next { g with full := true } (if g.mkN + 2 ≤ g.j then .ovFade else .ovCompare)
        else if g.full || decide (ratAbs (y.a - y.b) ≤ fs * 5 / 10000) then next g (if g.mkN + 2 ≤ g.j then .ovFade else .ovCompare)
        else d.onChan ch fun c =>
          let c := { c with range := { c.range with mismatch := true, bound := ratToF32 (holdBound x g.want.quantity g.new) } }
          c.switchTo x d.time.n g.want.quantity g.new g
    | .ovFade, some g =>
      match s with
      | none => d
      | some y =>
        if decide (g.new < g.old) && y.endB then d.abandonChange ch g
        else next { g with full := g.full || (decide (g.old < g.new) && y.endA) } .ovFade
    | _, none => d.onChan ch fun c => { c with range := { c.range with state := .steady } }

/-- OV_MAKE_END (R117): the compute phase of frame b + Mk has ended. -/
def Device.ovMakeEnd (d : Device) (ch : Nat) : Device :=
  let c := d.chan ch
  match c.range.state, c.range.change with
  | .ovMake, some g => if g.mkN + 1 ≤ g.j then d.setChan ch { c with range := { c.range with state := .ovCompare, change := some { g with j := g.mkN + 1 } } } else d
  | _, _ => d

/-- OV_FADE_END (R107, R117): j has reached M; range k′ is present from the next frame, e, whose block releases path k. -/
def Device.ovFadeEnd (d : Device) (ch : Nat) : Device :=
  let c := d.chan ch
  match c.range.state, c.range.change, d.desc? ch with
  | .ovFade, some g, some x =>
    if g.mkN + 3 + g.m ≤ g.j then
      let q := g.want.quantity
      let c := c.rescale x q g.old g.new
      let c := ({ c with range := { (c.range.setCode q g.new) with tail := some (q, d.time.frame + 1), downV := 0, downI := 0 } }).rezero
      let after : Chan := { c with range := { c.range with state := .steady, change := none } }
      (d.setChan ch { c with loop := { c.loop with clamp := some (after.clamps x) } }).completeChange ch g d.nextTick
    else d
  | _, _, _ => d

/-- HS_HOLD_END (R111, R117): frame b + W + 1 has begun; the loop runs again from its compute phase. -/
def Device.hsHoldEnd (d : Device) (ch : Nat) : Device :=
  let c := d.chan ch
  match c.range.state, c.range.change with
  | .hsHold, some g => if g.m + 1 ≤ g.j then d.completeChange ch g d.time.tick else d
  | _, _ => d

/-! ### Apertures and slugs (R78..R86) -/

/-- The 32 bytes of a slug (R83, R85). -/
def Chan.slug (c : Chan) : List Byte :=
  let a := c.aper
  let n : Rat := ((max a.valid 1 : Nat) : Rat)
  let f (s : Rat) : F32 := if a.valid = 0 then f32NaN else ratToF32 (s / n)
  let body := le64 a.stamp ++ leF32 (f a.sumV) ++ leF32 (f a.sumI) ++ le32 ((a.anyFlags ||| a.lastFlags) + flag (a.ended == some true) sfPARTIAL) ++
    le16 a.seg ++ le16 a.point ++ [BitVec.ofNat 8 a.ranges, BitVec.ofNat 8 a.folio] ++ zeros 4
  body ++ le16 (crc16 body)

/-- An entry goes into the bank of a slot: the one that fills, or the one just closed once the frame's compute phase has ended (R53). -/
def Device.pushEntry (d : Device) (ch : Nat) (e : Entry) : Device :=
  let j := ch / 8
  let s := d.slot j
  d.setSlot j (if (d.chan ch).loop.done then { s with drain := s.drain ++ [e] } else { s with fill := s.fill ++ [e] })

/-- APERTURE_END (R79, R80, R86): the slug of a finished aperture, and a new one. -/
def Device.apertureEnd (d : Device) (ch : Nat) : Device :=
  let c := d.chan ch
  match c.aper.ended with
  | none => d
  | some _ =>
    let fresh (fo : Nat) : Aper := { folio := fo, cut := c.aper.cut }
    match c.resultRing with
    | some q =>
      if d.inStandby then d.setChan ch { c with aper := fresh c.aper.folio }
      else
        let e : Entry := { ch := ch, ring := q, bytes := c.slug }
        (d.setChan ch { c with aper := fresh ((c.aper.folio + 1) % 256) }).pushEntry ch e
    | none => d.setChan ch { c with aper := fresh c.aper.folio }

/-- Flags of a conversion frame, those of the last frame alone replaced (R84). -/
def mixFlags (any new : Nat) : Nat := (any ||| (new &&& (2 ^ 32 - 1 - lastMask)))
def lastFlagsOf (new func : Nat) : Nat := (new &&& lastMask) + func * 2 ^ 20

/-- A frame value joins the aperture (R78, R79); `cut` ends it early. Without a result ring a finished aperture gives no slug (R80).
CALSTEP is that of the instant at which the slug is made (R139). -/
def Chan.takeFrame (c : Chan) (cv : Conv) (v i : Rat) (flags : Nat) (cut : Bool) : Chan :=
  let a := if c.aper.k = 0 then { c.aper with len := cv.len, stamp := cv.stamp, seg := cv.seg, point := cv.point } else c.aper
  let flags := flags + (if bit flags sfCALSTEP then 0 else flag c.cal.withheld sfCALSTEP)
  let ok := !bit flags sfINVALID
  let k := a.k + 1
  let ended : Option Bool := if a.len ≤ k then some false else if cut then some true else none
  let a' : Aper := { a with k := k, sumV := if ok then a.sumV + v else a.sumV, sumI := if ok then a.sumI + i else a.sumI,
                            valid := if ok then a.valid + 1 else a.valid, anyFlags := mixFlags a.anyFlags flags,
                            lastFlags := lastFlagsOf flags cv.func, ranges := cv.v + 16 * cv.i, ended := ended }
  let a' : Aper := if ended.isSome && c.resultRing.isNone then { folio := a.folio, cut := a.cut } else a'
  { c with aper := a', measure := c.measure.map fun m =>
      if m.k ≤ m.taken then m
      else { m with taken := m.taken + 1, sumV := if ok then m.sumV + v else m.sumV, sumI := if ok then m.sumI + i else m.sumI,
                    valid := if ok then m.valid + 1 else m.valid, flags := mixFlags m.flags flags, lastFlags := lastFlagsOf flags cv.func,
                    stamp := if m.taken = 0 then cv.stamp else m.stamp, ranges := cv.v + 16 * cv.i } }

/-- The value of a conversion frame joins its aperture; an aperture that it finishes is closed before the next frame joins. In STANDBY
no aperture runs, and CH_MEASURE alone takes the value (R80). -/
def Device.takeFrame (d : Device) (ch : Nat) (cv : Conv) (v i : Rat) (flags : Nat) (cut : Bool) : Device :=
  (d.apertureEnd ch).onChan ch fun c =>
    let c := c.takeFrame cv v i flags cut
    if d.inStandby then { c with aper := { folio := c.aper.folio } } else c

/-- CH_MEASURE_COMPLETE (R392): the K frame values are taken. -/
def Device.measureComplete (d : Device) (ch : Nat) : Device :=
  let c := d.chan ch
  match c.measure with
  | none => d
  | some m =>
    if m.taken < m.k then d
    else
      let n : Rat := ((max m.valid 1 : Nat) : Rat)
      let f (s : Rat) : F32 := if m.valid = 0 then f32NaN else ratToF32 (s / n)
      (d.setChan ch { c with measure := none }).final m.env stOK
        (le64 m.stamp ++ leF32 (f m.sumV) ++ leF32 (f m.sumI) ++ le32 (m.flags ||| m.lastFlags) ++ [BitVec.ofNat 8 m.ranges] ++ zeros 3)

/-- Numbers as the bits of packed pairs (R81): V in the low 18 bits, I above. -/
def pairBits (p : Int × Int) : Nat := ofSigned 18 p.1 + ofSigned 18 p.2 * 2 ^ 18

/-- The bytes of a frame's pairs, padded to a 32-byte boundary (R81). -/
def packPairs (l : List (Int × Int)) : List Byte :=
  let n := l.foldr (fun p s => pairBits p + s * 2 ^ 36) 0
  leBytes (32 * ((36 * l.length + 255) / 256)) n

/-- The capture entry of a conversion frame (R81, R82, R165): none for a calibration frame or where the pairs failed their CRC. -/
def Device.captureFrame (d : Device) (ch : Nat) (cv : Conv) (u : Upstream) : Device :=
  let c := d.chan ch
  match c.captureRing with
  | some q =>
    if (c.cfg.digMode == 1 || c.cfg.digMode == 3) && u.dzOk && !bit cv.flags sfCAL && !d.inStandby then
      let ps := (u.v, u.i) :: u.pairs
      let e : Entry := { ch := ch, ring := q, bytes := packPairs ps, frames := 1, pairs := ps.length, ranges := cv.v + 16 * cv.i,
                         folio := c.aper.folio, commits := c.cal.active.commits % 256, stamp := cv.stamp, frame := cv.frame,
                         starts := c.aper.k == 0 || c.aper.ended.isSome }
      d.pushEntry ch e
    else d
  | none => d

/-- The value of the conversion frame before this one is formed (R77, R79, R128): a calibration frame's is held open, or is that of the
frame before where it ends its aperture. -/
def Device.formValue (d : Device) (ch : Nat) (cv : Conv) (s : Option Sample) (flags : Nat) : Device :=
  let c := d.chan ch
  let cut := c.aper.cut
  let last := cut || decide (c.aper.len ≤ c.aper.k + 1 ∧ 0 < c.aper.k) || decide (cv.len ≤ 1 ∧ c.aper.k = 0)
  let d := d.onChan ch fun c => { c with aper := { c.aper with cut := false } }
  if bit cv.flags sfCAL ∧ s.isSome then
    if last then d.takeFrame ch cv c.frame.v c.frame.i flags cut
    else d.onChan ch fun c => { c with frame := { c.frame with open_ := some { cv with flags := flags } } }
  else
    let (v, i, flags) : Rat × Rat × Nat :=
      match s with
      | some y => (y.fv, y.fi, flags)
      | none => (c.frame.v, c.frame.i, flags ||| 2 ^ sfINVALID)
    let d :=
      match c.frame.open_ with
      | some k =>
        let fine := !bit flags sfINVALID
        d.takeFrame ch k (if fine then (c.frame.v + v) / 2 else c.frame.v) (if fine then (c.frame.i + i) / 2 else c.frame.i) k.flags false
      | none => d
    let d := d.takeFrame ch cv v i flags cut
    d.onChan ch fun c => { c with frame := { c.frame with v := v, i := i, flags := flags, open_ := none } }

/-- Every 64 frames the engine forwards a pair for source fitting (R133). -/
def Device.sourcePair (d : Device) (ch : Nat) (cv : Conv) (s : Sample) : Device :=
  let c := d.chan ch
  match fnPath c.cfg.func with
  | some path =>
    if d.time.frame % 64 = 0 ∧ c.cal.fitting ∧ c.arm = .armed ∧ c.loop.compl = .none ∧ c.range.change.isNone ∧ c.range.tail.isNone ∧
        ¬ bit cv.flags sfSTROBEHELD ∧ ¬ bit cv.flags sfINVALID ∧ ¬ bit cv.flags sfPARKED ∧ ¬ bit cv.flags sfCAL then
      let w : Rat := ((c.loop.last : Rat) - 131072) / 131072
      d.onCal ch fun k => k.pushPair (sourceSet path (c.range.code path)) w (if path = 0 then s.v else s.i)
    else d
  | none => d

end Sys2Proof.Machine
end

