-- ==== Sys2Proof/Machine/ImpMath.lean ====
section
/-! DEFINITION. The arithmetic of imposition: records (R286, R296, R299), load models (R300, R301), the thermal network (R288), energy
profiles (R302) and sensors (R291). -/

namespace Sys2Proof.Machine

/-! ### Records -/

/-- The first field of a zone record outside its allowed values (R286): its offset. -/
def zoneRecordBad (l : List Byte) : Option Nat :=
  let f (o : Nat) (lo hi : Rat) : Bool := !f32In lo hi (f32At l o)
  let idx := u16At l 4
  let src := byteAt l 3
  let stage (i : Nat) : Option Nat :=
    let tau := f32At l (36 + 8 * i)
    if f (32 + 8 * i) 0 100 then some (32 + 8 * i)
    else if f32Bad tau || !(f32ToRat tau == 0 || f32In (1 / 1000000) 10000 tau) then some (36 + 8 * i) else none
  if 63 < byteAt l 0 then some 0
  else if 1 < byteAt l 1 then some 1
  else if byteAt l 2 < 1 ∨ 4 < byteAt l 2 then some 2
  else if 3 < src then some 3
  else if (src = 1 ∧ 3 < idx) ∨ (src = 2 ∧ 511 < idx) ∨ ((src = 0 ∨ src = 3) ∧ idx ≠ 0) then some 4
  else if 1 < byteAt l 6 then some 6
  else if 1 < byteAt l 7 then some 7
  else if f 8 (-40) 100 then some 8
  else if f 12 (-40) 150 then some 12
  else if f 16 (1 / 10) 100 then some 16
  else if f 20 (1 / 10) 200 ∨ f32ToRat (f32At l 20) ≤ f32ToRat (f32At l 16) then some 20
  else if f 24 (1 / 1000) 600 then some 24
  else if f 28 (1 / 10) 60 then some 28
  else match (List.range 4).findSome? stage with
    | some o => some o
    | none => firstNonzero l (offsets 64 127)

/-- The settings of a zone record over an earlier zone. -/
def Zone.ofRecord (z : Zone) (l : List Byte) : Zone :=
  { z with
    enabled := bit (byteAt l 1) 0, stages := byteAt l 2, ambSrc := byteAt l 3, ambIdx := u16At l 4, fbSource := byteAt l 6, fbSink := byteAt l 7
    fixedAmb := f32At l 8, tmax := f32At l 12, warn := f32At l 16, act := f32At l 20, look := f32At l 24, release := f32At l 28
    net := (List.range 4).map fun i => (f32At l (32 + 8 * i), f32At l (36 + 8 * i)) }

/-- The first field of a rail record outside its allowed values (R296). -/
def railRecordBad (l : List Byte) : Option Nat :=
  if 31 < byteAt l 0 then some 0
  else if 1 < byteAt l 1 then some 1
  else if 1 < byteAt l 2 then some 2
  else if 1 < byteAt l 3 then some 3
  else if !f32In (1 / 2) 1000 (f32At l 4) then some 4
  else if !f32Pos (f32At l 8) then some 8
  else if !f32Pos (f32At l 12) then some 12
  else if !f32In 0 (1 / 2) (f32At l 16) then some 16
  else if !f32In (1 / 2) (99 / 100) (f32At l 20) then some 20
  else firstNonzero l (offsets 24 63)

def Rail.ofRecord (r : Rail) (l : List Byte) : Rail :=
  { r with enabled := bit (byteAt l 1) 0, fbSource := byteAt l 2, fbSink := byteAt l 3, volt := f32At l 4, capW := f32At l 8, capA := f32At l 12
           reserve := f32At l 16, throttle := f32At l 20 }

/-- The first field of a model record outside its allowed values (R299); `regen` tells whether the descriptor declares regeneration. -/
def modelRecordBad (l : List Byte) (regen : Bool) : Option Nat :=
  if 511 < u16At l 0 then some 0
  else if 63 < byteAt l 2 ∧ byteAt l 2 ≠ 0xFF then some 2
  else if 31 < byteAt l 3 ∧ byteAt l 3 ≠ 0xFF then some 3
  else if 3 < byteAt l 4 then some 4
  else if (byteAt l 5 < 2 ∨ 16 < byteAt l 5) ∧ (byteAt l 4 = 1 ∨ byteAt l 5 ≠ 0) then some 5
  else if byteAt l 6 ≠ 0 then some 6
  else if byteAt l 7 ≠ 0 then some 7
  else if !f32Pos (f32At l 8) then some 8
  else if f32Bad (f32At l 12) then some 12
  else if !f32In (1 / 2) 1 (f32At l 16) then some 16
  else if !f32In 0 (99 / 100) (f32At l 20) ∨ (!regen ∧ f32ToRat (f32At l 20) ≠ 0) then some 20
  else if !f32In 0 1000 (f32At l 24) then some 24
  else if !f32In (1 / 2) 1000 (f32At l 28) then some 28
  else match (List.range 16).find? fun i => f32Bad (f32At l (32 + 4 * i)) with
    | some i => some (32 + 4 * i)
    | none => firstNonzero l (offsets 96 127)

/-- The record's settings; the maximum deferral is IM_POLICY's. -/
def Model.ofRecord (m : Model) (l : List Byte) : Model :=
  { m with zone := byteAt l 2, rail := byteAt l 3, model := byteAt l 4, points := byteAt l 5, r := f32At l 8, pw := f32At l 12, eta := f32At l 16
           etaR := f32At l 20, pq := f32At l 24, vsup := f32At l 28, ocv := (List.range 16).map fun i => f32At l (32 + 4 * i) }

/-! ### Load models (R300, R301) -/

/-- What lock-up knows of a channel: its model, its limits and the descriptor's largest regenerated power. -/
structure LoadCtx where
  m : Model
  vPos : Rat
  vNeg : Rat
  iPos : Rat
  iNeg : Rat
  regenMax : Rat
  deriving DecidableEq, Repr

/-- Smallest and largest of a list. -/
def spanOf (l : List Rat) : Rat × Rat := (l.foldl ratMin (l.headD 0), l.foldl ratMax (l.headD 0))

/-- The values of O at which the interval over O is evaluated: the ends of the table's range, and 0 where it lies between, for the power is
monotone on either side of it. -/
def LoadCtx.ocvPoints (x : LoadCtx) : List Rat :=
  let os := (x.m.ocv.take x.m.points).map f32ToRat
  let (lo, hi) := spanOf os
  if lo < 0 ∧ 0 < hi then [lo, 0, hi] else [lo, hi]

/-- The load power interval of a value x under a function (R300), none where FM_LOCKUP refuses it. The current or voltage that the load
gives is clipped to the channel's limits (DEDUCED, log 38). -/
def LoadCtx.interval (c : LoadCtx) (func : Nat) (x : Rat) : Option (Rat × Rat) :=
  let r := f32ToRat c.m.r
  let clipI := ratClamp c.iNeg c.iPos
  let clipV := ratClamp c.vNeg c.vPos
  let vc := ratMax c.vPos (-c.vNeg)
  let ic := ratMax c.iPos (-c.iNeg)
  let pm (p : Rat) : Option (Rat × Rat) := some (-p, p)
  let pw := f32ToRat c.m.pw
  if func = fnMV ∨ func = fnMI ∨ func = fnOFF then some (0, 0)
  else if func = fnCP then (if c.m.model = 0 then none else some (-x, -x))
  else
    match c.m.model with
    | 0 =>
      if func = fnFV ∨ func = fnFVZ then let p := x * clipI (x / r); some (p, p)
      else if func = fnFI then let p := x * clipV (x * r); some (p, p)
      else none
    | 1 =>
      let f (o : Rat) : Rat :=
        if func = fnFV ∨ func = fnFVZ then x * clipI ((x - o) / r)
        else if func = fnFI then clipV (o + x * r) * x
        else clipV (o * x / (x + r)) * clipI (-o / (x + r))
      some (spanOf (c.ocvPoints.map f))
    | 2 => some (pw, pw)
    | _ =>
      if func = fnFV ∨ func = fnFVZ then pm (ratAbs x * ic)
      else if func = fnFI then pm (ratAbs x * vc)
      else pm (vc * ic)

/-- Rail draw r(P) and dissipation q(P) of a load power (R301). -/
def LoadCtx.draw (c : LoadCtx) (p : Rat) : Rat :=
  let pq := f32ToRat c.m.pq
  if 0 ≤ p then p / f32ToRat c.m.eta + pq else -(ratMin (f32ToRat c.m.etaR * -p) c.regenMax) + pq
def LoadCtx.heat (c : LoadCtx) (p : Rat) : Rat :=
  let pq := f32ToRat c.m.pq
  if 0 ≤ p then p * (1 / f32ToRat c.m.eta - 1) + pq else -p * (1 - f32ToRat c.m.etaR) + pq

/-- Rail draw, dissipation and mean load power of an interval (R301, R307): the larger draw, the larger heat, the middle of the interval. -/
def LoadCtx.point (c : LoadCtx) (p : Rat × Rat) : Rat × Rat × Rat :=
  (c.draw p.2, ratMax (c.heat p.1) (c.heat p.2), (p.1 + p.2) / 2)

/-! ### Energy profiles (R302) -/

/-- The first `n` frames of a run-length list, and the rest. -/
def splitRuns {α : Type} : List (α × Nat) → Nat → List (α × Nat) × List (α × Nat)
  | [], _ => ([], [])
  | (x, k) :: l, n =>
    if n = 0 then ([], (x, k) :: l)
    else if k ≤ n then let (a, b) := splitRuns l (n - k); ((x, k) :: a, b)
    else ([(x, n)], (x, k - n) :: l)

/-- A bin over runs of (draw, heat, load). -/
def binOf (runs : List ((Rat × Rat × Rat) × Nat)) : Bin :=
  let n : Rat := ((max (runs.foldl (fun s r => s + r.2) 0) 1 : Nat) : Rat)
  let mean (f : Rat × Rat × Rat → Rat) : Rat := runs.foldl (fun s r => s + f r.1 * (r.2 : Rat)) 0 / n
  let peak (f : Rat × Rat × Rat → Rat) : Rat := (spanOf (runs.map fun r => f r.1)).2
  { peakR := ratToF32 (peak (·.1)), meanR := ratToF32 (mean (·.1)), peakQ := ratToF32 (peak (·.2.1)), meanQ := ratToF32 (mean (·.2.1)) }

def binsOf (b : Nat) : Nat → List ((Rat × Rat × Rat) × Nat) → List Bin
  | 0, _ => []
  | n + 1, runs => let (now, rest) := splitRuns runs b; binOf now :: binsOf b n rest

/-- The energy profile of a span of L frames from its values' runs (R302). -/
def profileOf (c : LoadCtx) (func len : Nat) (runs : List (Rat × Nat)) (endless : Bool) : Option Profile :=
  let pts := runs.map fun r => (c.interval func r.1, r.2)
  if pts.any (·.1.isNone) then none
  else
    let ps := pts.map fun r => (c.point (r.1.getD (0, 0)), r.2)
    let b := max 1 ((len + 63) / 64)
    let n : Rat := ((max len 1 : Nat) : Rat)
    some { binLen := b, len := len, bins := binsOf b ((len + b - 1) / b) ps, load := ps.foldl (fun s r => s + r.1.2.2 * (r.2 : Rat)) 0 / n,
           endless := endless }

/-- The profile of a streamed segment: both ends of its scale in every frame (R302). -/
def streamProfile (c : LoadCtx) (func len : Nat) (a b : Rat) (endless : Bool) : Option Profile :=
  match c.interval func a, c.interval func b with
  | some x, some y =>
    let p := c.point (ratMin x.1 y.1, ratMax x.2 y.2)
    let bl := max 1 ((len + 63) / 64)
    some { binLen := bl, len := len, bins := List.replicate ((len + bl - 1) / bl) (binOf [(p, 1)]), load := p.2.2, endless := endless }
  | _, _ => none

def zeroBin : Bin := { peakR := 0, meanR := 0, peakQ := 0, meanQ := 0 }

/-- An ADMIT's flat profile over its window (R302): the largest peak and the largest mean of each kind among the given profiles. -/
def flatProfile (win : Nat) (ps : List Profile) : Profile :=
  let bins := ps.flatMap (·.bins)
  let top (f : Bin → F32) : F32 := match bins with
    | [] => 0
    | b :: l => l.foldl (fun m x => if f32ToRat m < f32ToRat (f x) then f x else m) (f b)
  let b : Bin := if bins.isEmpty then zeroBin else { peakR := top (·.peakR), meanR := top (·.meanR), peakQ := top (·.peakQ), meanQ := top (·.meanQ) }
  let bl := max 1 ((win + 63) / 64)
  { binLen := bl, len := win, bins := List.replicate ((win + bl - 1) / bl) b, load := (spanOf (ps.map (·.load))).1, endless := false }

/-- A contributor's request is judged by its largest bin peaks and means held flat over the span (R344). -/
def Profile.flattened (p : Profile) : Profile := { flatProfile p.len [p] with load := p.load, endless := p.endless }

/-- The bin in force a number of frames after a span's start; a frame outside the span has none. -/
def Profile.at (p : Profile) (start frame : Nat) : Option Bin :=
  if frame < start then none
  else if !p.endless && decide (p.len ≤ frame - start) then none
  else p.bins[min ((frame - start) / max p.binLen 1) (p.bins.length - 1)]?

/-- The frames at which a span's bins begin (R308). -/
def Profile.boundaries (p : Profile) (start : Nat) : List Nat := (List.range p.bins.length).map fun i => start + i * p.binLen

/-- The mean dissipation of a span over the frames from `a` to `b`, where it begins at frame `s`: each bin's mean for as much of the step
as the bin covers (R301; DEDUCED, log 39). An endless span keeps its last bin. -/
def Profile.meanHeat (p : Profile) (s a b : Rat) : Rat :=
  (List.range p.bins.length).foldl (init := 0) fun acc i =>
    let lo := s + ((i * p.binLen : Nat) : Rat)
    let hi := if p.endless && i + 1 == p.bins.length then ratMax b lo else s + ((min ((i + 1) * p.binLen) p.len : Nat) : Rat)
    acc + f32ToRat (p.bins.getD i zeroBin).meanQ * ratMax 0 (ratMin b hi - ratMax a lo) / (b - a)

/-! ### The thermal network (R288, R301) -/

/-- One step of `dt` seconds at dissipation `p`; a stage's rise keeps 60 fraction bits (log 9). -/
def Zone.step (z : Zone) (dT : List Rat) (dt p : Rat) : List Rat :=
  (List.range 4).map fun i =>
    if i < z.stages then
      let (rth, tau) := z.net.getD i (0, 0)
      let a : Rat := if f32ToRat tau = 0 then 0 else expNeg (dt / f32ToRat tau)
      trim60 (a * dT.getD i 0 + (1 - a) * f32ToRat rth * p)
    else 0

def ratSum (l : List Rat) : Rat := l.foldl (· + ·) 0

/-- The forecast's temperatures after each of its steps (R301). -/
def Zone.forecast (z : Zone) (amb excess dt : Rat) : List Rat → List Rat → List Rat
  | _, [] => []
  | dT, p :: ps => let d := z.step dT dt p; (amb + ratSum d + excess) :: z.forecast amb excess dt d ps

/-! ### Sensors (R290..R292) -/

def msUnits : Nat := 16000000
def secUnits : Nat := 16000000000

/-- The judgement of a sample (R291): open or short, stuck, implausible. -/
def Sensor.fails (s : Sensor) (t : Nat) (value : Int) (ok : Bool) : Bool :=
  !ok ||
  (s.reading == value && decide (s.changedAt + secUnits ≤ t) && decide (1 ≤ spread (s.ests.map (·.2)))) ||
  s.recent.any fun r => decide (t ≤ r.1 + 10 * msUnits) && decide (32 < (value - r.2).natAbs)

/-- A sample is taken: the histories move on, and the sensor is broken, or counts the time for which it has read validly (R291, R292). -/
def Sensor.sample (s : Sensor) (t : Nat) (value : Int) (ok : Bool) (est : Rat) : Sensor :=
  let moved := s.reading ≠ value
  let s1 : Sensor := if ok && moved then
      { s with recent := (t, s.reading) :: s.recent.filter fun r => decide (t ≤ r.1 + 10 * msUnits) } else s
  let s1 := if s.changedAt = 0 then { s1 with recent := [] } else s1
  let ests := match s.ests with
    | (t0, _) :: _ => if t < t0 + msUnits then s.ests else (t, est) :: s.ests.filter fun e => decide (t ≤ e.1 + secUnits)
    | [] => [(t, est)]
  let bad := s1.fails t value ok
  { s1 with
    reading := if ok then value else s.reading, failed := !ok, ests := ests
    changedAt := if ok && (moved || s.changedAt == 0) then max t 1 else s.changedAt
    broken := s.broken || bad
    validSince := if bad then none else if s.broken then some (s.validSince.getD t) else none }

/-- The sensor has read validly for 10 s (R292). -/
def Sensor.revalidates (s : Sensor) (t : Nat) : Bool :=
  s.broken && match s.validSince with | some t0 => decide (t0 + 10 * secUnits ≤ t) | none => false
def Sensor.revalidated (s : Sensor) : Sensor := { s with broken := false, validSince := none }

end Sys2Proof.Machine
end

