-- ==== Sys2Proof/Machine/SeqWords.lean ====
section
/-! DEFINITION. Sequence words: their fields, the lock-up checks on words and paths, and the walk (R222..R236, R246). A word is
the number of its 64 bits. -/

namespace Sys2Proof.Machine

/-- Opcode of a sequence word (R222). -/
def swOp (w : Nat) : Nat := bits w 63 58

def swHALT : Nat := 0x00
def swPLAY : Nat := 0x01
def swGEN : Nat := 0x02
def swSTREAM : Nat := 0x03
def swHOLD : Nat := 0x04
def swLOOP : Nat := 0x08
def swNEXT : Nat := 0x09
def swCALL : Nat := 0x0A
def swRET : Nat := 0x0B
def swJUMP : Nat := 0x0C
def swBRANCH : Nat := 0x0D
def swWAIT : Nat := 0x0E
def swFUNC : Nat := 0x10
def swRANGE : Nat := 0x11
def swLIMIT : Nat := 0x12
def swTSET : Nat := 0x13
def swSTROBE : Nat := 0x14
def swMARK : Nat := 0x15
def swPOST : Nat := 0x16
def swAPERTURE : Nat := 0x17
def swADMIT : Nat := 0x18
def swSYNC : Nat := 0x19
def swSIGNAL : Nat := 0x1A

/-- A word that occupies frames (R225). -/
def swIsPlay (w : Nat) : Bool := swOp w == swPLAY || swOp w == swGEN || swOp w == swSTREAM || swOp w == swHOLD

/-- A word that ends a walk: a play word, WAIT, SYNC or HALT (R226). -/
def swEndsWalk (w : Nat) : Bool := swIsPlay w || swOp w == swWAIT || swOp w == swSYNC || swOp w == swHALT

/-- Number of low bits of the word that its fields may use, for words whose fields are contiguous from bit 0; the SYNC word's
count depends on MODE (R223). -/
def swWidth (w : Nat) : Nat :=
  let o := swOp w
  if o = swHALT then 18 else if o = swPLAY then 25 else if o = swGEN then 35 else if o = swSTREAM then 25
  else if o = swHOLD then 33 else if o = swLOOP then 27 else if o = swNEXT then 28 else if o = swCALL then 16
  else if o = swRET then 0 else if o = swJUMP then 16 else if o = swBRANCH then 42 else if o = swWAIT then 51
  else if o = swFUNC then 8 else if o = swRANGE then 14 else if o = swLIMIT then 9 else if o = swTSET then 4
  else if o = swSTROBE then 5 else if o = swMARK then 3 else if o = swPOST then 17 else if o = swAPERTURE then 21
  else if o = swADMIT then 42 else if o = swSIGNAL then 10
  else if bits w 1 0 = 0 then 50 else if bits w 1 0 = 1 then 6 else 8

/-- Is the opcode defined (R223). -/
def swDefined (w : Nat) : Bool :=
  let o := swOp w
  decide (o ≤ 4) || decide (8 ≤ o ∧ o ≤ 0x0E) || decide (0x10 ≤ o ∧ o ≤ 0x1A)

/-- R222: the opcode is defined, reserved bits are 0, and every field value is one that a rule defines. -/
def swWordOk (w : Nat) : Bool :=
  let o := swOp w
  swDefined w && decide (bits w 57 0 < 2 ^ swWidth w) &&
  (if o = swHALT then decide (bits w 1 0 ≤ 2)
   else if o = swHOLD then decide (24 ≤ bits w 23 0) && decide (bits w 25 24 ≤ 2)
   else if o = swBRANCH then decide (bits w 19 16 ≤ 8)
   else if o = swADMIT then decide (24 ≤ bits w 23 0)
   else if o = swSYNC then
     (if bits w 1 0 = 0 then decide (1 ≤ bits w 25 2) && decide (bits w 49 26 < bits w 25 2)
      else if bits w 1 0 = 1 then true
      else if bits w 1 0 = 2 then decide (1 ≤ bits w 7 2)
      else false)
   else true)

/-- Word addresses that a word names (R222). -/
def swAddrs (w : Nat) : List Nat :=
  let o := swOp w
  if o = swNEXT then [bits w 27 12] else if o = swCALL ∨ o = swJUMP ∨ o = swBRANCH then [bits w 15 0]
  else if o = swWAIT then (if bits w 34 11 = 0 then [] else [bits w 50 35])
  else if o = swADMIT then [bits w 41 26] else []

/-- Every address field names a word below W (R222); a WAIT without a timeout still carries its TADDR field. -/
def swAddrFieldsOk (n w : Nat) : Bool :=
  (swAddrs w).all (fun a => decide (a < n)) && (if swOp w = swWAIT then decide (bits w 50 35 < n) else true)

/-- May the word continue at the next address: all but JUMP, RET, HALT and NEXT on an endless loop (R222). `endless` tells
whether a NEXT closes an endless loop wherever it is reached. -/
def swFallsThrough (endless : Bool) (w : Nat) : Bool :=
  let o := swOp w
  !(o == swJUMP || o == swRET || o == swHALT || (o == swNEXT && endless))

/-- The words of a forme image: the 8-byte words after the 256-byte header (R220). -/
def imageWord (image : List Byte) (a : Nat) : Nat := u64At image (256 + 8 * a)
def imageW (image : List Byte) : Nat := u32At image 0
def imageEntry (image : List Byte) : Nat := u16At image 4
def imageTargets (image : List Byte) : Nat := byteAt image 6
def imageBinds (image : List Byte) : Nat := byteAt image 7
def imageVA (image : List Byte) : List F32 := (List.range 16).map fun k => f32At image (8 + 4 * k)
def imageTarget (image : List Byte) (k : Nat) : Nat := u16At image (72 + 2 * k)
def imageBind (image : List Byte) (k : Nat) : Nat := u16At image (104 + 2 * k)

/-- A point of the control flow at lock-up (R246): address, open loops as (counter, body, endless) innermost first, return
addresses. -/
structure Point where
  pc : Nat
  opens : List (Nat × Nat × Bool)
  calls : List Nat
  deriving DecidableEq, Repr

/-- The points that may follow a word, none where the word breaks a rule on loops or calls there (R246). The timeout
addresses of WAIT and ADMIT, and the word after a deferred play word, are among them. -/
def swSuccs (w : Nat) (p : Point) : Option (List Point) :=
  let o := swOp w
  let nxt : Point := { p with pc := p.pc + 1 }
  if o = swHALT then some []
  else if o = swLOOP then
    let lc := bits w 26 24
    if p.opens.any (fun x => x.1 == lc) ∨ 8 ≤ p.opens.length then none
    else some [{ nxt with opens := (lc, p.pc + 1, bits w 23 0 == 0) :: p.opens }]
  else if o = swNEXT then
    match p.opens with
    | (lc, body, endless) :: rest =>
      if lc ≠ bits w 2 0 ∨ body ≠ bits w 27 12 then none
      else if endless then some [{ p with pc := body }]
      else some [{ p with pc := body }, { nxt with opens := rest }]
    | [] => none
  else if o = swCALL then
    if 16 ≤ p.calls.length ∨ p.calls.contains (p.pc + 1) then none
    else some [{ p with pc := bits w 15 0, calls := (p.pc + 1) :: p.calls }]
  else if o = swRET then
    match p.calls with
    | a :: rest => some [{ p with pc := a, calls := rest }]
    | [] => none
  else if o = swJUMP then some [{ p with pc := bits w 15 0 }]
  else if o = swBRANCH then some [{ p with pc := bits w 15 0 }, nxt]
  else if o = swWAIT then if bits w 34 11 = 0 then some [nxt] else some [nxt, { p with pc := bits w 50 35 }]
  else if o = swADMIT then some [nxt, { p with pc := bits w 41 26 }]
  else some [nxt]

/-- The members of a list once each. -/
def dedup {α : Type} [DecidableEq α] : List α → List α
  | [] => []
  | a :: l => if (dedup l).contains a then dedup l else a :: dedup l

/-- Does a path from these points, `j` words after the stop they follow, reach a play word after more than 16 words (R246)? A path ends
at its first stop. -/
def playFar (fetch : Nat → Nat) (n : Nat) : Nat → Nat → List Point → Bool
  | 0, _, _ => false
  | k + 1, j, ps =>
    if ps.isEmpty then false
    else (decide (16 < j) && ps.any fun p => decide (p.pc < n) && swIsPlay (fetch p.pc)) ||
      playFar fetch n k (j + 1) (dedup (ps.flatMap fun p =>
        if n ≤ p.pc ∨ swEndsWalk (fetch p.pc) then [] else match swSuccs (fetch p.pc) p with | some l => l | none => []))

/-- One layer of paths: from points that have executed the same number of words since a span's end, the points after the next
word that does not end a walk. A point at a play word, WAIT, SYNC or HALT is a stop. The result is the next layer
and the stops, or the address of a word at fault; an ADMIT's TADDR may not lead to a play word after more than 16 words. -/
def layerStep (fetch : Nat → Nat) (n : Nat) (ps : List Point) : Sum Nat (List Point × List Point) :=
  ps.foldl (init := Sum.inr ([], [])) fun acc p =>
    match acc with
    | .inl a => .inl a
    | .inr (go, stop) =>
      if n ≤ p.pc then .inl p.pc
      else
        let w := fetch p.pc
        if swEndsWalk w then .inr (go, p :: stop)
        else match swSuccs w p with
          | none => .inl p.pc
          | some l =>
            if swOp w = swADMIT ∧ playFar fetch n 257 0 (l.drop 1) then .inl 0xFFFFFFFF else .inr (l ++ go, stop)

/-- Paths of at most `k` words from the given points to their stops (R246): the stops, or the address at fault, 0xFFFFFFFF where
the bound is exceeded. -/
def pathsWithin (fetch : Nat → Nat) (n : Nat) : Nat → List Point → List Point → Sum Nat (List Point)
  | 0, ps, acc => if ps.isEmpty then .inr acc else .inl 0xFFFFFFFF
  | k + 1, ps, acc =>
    if ps.isEmpty then .inr acc
    else match layerStep fetch n ps with
      | .inl a => .inl a
      | .inr (go, stop) => pathsWithin fetch n k (dedup go) (dedup (stop ++ acc))

/-- The points at which the walk after a stop begins: after a play word, WAIT or SYNC, and a WAIT's timeout (R236). -/
def afterStop (fetch : Nat → Nat) (p : Point) : List Point :=
  match swSuccs (fetch p.pc) p with
  | some l => l
  | none => []

/-- Does a path from this stop make a continuation walk (R236): a WAIT, a SYNC BARRIER, or a budgeted play word's deferral timeout. -/
def stopContinues (w : Nat) : Bool :=
  swOp w == swWAIT || (swOp w == swSYNC && bits w 1 0 == 2) ||
  ((swOp w == swPLAY || swOp w == swGEN || swOp w == swSTREAM) && bit w 16) || (swOp w == swHOLD && bit w 30)

/-- Exploration of every path of a program from a list of unexplored stops (R246). -/
def exploreStops (fetch : Nat → Nat) (n : Nat) : Nat → List Point → List Point → Option Nat
  | 0, _, _ => some 0xFFFFFFFF
  | fuel + 1, todo, seen =>
    match todo with
    | [] => none
    | p :: rest =>
      if seen.contains p then exploreStops fetch n fuel rest seen
      else
        let w := fetch p.pc
        if swOp w = swHALT then exploreStops fetch n fuel rest (p :: seen)
        else
          let starts := afterStop fetch p
          match pathsWithin fetch n 257 starts [] with
          | .inl a => some a
          | .inr stops =>
            if stopContinues w && playFar fetch n 257 0 starts then some 0xFFFFFFFF
            else exploreStops fetch n fuel (stops ++ rest) (p :: seen)

/-- R246's checks on loops, calls and path lengths: the address at fault, none where the program passes. Declared targets start
with closed loops and an empty stack (R239). -/
def programFault (fetch : Nat → Nat) (n entry : Nat) (targets : List Nat) : Option Nat :=
  match pathsWithin fetch n 257 [{ pc := entry, opens := [], calls := [] }] [] with
  | .inl a => some a
  | .inr stops => exploreStops fetch n (2 ^ 40) (stops ++ targets.map fun t => { pc := t, opens := [], calls := [] }) []

/-- R222's address rule: the first word that can continue past word W - 1. -/
def fallsOff (fetch : Nat → Nat) (n : Nat) : Bool :=
  let w := fetch (n - 1)
  let loopEndless := (List.range n).all fun a => swOp (fetch a) ≠ swLOOP || bits (fetch a) 26 24 ≠ bits w 2 0 || bits (fetch a) 23 0 == 0
  swFallsThrough loopEndless w

/-- Binary32 addition, nearest even; a NaN or infinity on either side gives the quiet NaN. -/
def f32Add (a b : F32) : F32 := if f32Bad a || f32Bad b then f32NaN else ratToF32 (f32ToRat a + f32ToRat b)

/-- Binary32 comparison a < b, false for a NaN (R233). -/
def f32Lt (a b : F32) : Bool := !(f32Bad a || f32Bad b) && decide (f32ToRat a < f32ToRat b)

/-- A walk's working state (R226). -/
structure WalkSt where
  pc : Nat
  lc : Tab LoopCtr
  va : List F32
  stack : List Nat
  effects : List Effect
  /-- The last ADMIT passed: window, priority, timeout address, and its own address (R237). -/
  admitted : Option (Nat × Nat × Nat × Nat)
  deriving DecidableEq, Repr

/-- One word of a walk that does not end it (R226, R230, R231). `cond` answers a BRANCH's condition. -/
def walkWord (cond : Nat → WalkSt → Bool) (w : Nat) (s : WalkSt) : WalkSt :=
  let o := swOp w
  if o = swLOOP then
    let c : LoopCtr := { count := bits w 23 0, opened := true, endless := bits w 23 0 == 0, body := s.pc + 1 }
    { s with pc := s.pc + 1, lc := tabInsert s.lc (bits w 26 24) c }
  else if o = swNEXT then
    let k := bits w 2 0
    let c := tabGet {} s.lc k
    let va := if bit w 3 then s.va.set (bits w 7 4) (f32Add (s.va.getD (bits w 7 4) 0) (s.va.getD (bits w 11 8) 0)) else s.va
    if c.endless then { s with pc := bits w 27 12, va := va }
    else if 1 < c.count then
      let c' : LoopCtr := { c with count := c.count - 1 }
      { s with pc := bits w 27 12, va := va, lc := tabInsert s.lc k c' }
    else { s with pc := s.pc + 1, lc := tabInsert s.lc k {} }
  else if o = swCALL then { s with pc := bits w 15 0, stack := (s.pc + 1) :: s.stack }
  else if o = swRET then { s with pc := s.stack.headD 0, stack := s.stack.tail }
  else if o = swJUMP then { s with pc := bits w 15 0 }
  else if o = swBRANCH then
    let t := cond w s
    { s with pc := if t != bit w 20 then bits w 15 0 else s.pc + 1 }
  else if o = swADMIT then { s with pc := s.pc + 1, admitted := some (bits w 23 0, bits w 25 24, bits w 41 26, s.pc) }
  else
    let reg (hi lo : Nat) : F32 := s.va.getD (bits w hi lo) 0
    let e : Effect := { word := w, a := if o = swFUNC then reg 7 4 else if o = swLIMIT then reg 4 1 else 0, b := if o = swLIMIT then reg 8 5 else 0 }
    { s with pc := s.pc + 1, effects := s.effects ++ [e] }

/-- A walk of at most `fuel` words (R226): the state at the word that ends it, none where the bound runs out. -/
def walkRun (fetch : Nat → Nat) (cond : Nat → WalkSt → Bool) : Nat → WalkSt → Option WalkSt
  | 0, _ => none
  | fuel + 1, s =>
    let w := fetch s.pc
    if swEndsWalk w then some s else walkRun fetch cond fuel (walkWord cond w s)

/-- B + x as binary32 computes it: x is rounded, then the sum (R195, R202; DEDUCED, log 5). -/
def f32Offset (b : F32) (x : Rat) : F32 :=
  let y := ratToF32 x
  if f32Bad y then y else ratToF32 (f32ToRat b + f32ToRat y)

/-- The greatest m below 2^bits with m^q * d at most n, its bits found from the highest down. -/
def rootFloor (n d q bits : Nat) : Nat :=
  (List.range bits).foldl (init := 0) fun m i => if (m + 2 ^ (bits - 1 - i)) ^ q * d ≤ n then m + 2 ^ (bits - 1 - i) else m

/-- A positive rational rounded to the 53 significant bits of binary64, ties to even. -/
def round53 (q : Rat) : Rat :=
  let e := ratLog2 q.num.natAbs q.den
  (roundEven (q * pow2 (52 - e)) : Rat) * pow2 (e - 52)

/-- A * (Z / A)^(k / m) for positive A and Z and k at most m, as binary64 holds it (R202, R204): the real value is the m-th root of
A^(m - k) * Z^k, found to 64 bits with an odd half where bits are left, and rounded once (DEDUCED, log 5). -/
def logLaw (a z : Rat) (k m : Nat) : Rat :=
  let g := max (Nat.gcd k m) 1
  let (k, m) := (k / g, m / g)
  let lo := min a z
  let hi := max a z
  let e := ratLog2 lo.num.natAbs lo.den
  let up := (64 - e).toNat
  let down := (e - 64).toNat
  let n := a.num.natAbs ^ (m - k) * z.num.natAbs ^ k * 2 ^ (up * m)
  let d := a.den ^ (m - k) * z.den ^ k * 2 ^ (down * m)
  let r := rootFloor n d m (66 + (ratLog2 hi.num.natAbs hi.den - e).toNat)
  let twice := 2 * r + (if r ^ m * d = n then 0 else 1)
  round53 ((twice : Rat) * pow2 (e - 65))

/-- The step value of a generated segment for sample j (R202..R206), the parameters P0 and P1 as the span started with them. A LOG
segment whose register values break R204 holds A in every step (R232). -/
def genSample (g : Segment) (p0 p1 : F32) (j : Nat) : F32 :=
  let q := j / g.dwell
  let k := if q < g.steps then q else 2 * g.steps - 2 - q
  let lin := f32Offset p0 ((k : Rat) * f32ToRat p1)
  if g.law = 0 then lin
  else if g.law = 1 then
    let a := f32ToRat p0
    let z := f32ToRat p1
    if 0 < a ∧ 0 < z then ratToF32 (logLaw a z k (g.steps - 1))
    else if a < 0 ∧ z < 0 then ratToF32 (-logLaw (-a) (-z) k (g.steps - 1))
    else p0
  else if g.law = 2 then if j % g.dwell < g.width then lin else g.params.getD 2 0
  else g.params.getD (k % g.listLen) 0

/-- Marker bits of a generated segment's sample j: M0 in bit 0, M1 in bit 1 (R206). -/
def genMarks (g : Segment) (j : Nat) : Nat :=
  flag (bit g.flags 0 && j % g.dwell == 0) 0 +
  flag (bit g.flags 1 && (if g.law = 2 then decide (j % g.dwell < g.width) else j == 0)) 1

/-- A stored or streamed sample's value (R195). -/
def sampleValue (g : Segment) (s : Int) : F32 :=
  f32Offset g.offset (f32ToRat g.scale * ((s : Rat) / 131072))

/-- Sample k of a galley line and its marker bits (R197). -/
def lineSample (line : List Byte) (k : Nat) : Int := toSigned 18 (bits (leNat line) (18 * k + 17) (18 * k))
def lineMarks (line : List Byte) (k : Nat) : Nat := bits (leNat line) (433 + 2 * k) (432 + 2 * k)

/-- CRC-8 of a galley line (R198). -/
def lineCrc (line : List Byte) : Nat := crc8From 0x2F 0xFF (line.take 63) ^^^ 0xFF

/-- A galley line's tag and CRC check (R200, R210): its segment ID, line sequence and CRC. -/
def lineOk (line : List Byte) (seg i : Nat) : Bool :=
  u16At line 60 == seg && byteAt line 62 == i % 256 && byteAt line 63 == lineCrc line

/-- L agrees with the generator's steps and dwell (R205). -/
def genLength (steps dwell : Nat) (ret : Bool) : Nat := if ret then (2 * steps - 1) * dwell else steps * dwell

end Sys2Proof.Machine
end

