-- ==== Sys2Proof/Machine/Imp.lean ====
section
/-! DEFINITION. The Impositor: zones, rails, admission, the die budget and the IM_ opcodes (R283..R317, R341, R343, R400..R402). -/

namespace Sys2Proof.Machine

/-! ### Shares (R341..R343) -/

def shareOfZone (z : Nat) : Nat := z
def shareOfRail (r : Nat) : Nat := 256 + r

/-- The zone and the rail of a channel that are in force for it. -/
def Device.zoneOf (d : Device) (ch : Nat) : Option Nat :=
  let z := (d.model ch).zone
  if z ≠ 0xFF && (d.zone z).enabled then some z else none
def Device.railOf (d : Device) (ch : Nat) : Option Nat :=
  let r := (d.model ch).rail
  if r ≠ 0xFF && (d.rail r).enabled then some r else none

/-- The device that judges a channel's requests: the owner of a share that the channel's zone or rail contributes to (R344). -/
def Device.remoteOwner (d : Device) (ch : Nat) : Option Nat :=
  let of (s : Share) : Option Nat := if s.role = 2 then some s.ownerDev else none
  match (d.zoneOf ch).bind fun z => of (d.share (shareOfZone z)) with
  | some o => some o
  | none => (d.railOf ch).bind fun r => of (d.share (shareOfRail r))

def Device.zoneChans (d : Device) (z : Nat) : List Nat := (d.imp.models.filter fun m => m.2.zone == z).map (·.1)
def Device.railChans (d : Device) (r : Nat) : List Nat := (d.imp.models.filter fun m => m.2.rail == r).map (·.1)

/-- Contributors' terms of a zone or rail (R342). -/
def Share.sum (s : Share) (f : Contrib → Rat) : Rat := if s.role = 1 then ratSum (s.contrib.map f) else 0

/-! ### Frame data (R287..R291, R297) -/

/-- The supply voltage of a channel: its rail's nominal voltage, or that of its model record (R287). -/
def Device.supply (d : Device) (ch : Nat) : Rat :=
  let m := d.model ch
  f32ToRat (if m.rail = 0xFF then m.vsup else (d.rail m.rail).volt)

/-- A channel's terms of this frame; missed upstream data leave the last valid ones (R287). -/
def Device.foldChan (d : Device) (ch : Nat) : Device :=
  let c := d.chan ch
  let c := match d.heldUp ch, d.desc? ch with
    | some u, some x =>
      let i := (u.rail : Rat) * f32ToRat x.railFs / 2048
      let v := d.supply ch
      { c with diss := v * i - c.frame.v * c.frame.i, draw := v * i }
    | _, _ => c
  d.setChan ch { c with dissSum := c.dissSum + c.diss, dissCnt := c.dissCnt + 1, drawSum := c.drawSum + c.draw, drawCnt := c.drawCnt + 1 }

/-- A front-end TEMP as a sensor reads it (R291): its value, whether a reading exists, and whether the link is out of service or silent. -/
def Device.feReading (d : Device) (l : Nat) : Option (Int × Bool) :=
  let x := d.link l
  match x.state with
  | .disabled => none
  | .up => match x.up with
    | some u => some (u.temp, u.tempOk && u.temp ≠ -2048 && u.temp ≠ 2047)
    | none => none
  | _ => some (0, false)

/-- The zone's ambient temperature (R288). -/
def Device.ambient (d : Device) (z : Zone) : Rat :=
  match z.ambSrc with
  | 0 => f32ToRat z.fixedAmb
  | 3 => d.imp.die.temp
  | _ => match z.ambient with | some s => (s.reading : Rat) / 16 | none => 0

def Device.modelTemp (d : Device) (z : Zone) : Rat := d.ambient z + ratSum z.dT

/-- The offset of a sensor (R290). -/
def Device.offsetOf (d : Device) (s : Sensor) : Rat :=
  match s.offset with
  | some o => f32ToRat o
  | none => if s.kind = 0 then (match (d.link s.index).desc with | some x => f32ToRat x.sensorOff | none => 0) else 0

/-- A threshold sensor reads its trip temperature while its comparator is tripped or UNSETTLED (R290). -/
def Device.tripped (d : Device) (s : Sensor) : Bool := (d.mon s.index).live || (d.mon s.index).unsettled

/-- What a sensor adds to the zone temperature (R289): its reading plus offset, Tmax where it is broken, nothing where it is out of service. -/
def Device.sensorTemp (d : Device) (z : Zone) (s : Sensor) : Option Rat :=
  if s.kind = 2 then (if d.tripped s then some (f32ToRat s.trip + d.offsetOf s) else none)
  else if s.kind = 0 && (d.link s.index).state == .disabled then none
  else if s.broken then some (f32ToRat z.tmax)
  else some ((s.reading : Rat) / 16 + d.offsetOf s)

/-- Contributors of a share as sensors of the owner's zone (R342, R343). -/
def Share.sensorTemps (s : Share) (tmax : Rat) : List Rat :=
  if s.role = 1 then s.contrib.map fun c => if c.broken || c.bad then tmax else c.temp else []

/-- The zone temperature (R289). -/
def Device.zoneTemp (d : Device) (zi : Nat) (z : Zone) : Rat :=
  let tmax := f32ToRat z.tmax
  let amb := match z.ambient with | some s => if s.broken then [tmax] else [] | none => []
  (z.sensors.filterMap (d.sensorTemp z) ++ amb ++ (d.share (shareOfZone zi)).sensorTemps tmax).foldl ratMax (d.modelTemp z)

/-- A sensor of the zone, or its ambient sensor, counts as broken. -/
def Device.sensorBad (d : Device) (zi : Nat) : Bool :=
  let z := d.zone zi
  let s := d.share (shareOfZone zi)
  (z.sensors.any fun s => s.broken && !(s.kind == 0 && (d.link s.index).state == .disabled)) ||
  (match z.ambient with | some s => s.broken | none => false) || (s.role == 1 && s.contrib.any fun c => c.broken || c.bad)

/-- A front-end heatsink sensor is sampled (R290, R291). -/
def Device.sampleFe (d : Device) (est : Rat) (s : Sensor) : Sensor :=
  if s.kind = 0 then (match d.feReading s.index with | some (v, ok) => s.sample d.time.now v ok est | none => s) else s

/-- A zone in the budget phase (R287, R288): dissipation, the network, its sensors of every frame, and θ. -/
def Device.foldZone (d : Device) (zi : Nat) : Device :=
  let z := d.zone zi
  if !z.enabled then d
  else
    let p := ratSum ((d.zoneChans zi).map fun ch => (d.chan ch).diss) + (d.share (shareOfZone zi)).sum (·.q)
    let est := d.modelTemp z
    let z := { z with power := p, dT := z.step z.dT d.period p, sensors := z.sensors.map (d.sampleFe est), ambient := z.ambient.map (d.sampleFe est) }
    let z := { z with thetaM := d.modelTemp z, theta := d.zoneTemp zi z }
    d.setZone zi { z with sum := z.sum + z.theta, cnt := z.cnt + 1 }

/-- A rail's measured draw of this frame (R297). -/
def Device.foldRail (d : Device) (ri : Nat) : Device :=
  let r := d.rail ri
  if !r.enabled then d
  else
    let p := ratSum ((d.railChans ri).map fun ch => (d.chan ch).draw) + (d.share (shareOfRail ri)).sum (·.r)
    d.setRail ri { r with sum := r.sum + p, cnt := r.cnt + 1 }

/-- A contributor's window sums (R342). -/
def Device.foldShares (d : Device) : Device :=
  d.each (d.imp.shares.map (·.1)) fun d i =>
    let s := d.share i
    if s.role ≠ 2 then d
    else
      let l := if i < 256 then d.zoneChans i else d.railChans (i - 256)
      d.setShare i { s with sumQ := s.sumQ + ratSum (l.map fun ch => (d.chan ch).diss), sumR := s.sumR + ratSum (l.map fun ch => (d.chan ch).draw),
                            cnt := s.cnt + 1 }

/-- A broken heatsink reading suspends the channel's calibration until the sensor has read validly for 10 s (R134). -/
def Device.foldHold (d : Device) (ch : Nat) : Device :=
  let c := d.chan ch
  let l := d.linkOf ch
  let attached := d.imp.zones.any fun z => z.2.sensors.any fun s => s.kind == 0 && s.index == l && s.broken
  let reading := match d.feReading l with | some (_, ok) => d.linkUp l && !ok | none => false
  if attached || reading then
    d.setChan ch { c with cal := { (if c.cal.sensorHold then c.cal else c.cal.dropPartial) with sensorHold := true, validSince := d.time.now } }
  else if c.cal.sensorHold && decide (c.cal.validSince + 10 * secUnits ≤ d.time.now) then
    d.setChan ch { c with cal := { c.cal with sensorHold := false } }
  else d

/-! ### Ledger and forecast (R297, R301, R308) -/

/-- A committed span's bin in a frame. -/
def Committed.at (c : Committed) (frame : Nat) : Option Bin := c.profile.at c.start frame

/-- A channel has a granted span in force or committed (R297). -/
def Device.hasCommitted (d : Device) (ch : Nat) : Bool := d.imp.committed.any fun c => c.ch == some ch

/-- Base of a rail and of a zone: the last millisecond's means of the channels without a committed span (R297), without those of `excl`. -/
def Device.railBase (d : Device) (ri : Nat) (excl : List Nat) : Rat :=
  ratSum (((d.railChans ri).filter fun ch => !d.hasCommitted ch && !excl.contains ch).map fun ch => (d.chan ch).drawMean) +
    (d.share (shareOfRail ri)).sum (·.r)
def Device.zoneBase (d : Device) (zi : Nat) (excl : List Nat) : Rat :=
  ratSum (((d.zoneChans zi).filter fun ch => !d.hasCommitted ch && !excl.contains ch).map fun ch => (d.chan ch).dissMean) +
    (d.share (shareOfZone zi)).sum (·.q)

/-- Sum over spans of a term of the bin in force in a frame. -/
def binSum (cs : List Committed) (f : Bin → F32) (frame : Nat) : Rat :=
  cs.foldl (fun s c => match c.at frame with | some b => s + f32ToRat (f b) | none => s) 0

/-- The ledger of a rail in a frame, with candidates added (R297, R308). -/
def Device.ledger (d : Device) (ri : Nat) (cand : List Committed) (frame : Nat) : Rat :=
  d.railBase ri (cand.filterMap (·.ch)) + binSum ((d.imp.committed ++ cand).filter fun c => c.rails.contains ri) (·.peakR) frame

/-- A rail's usable capacities in W and A (R296). -/
def Rail.usableW (r : Rail) : Rat := (1 - f32ToRat r.reserve) * f32ToRat r.capW
def Rail.usableA (r : Rail) : Rat := (1 - f32ToRat r.reserve) * f32ToRat r.capA
def Rail.holds (r : Rail) (w : Rat) : Bool := decide (w ≤ r.usableW) && decide (w / f32ToRat r.volt ≤ r.usableA)

/-- The last frame of the spans being judged. -/
def spansEnd (cs : List Committed) : Nat := cs.foldl (fun m c => max m (c.start + c.profile.len)) 0

/-- Dissipations of the forecast's 256 steps: the base, and every span's mean over the step (R301; DEDUCED, log 39). -/
def Device.forecastPowers (d : Device) (zi : Nat) (cand : List Committed) (dt : Rat) : List Rat :=
  let cs := (d.imp.committed ++ cand).filter fun c => c.zones.contains zi
  let base := d.zoneBase zi (cand.filterMap (·.ch))
  let k := dt / d.period
  (List.range 256).map fun (j : Nat) =>
    base + ratSum (cs.map fun c => c.profile.meanHeat ((c.start : Rat) - (d.time.frame : Rat)) (k * (j : Rat)) (k * ((j + 1 : Nat) : Rat)))

/-- The forecast of a zone over look-ahead and candidates (R301). -/
def Device.forecastOf (d : Device) (zi : Nat) (cand : List Committed) : List Rat :=
  let z := d.zone zi
  let h := ratMax (f32ToRat z.look) (((spansEnd cand - d.time.frame : Nat) : Rat) * d.period)
  let dt := h / 256
  z.forecast (d.ambient z) (ratMax 0 (z.theta - z.thetaM)) dt z.dT (d.forecastPowers zi cand dt)

/-- The forecast peak F (R293). -/
def Device.forecastPeak (d : Device) (zi : Nat) : Rat := (spanOf (d.forecastOf zi [])).2

/-- The zones and rails that judge a request: the channel's, or for a contributor's request every own zone and rail that lists the device
(R344; DEDUCED, log 40). -/
def Device.requestZones (d : Device) (q : Request) : List Nat :=
  match q.origin with
  | none => (d.zoneOf q.ch).toList
  | some (dev, _) => (d.imp.shares.filter fun s => s.1 < 256 && s.2.role == 1 && (s.2.contrib.any fun c => c.dev == dev) && (d.zone s.1).enabled).map (·.1)
def Device.requestRails (d : Device) (q : Request) : List Nat :=
  match q.origin with
  | none => (d.railOf q.ch).toList
  | some (dev, _) => (d.imp.shares.filter fun s => 256 ≤ s.1 && s.2.role == 1 && (s.2.contrib.any fun c => c.dev == dev) && (d.rail (s.1 - 256)).enabled).map
      fun s => s.1 - 256

/-- The span that a request would commit from a start frame. -/
def Device.candidate (d : Device) (q : Request) (start : Nat) : Committed :=
  { id := q.id, ch := if q.origin.isSome then none else some q.ch, zones := d.requestZones q, rails := d.requestRails q, start := start,
    profile := q.profile }

/-- fits(set) (R308). -/
def Device.fits (d : Device) (set : List Committed) : Bool :=
  let frames := set.flatMap fun c => c.profile.boundaries c.start
  (dedup (set.flatMap (·.rails))).all (fun ri => frames.all fun f => (d.rail ri).holds (d.ledger ri set f)) &&
  (dedup (set.flatMap (·.zones))).all fun zi => (d.forecastOf zi set).all fun t => decide (t < f32ToRat (d.zone zi).tmax)

/-! ### Admission (R305..R309) -/

def Device.request? (d : Device) (id : Nat) : Option Request := d.imp.requests.find? fun q => q.id == id
def Device.setRequest (d : Device) (q : Request) : Device :=
  { d with imp := { d.imp with requests := d.imp.requests.map fun x => if x.id = q.id then q else x } }

/-- A request is allowed (R306). -/
def Device.allowed (d : Device) (q : Request) : Bool :=
  let st := (d.requestZones q).map (fun z => (d.zone z).state) ++ (d.requestRails q).map fun r => (d.rail r).state
  st.all (· ≠ 2) && (st.all (· ≠ 1) || decide (q.cls ≤ 1))

/-- The effective class (R305). -/
def Request.eff (q : Request) (now : Nat) : Nat := q.cls - (now - q.latch) / msUnits

/-- Order of judgement (R307): effective class, latch, channel. -/
def Request.before (now : Nat) (a b : Request) : Bool :=
  decide (a.eff now < b.eff now) || (a.eff now == b.eff now && (decide (a.latch < b.latch) || (a.latch == b.latch && decide (a.ch < b.ch))))
def insertReq (now : Nat) (x : Request) : List Request → List Request
  | [] => [x]
  | y :: l => if x.before now y then x :: y :: l else y :: insertReq now x l

/-- The start of a local or a contributor's span granted in this budget phase (R46, R307, R344). -/
def Device.startOf (d : Device) (q : Request) : Nat :=
  match q.origin with
  | none => max q.planned (d.time.frame + 3)
  | some _ => max q.planned (d.frameOfTick (d.tickOfFrame (d.time.frame + 4) + 48000 + 160 * d.time.n - 1))

/-- A grant (R297, R308, R309): the span is committed, DEFTO clears and CH_STATUS tells the start. -/
def Device.grant (d : Device) (q : Request) (start : Nat) : Device :=
  let c := d.candidate q start
  let d := (d.setRequest { q with granted := true, start := start })
  let d := { d with imp := { d.imp with committed := d.imp.committed ++ [c] } }
  if q.origin.isSome then d
  else d.onChan q.ch fun x => { x with lastGrant := d.tickOfFrame start, seq := { x.seq with defto := false } }

/-- Mean regenerated draw of a sinking span over an overlap in frames (R309). -/
def regenMean (p : Profile) (start lo hi : Nat) : Rat :=
  let fs := (p.boundaries start).filterMap fun f =>
    let a := max f lo
    let b := min (f + p.binLen) hi
    if a < b then (p.at start a).map fun x => (-f32ToRat x.meanR, ((b - a : Nat) : Rat)) else none
  let n := ratSum (fs.map (·.2))
  if n = 0 then 0 else ratSum (fs.map fun x => x.1 * x.2) / n

/-- A pair's grant (R309): both spans, the forecast credit and the paired-grant count of the rail. -/
def Device.grantPair (d : Device) (q m : Request) (ri : Nat) : Device :=
  let sq := d.startOf q
  let sm := d.startOf m
  let (s, ss) := if q.profile.load < 0 then (q, sq) else (m, sm)
  let lo := max sq sm
  let hi := min (sq + q.profile.len) (sm + m.profile.len)
  let d := (d.grant q sq).grant m sm
  let r := d.rail ri
  d.setRail ri { r with paired := (r.paired + 1) % 2 ^ 32, credits := r.credits ++ [(s.ch, regenMean s.profile ss lo hi, lo, hi)] }

/-- May a request be judged in this phase. -/
def Device.judgeable (d : Device) (q : Request) : Bool :=
  !q.granted && !q.timedOut && q.owner.isNone && decide (q.eligible ≤ d.time.frame) && decide (q.retry ≤ d.time.tick) && d.allowed q

/-- Evaluations of a budget phase (R307). -/
def evalsPer (n : Nat) : Nat := min 64 ((n + 24) / 25)

/-- One request in the order of R307: the device, and the evaluations used. -/
def Device.judgeRequest (order : List Nat) (acc : Device × Nat) (id : Nat) : Device × Nat :=
  let (d, used) := acc
  if evalsPer d.time.n ≤ used then acc
  else
    match d.request? id with
    | none => acc
    | some q =>
      if !d.judgeable q then acc
      else
        let c := d.candidate q (d.startOf q)
        let partner : Option (Request × Nat) :=
          match d.imp.pairing, c.rails with
          | true, ri :: _ =>
            (order.findSome? fun j =>
              match d.request? j with
              | some m =>
                if m.id ≠ q.id && (d.requestRails m).contains ri && decide ((m.profile.load < 0) ≠ (q.profile.load < 0)) && d.judgeable m then some (m, ri)
                else none
              | none => none)
          | _, _ => none
        match (match partner with | some (m, ri) => if d.fits [c, d.candidate m (d.startOf m)] then some (m, ri) else none | none => none) with
        | some (m, ri) => (d.grantPair q m ri, used + 1)
        | none =>
          if d.fits [c] then (d.grant q c.start, used + 1)
          else (d.setRequest { q with retry := d.time.tick + max 1600000 d.frameLen }, used + 1)

/-- Withdrawal for deferral timeout (R305): the context's DEFERRAL_TIMEOUT follows. -/
def Device.timeOuts (d : Device) : Device :=
  { d with imp := { d.imp with requests := d.imp.requests.map fun q =>
      if !q.granted && q.origin.isNone && decide (q.latch + unitsOf (f32ToRat (d.model q.ch).maxdef) ≤ d.time.tick) then { q with timedOut := true } else q } }

/-- Committed spans that have ended leave the ledger (R297), and a contributor's requests whose span has begun the order. -/
def Device.sweepCommitted (d : Device) : Device :=
  let live (c : Committed) := c.profile.endless || decide (d.time.frame < c.start + c.profile.len)
  { d with imp := { d.imp with
      committed := d.imp.committed.filter live
      requests := d.imp.requests.filter fun q => !(q.origin.isSome && q.granted && decide (q.start ≤ d.time.frame)) } }

/-- The admission part of a budget phase (R307). -/
def Device.admission (d : Device) : Device :=
  let d := d.timeOuts
  let order := (d.imp.requests.foldl (fun l q => insertReq d.time.tick q l) []).map (·.id)
  (order.foldl (Device.judgeRequest order) (d, 0)).1

/-- BUDGET_PHASE (R287, R288, R297, R307). -/
def Device.budgetPhase (d : Device) : Device :=
  if !d.blk bIMPOS || !d.time.started then d
  else
    let d := d.sweepCommitted
    let d := d.each d.usedChans Device.foldChan
    let d := d.each (d.imp.zones.map (·.1)) Device.foldZone
    let d := d.each (d.imp.rails.map (·.1)) Device.foldRail
    let d := d.each d.usedChans Device.foldHold
    let d := d.foldShares
    { d.admission with imp := { d.admission.imp with late := false } }

/-- BUDGET_PHASE_MISS (R51): nothing is admitted; pending requests wait and their deferral runs on. -/
def Device.budgetMiss (d : Device) : Device :=
  if !d.blk bIMPOS || !d.time.started then d
  else
    let d := d.raiseErr (errAt 49 0 6 none) d.time.now
    { d with imp := { d.imp with late := true } }

/-! ### Spans that stop early or are withdrawn (R293, R297, R298) -/

/-- A committed span leaves the ledger, with its credit. -/
def Device.uncommit (d : Device) (p : Committed → Bool) : Device :=
  let gone := (d.imp.committed.filter p).filterMap (·.ch)
  let rails := d.imp.rails.map fun r => (r.1, { r.2 with credits := r.2.credits.filter fun c => !gone.contains c.1 })
  { d with imp := { d.imp with committed := d.imp.committed.filter fun c => !p c, rails := rails } }

/-- A channel's requests are withdrawn, with every span of it that is committed and, where `begun` says so, has begun. -/
def Device.dropRequests (d : Device) (ch : Nat) (begun : Bool) : Device :=
  let d := d.uncommit fun c => c.ch == some ch && (begun || decide (d.time.frame < c.start))
  { d with imp := { d.imp with requests := d.imp.requests.filter fun q => q.origin.isSome || q.ch ≠ ch } }

/-- HOLD withdraws grants whose spans have not begun; they are pending again with their latch and class (R298). -/
def Device.withdrawGrants (d : Device) (p : Committed → Bool) : Device :=
  let out := (d.imp.committed.filter fun c => p c && decide (d.time.frame < c.start)).map (·.id)
  let d := d.uncommit fun c => out.contains c.id
  { d with imp := { d.imp with requests := d.imp.requests.map fun q => if out.contains q.id then { q with granted := false, start := 0 } else q } }

/-! ### States (R293..R298, R310, R316) -/

/-- The zone status word (R315); the rail's and the die's have its layout. -/
def Device.zoneWord (d : Device) (zi : Nat) : Nat :=
  let z := d.zone zi
  let pend := (d.imp.requests.filter fun q => !q.granted && (d.requestZones q).contains zi).length
  let valid (s : Sensor) := s.broken && s.validSince.isSome
  z.state + flag z.enabled 2 + flag z.cWarn 3 + flag z.cAct 4 + flag z.cPred 5 + flag z.cTmax 6 + flag (d.sensorBad zi) 7 +
  flag (z.sensors.any valid) 8 + flag (decide (0 < z.good)) 9 + flag (match z.ambient with | some s => s.broken | none => false) 10 +
  min 255 pend * 65536

def Device.railWord (d : Device) (ri : Nat) : Nat :=
  let r := d.rail ri
  let pend := (d.imp.requests.filter fun q => !q.granted && (d.requestRails q).contains ri).length
  r.state + flag r.enabled 2 + flag r.cWarn 3 + flag r.cAct 4 + min 255 pend * 65536

def Device.dieBad (d : Device) : Bool := d.imp.die.sensors.any fun s => s.2.broken
def Device.dieWord (d : Device) : Nat :=
  let x := d.imp.die
  x.state + flag true 2 + flag x.cWarn 3 + flag x.cAct 4 + flag d.dieBad 7

/-- Evaluations a millisecond apart that cover a release time. -/
def releaseCount (s : Rat) : Nat := max 1 (ceilF32 (s * 1000))

/-- The rate of rise over 100 ms (R293); the spec states none while no mean of 100 ms earlier exists: a free value (log 41). -/
def Device.riseOf (d : Device) (theta : Rat) (hist : List Rat) : Rat × Device :=
  match hist[99]? with | some old => ((theta - old) * 10, d) | none => d.freeRat

/-- Next state of a zone (R293), and the count of evaluations in which its release condition held. -/
def Zone.judge (z : Zone) (mean rho f : Rat) (bad : Bool) : Option Nat × Nat :=
  let tmax := f32ToRat z.tmax
  let warn := f32ToRat z.warn
  let act := f32ToRat z.act
  let n := releaseCount (f32ToRat z.release)
  if z.state ≠ 2 ∧ (act ≤ rho ∨ tmax ≤ mean ∨ bad) then (some 2, 0)
  else if z.state = 0 then (if warn ≤ rho ∨ tmax ≤ f then (some 1, 0) else (none, 0))
  else
    let fine : Bool := !bad && (if z.state = 1 then decide (rho < warn / 2) && decide (f < tmax - 1) else decide (rho < act / 2) && decide (mean < tmax - 2))
    if fine then (if n ≤ z.good + 1 then (some (z.state - 1), 0) else (none, z.good + 1)) else (none, 0)

/-- ZONE_EVALUATION (R293): a zone shared from another device follows its owner's state (R341, R342). -/
def Device.zoneEvaluation (d : Device) (zi : Nat) : Device :=
  let z := d.zone zi
  if !z.enabled then d
  else
    let d := d.each (d.zoneChans zi) fun d ch => d.onChan ch fun c =>
      if c.dissCnt = 0 then c else { c with dissMean := c.dissSum / (c.dissCnt : Rat), dissSum := 0, dissCnt := 0 }
    let mean : Rat := if z.cnt = 0 then z.theta else z.sum / (z.cnt : Rat)
    let (rho, d) := d.riseOf mean z.hist
    let f := d.forecastPeak zi
    let amb := z.ambient.map fun s => if s.revalidates d.time.now then s.revalidated else s
    let bad := d.sensorBad zi
    let (next, good) := z.judge mean rho f bad
    let far := (d.share (shareOfZone zi)).role == 2
    d.setZone zi { z with
      sum := 0, cnt := 0, hist := (mean :: z.hist).take 100, rho := rho, peak := f, ambient := amb
      cWarn := decide (f32ToRat z.warn ≤ rho), cAct := decide (f32ToRat z.act ≤ rho), cPred := decide (f32ToRat z.tmax ≤ f)
      cTmax := decide (f32ToRat z.tmax ≤ mean), next := if far then z.next else next, good := if far then 0 else good }

/-- A draw reaches a fraction of either capacity of a rail (R298). -/
def Rail.reaches (r : Rail) (w frac : Rat) : Bool :=
  decide (frac * f32ToRat r.capW ≤ w) || decide (frac * f32ToRat r.capA ≤ w / f32ToRat r.volt)

def Rail.judge (r : Rail) (w : Rat) (bad : Bool) : Option Nat × Nat :=
  let th := f32ToRat r.throttle
  if r.state ≠ 2 ∧ (r.reaches w 1 ∨ bad) then (some 2, 0)
  else if r.state = 0 then (if r.reaches w th then (some 1, 0) else (none, 0))
  else
    let fine : Bool := !bad && (if r.state = 1 then !r.reaches w (th - 5 / 100) else !r.reaches w (95 / 100))
    if fine then (if 10 ≤ r.good + 1 then (some (r.state - 1), 0) else (none, r.good + 1)) else (none, 0)

/-- RAIL_EVALUATION (R298); a silent contributor counts as HOLD (R343). -/
def Device.railEvaluation (d : Device) (ri : Nat) : Device :=
  let r := d.rail ri
  if !r.enabled then d
  else
    let d := d.each (d.railChans ri) fun d ch => d.onChan ch fun c =>
      if c.drawCnt = 0 then c else { c with drawMean := c.drawSum / (c.drawCnt : Rat), drawSum := 0, drawCnt := 0 }
    let w : Rat := if r.cnt = 0 then r.d else r.sum / (r.cnt : Rat)
    let s := d.share (shareOfRail ri)
    let bad := s.role == 1 && s.contrib.any (·.broken)
    let (next, good) := r.judge w bad
    let far := s.role == 2
    d.setRail ri { r with sum := 0, cnt := 0, d := w, cWarn := r.reaches w (f32ToRat r.throttle), cAct := r.reaches w 1
                          next := if far then r.next else next, good := if far then 0 else good }

/-- The fallback of R294 for the channels of a zone or rail that enters HOLD: judged on the frame value, parked from the frame after. -/
def Device.fallback (d : Device) (l : List Nat) (source sink : Nat) : Device :=
  d.each l fun d ch =>
    let c := d.chan ch
    let fb := if c.frame.v * c.frame.i < 0 then sink else source
    if c.armed && fb == 1 then d.park ch 4 d.nextTick else d

/-- A zone's state at the boundary just begun (R293, R294, R316). -/
def Device.zoneState (d : Device) (zi st : Nat) : Device :=
  let z := d.zone zi
  let d := d.setZone zi { z with state := st, next := none, good := 0 }
  if st = z.state then d
  else
    let d := if st = 2 then (d.withdrawGrants fun c => c.zones.contains zi).fallback (d.zoneChans zi) z.fbSource z.fbSink else d
    d.notice z.owner 5 zi d.time.tick (le32 (d.zoneWord zi))

def Device.railState (d : Device) (ri st : Nat) : Device :=
  let r := d.rail ri
  let d := d.setRail ri { r with state := st, next := none, good := 0 }
  if st = r.state then d
  else
    let d := if st = 2 then (d.withdrawGrants fun c => c.rails.contains ri).fallback (d.railChans ri) r.fbSource r.fbSink else d
    d.notice r.owner 5 (256 + ri) d.time.tick (le32 (d.railWord ri))

def Device.dieState (d : Device) (st : Nat) : Device :=
  let old := d.imp.die.state
  let d := { d with imp := { d.imp with die := { d.imp.die with state := st, next := none, good := 0 } } }
  if st = old then d else d.notice 0 5 64 d.time.tick (le32 d.dieWord)

/-- A contributor's share state reaches its zone or rail at the boundary just begun (R342, R343). -/
def Device.shareStates (d : Device) : Device :=
  d.each (d.imp.shares.map (·.1)) fun d i =>
    let s := d.share i
    let st := if s.silent then 2 else s.state
    if s.role ≠ 2 || st == s.lastState then d
    else
      let d := d.setShare i { s with lastState := st }
      if i < 256 then (if (d.zone i).enabled then d.zoneState i st else d)
      else if (d.rail (i - 256)).enabled then d.railState (i - 256) st else d

/-- Zones and rails, by share index, whose state changes at the boundary just begun. -/
def Device.imposed (d : Device) : List Nat :=
  ((d.imp.zones.filter fun z => z.2.next.isSome).map (·.1)) ++ (d.imp.rails.filter fun r => r.2.next.isSome).map fun r => 256 + r.1

/-- Every state entered since the last boundary takes effect (R293). -/
def Device.imposeStates (d : Device) : Device :=
  let d := d.each d.imposed fun d i =>
    if i < 256 then (match (d.zone i).next with | some st => d.zoneState i st | none => d)
    else match (d.rail (i - 256)).next with | some st => d.railState (i - 256) st | none => d
  let d := match d.imp.die.next with | some st => d.dieState st | none => d
  d.shareStates

/-! ### The die (R310..R312) -/

/-- One on-die sensor is sampled; one that breaks raises bit 59 (R310). -/
def Device.dieSample (d : Device) (i : Nat) (r : Reading) : Device :=
  let base : Sensor := { kind := 3, index := i, offset := none, trip := 0 }
  let s := tabGet base d.imp.die.sensors i
  let s' := s.sample d.time.now r.value r.ok d.imp.die.temp
  let s' := if s'.revalidates d.time.now then s'.revalidated else s'
  let d := { d with imp := { d.imp with die := { d.imp.die with sensors := tabSet base d.imp.die.sensors i s' } },
                    aon := { d.aon with dieSensors := tabSet noReading d.aon.dieSensors i r } }
  if s'.broken && !s.broken then d.raiseErr (errAt 59 0 11 none) d.time.now else d

/-- A remote diode is sampled: for SMBus, and for each zone that uses it (R290, R377). -/
def Device.diodeSample (d : Device) (i : Nat) (r : Reading) : Device :=
  let dx : List Int := d.aon.hourDx.zipIdx.map fun (x : Int × Nat) => if x.2 = i ∧ r.ok then max x.1 r.value else x.1
  let d : Device := { d with aon := { d.aon with diodes := tabSet noReading d.aon.diodes i r, hourDx := dx } }
  d.each (d.imp.zones.map (·.1)) fun d zi =>
    let z := d.zone zi
    let est := d.modelTemp z
    let f (s : Sensor) : Sensor := if s.kind = 1 ∧ s.index = i then s.sample d.time.now r.value r.ok est else s
    d.setZone zi { z with sensors := z.sensors.map f, ambient := z.ambient.map f }

/-- Next state of the die budget (R310). -/
def DieUnit.judge (x : DieUnit) (rho : Rat) (bad : Bool) : Option Nat × Nat :=
  let warn := f32ToRat x.warn
  let act := f32ToRat x.act
  let n := releaseCount (f32ToRat x.release)
  if x.state ≠ 2 ∧ act ≤ rho then (some 2, 0)
  else if x.state = 0 then (if warn ≤ rho ∨ bad then (some 1, 0) else (none, 0))
  else
    let fine : Bool := if x.state = 1 then decide (rho < warn / 2) && !bad else decide (rho < act / 2)
    if fine then (if n ≤ x.good + 1 then (some (x.state - 1), 0) else (none, x.good + 1)) else (none, 0)

/-- DIE_EVALUATION (R310): readings 0..47 are the on-die sensors, 48..51 the remote diodes, one evaluation a millisecond (DESIGN CHOICE,
log 42). The die temperature is the hottest valid sensor; a die shutdown ends once every sensor reads below 115 °C (R312). -/
def Device.dieEvaluation (d : Device) (sensors : List Reading) : Device :=
  if !d.running || !d.blk bSENSORS then d
  else
    let d := ((sensors.take 48).zipIdx).foldl (fun d r => d.dieSample r.2 r.1) d
    let d := (((sensors.drop 48).take 4).zipIdx).foldl (fun d r => d.diodeSample r.2 r.1) d
    let broken (i : Nat) : Bool := match tabFind d.imp.die.sensors i with | some s => s.broken | none => false
    let live := ((List.range 48).filter fun i => !broken i && (tabGet noReading d.aon.dieSensors i).ok).map fun i =>
      (((tabGet noReading d.aon.dieSensors i).value : Int) : Rat) / 16
    let temp := match live with | [] => d.imp.die.temp | t :: l => l.foldl ratMax t
    let x := d.imp.die
    let (rho, d) := d.riseOf temp x.hist
    let (next, good) := x.judge rho d.dieBad
    let cool := (List.range 48).all fun i => decide ((tabGet noReading d.aon.dieSensors i).value < 115 * 16)
    let t16 := (temp * 16).floor
    let a := d.aon
    let first := a.hourCount = 0
    { d with
      imp := { d.imp with die := { x with temp := temp, hist := (temp :: x.hist).take 100, rho := rho, cWarn := decide (f32ToRat x.warn ≤ rho),
                                          cAct := decide (f32ToRat x.act ≤ rho), next := next, good := good, shutdown := x.shutdown && !cool } }
      aon := { a with hourMin := if first then t16 else min a.hourMin t16, hourMax := if first then t16 else max a.hourMax t16,
                      hourSum := a.hourSum + t16, hourCount := a.hourCount + 1,
                      hotSeconds := if a.hourCount % 1000 = 0 ∧ 100 < temp then a.hotSeconds + 1 else a.hotSeconds } }

/-- SENSOR_REVALIDATED (R292): the sensor at a position of a zone has read validly for 10 s; calibration of its channel resumes (R134). -/
def Device.sensorRevalidated (d : Device) (zi pos : Nat) : Device :=
  let z := d.zone zi
  match z.sensors[pos]? with
  | none => d
  | some s =>
    if !s.revalidates d.time.now then d
    else
      let d := d.setZone zi { z with sensors := z.sensors.set pos s.revalidated }
      if s.kind = 0 then d.onCal (d.chanOfLink s.index) fun k => { k with sensorHold := false } else d

/-! ### The IM_ opcodes (R284, R286, R296, R299, R400..R402) -/

/-- A channel with a locked forme is bound to a zone or rail. -/
def Device.lockedOn (d : Device) (l : List Nat) : Bool := l.any fun ch => (d.chan ch).lockedForme

def imZoneStatic (c : Cmd) : List Check :=
  [match zoneRecordBad c.par with | some o => bad true o | none => bad false 0, bad (c.u8 0 ≠ c.idx) 0]

/-- The ambient sensor that a record names. -/
def ambientOf (l : List Byte) : Option Sensor :=
  let s (k : Nat) : Sensor := { kind := k, index := u16At l 4, offset := none, trip := 0 }
  match byteAt l 3 with | 1 => some (s 1) | 2 => some (s 0) | _ => none

/-- A zone record in force (R286, R288): enabling starts every rise at 0; a disabled zone is NORMAL. -/
def applyImZone (c : Cmd) (d : Device) : Device :=
  let old := d.zone c.idx
  let z := old.ofRecord c.par
  let amb := if z.ambSrc = old.ambSrc ∧ z.ambIdx = old.ambIdx then old.ambient else ambientOf c.par
  let z := { z with ambient := amb, good := 0 }
  let z := if z.enabled && !old.enabled then { z with dT := [0, 0, 0, 0], hist := [], sum := 0, cnt := 0, rho := 0, theta := d.ambient z, thetaM := d.ambient z } else z
  d.setZone c.idx (if z.enabled then z else { z with state := 0, next := none })

def runImZone (c : Cmd) (d : Device) : Res :=
  checked d (imZoneStatic c ++ [no (!bit (c.u8 1) 0 && (d.zone c.idx).enabled && d.lockedOn (d.zoneChans c.idx)) stBUSY])
    (let b := d.boundary c
     okBoundary (d.atBoundary .imZone c applyImZone) b)

def imRailStatic (c : Cmd) : List Check :=
  [match railRecordBad c.par with | some o => bad true o | none => bad false 0, bad (c.u8 0 ≠ c.idx - 256) 0]

def applyImRail (c : Cmd) (d : Device) : Device :=
  let r := { (d.rail (c.idx - 256)).ofRecord c.par with good := 0 }
  d.setRail (c.idx - 256) (if r.enabled then r else { r with state := 0, next := none })

def runImRail (c : Cmd) (d : Device) : Res :=
  let r := c.idx - 256
  checked d (imRailStatic c ++ [no (!bit (c.u8 1) 0 && (d.rail r).enabled && d.lockedOn (d.railChans r)) stBUSY])
    (let b := d.boundary c
     okBoundary (d.atBoundary .imRail c applyImRail) b)

/-- A channel's zone and rail, where shared from other devices, are of one owner, and none is local beside them (R341). -/
def Device.sharesAgree (d : Device) (zone rail : Nat) : Bool :=
  let own (i : Nat) : Option Nat := if (d.share i).role = 2 then some (d.share i).ownerDev else none
  if zone = 0xFF ∨ rail = 0xFF then true else own (shareOfZone zone) == own (shareOfRail rail)

/-- IM_MODEL (R284, R299, R341). -/
def runImModel (c : Cmd) (d : Device) : Res :=
  let regen := match d.desc? c.idx with | some x => x.capRegen | none => false
  let z := c.u8 2
  let r := c.u8 3
  checked d [no (d.chan c.idx).lockedForme stLOCKED, (match modelRecordBad c.par regen with | some o => bad true o | none => bad false 0),
             bad (c.u16 0 ≠ c.idx) 0, no (z ≠ 0xFF && (d.zone z).owner ≠ c.env.fn) stBAD_TARGET, no (r ≠ 0xFF && (d.rail r).owner ≠ c.env.fn) stBAD_TARGET,
             badAny (!d.sharesAgree z r)]
    (ok (d.setModel c.idx ((d.model c.idx).ofRecord c.par)) [])

def imSensorStatic (c : Cmd) : List Check :=
  [bad (decide (2 < c.u8 0)) 0, bad (decide (1 < c.u8 1)) 1,
   bad (match c.u8 0 with | 0 => decide (511 < c.u16 2) | 1 => decide (3 < c.u16 2) | _ => decide (63 < c.u16 2)) 2,
   bad (decide (1 < c.u8 4)) 4, resv c.par [5, 6, 7], badF32 c.par 8, badF32 c.par 12, bad (c.u8 0 ≠ 2 && c.u32 12 ≠ 0) 12]

/-- IM_SENSOR (R290, R401). -/
def runImSensor (c : Cmd) (d : Device) : Res :=
  let z := d.zone c.idx
  let k := c.u8 0
  let i := c.u16 2
  let same (s : Sensor) : Bool := s.kind == k && s.index == i
  let held := z.sensors.any same
  let other := d.imp.zones.any fun x => x.1 ≠ c.idx && x.2.sensors.any same
  let owner := if k = 0 then some (d.chan (d.chanOfLink i)).owner else if k = 2 then some (d.mon i).owner else none
  let s : Sensor := { kind := k, index := i, offset := if k = 0 then (if c.u8 4 = 1 then some (c.f32 8) else none) else some (c.f32 8), trip := c.f32 12 }
  if c.u8 1 = 1 then
    checked d (imSensorStatic c ++ [bad (!held) 2]) (ok (d.setZone c.idx { z with sensors := z.sensors.filter fun x => !same x }) [])
  else
    checked d (imSensorStatic c ++
        [no ((!held && decide (8 ≤ z.sensors.length)) || other) stBUSY, no (match owner with | some f => f ≠ c.env.fn | none => false) stBAD_TARGET])
      (ok (d.setZone c.idx { z with
        sensors := if held then z.sensors.map fun x => if same x then { x with offset := s.offset, trip := s.trip } else x else z.sensors ++ [s] }) [])

/-- A sensor's reading as IM_STATUS gives it. -/
def Device.sensorWord (d : Device) (s : Sensor) : F32 :=
  if s.kind = 2 then (if d.tripped s then s.trip else f32NaN) else ratToF32 ((s.reading : Rat) / 16)

/-- The ledger's peak over the next second (R315): at now and at every bin boundary within it. -/
def Device.ledgerPeak (d : Device) (ri : Nat) : Rat :=
  let last := d.time.frame + (1 / d.period).floor.toNat
  let fs := (d.imp.committed.filter fun c => c.rails.contains ri).flatMap fun c => c.profile.boundaries c.start
  (spanOf ((d.time.frame :: fs.filter fun f => decide (d.time.frame ≤ f ∧ f < last)).map (d.ledger ri []))).2

/-- The forecast credit in force (R309, R315). -/
def Device.creditOf (d : Device) (ri : Nat) : Rat :=
  ratSum (((d.rail ri).credits.filter fun c => decide (d.time.frame < c.2.2.2)).map (·.2.1))

/-- IM_STATUS (R402). -/
def runImStatus (c : Cmd) (d : Device) : Res :=
  let f (q : Rat) := leF32 (ratToF32 q)
  if c.idx = 64 then ok d (le32 d.dieWord ++ f d.imp.die.temp ++ f d.imp.die.rho)
  else if 256 ≤ c.idx then
    let r := c.idx - 256
    ok d (le32 (d.railWord r) ++ f (d.rail r).d ++ f (d.ledgerPeak r) ++ f (d.creditOf r) ++ le32 (d.rail r).paired)
  else
    let z := d.zone c.idx
    ok d (le32 (d.zoneWord c.idx) ++ f z.theta ++ f z.thetaM ++ f z.rho ++ f z.peak ++
      ((List.range 8).map fun i => leF32 (match z.sensors[i]? with | some s => d.sensorWord s | none => f32NaN)).flatten)

def imPolicyStatic (c : Cmd) : List Check :=
  if c.scope = 1 then [f32Check c 0 (1 / 1000) 3600]
  else if c.scope = 0 then
    [bad (decide (1 < c.u8 0)) 0, resv c.par [1, 2, 3], f32Check c 4 (1 / 10) 100, f32Check c 8 (1 / 10) 200, bad (decide (c.rat 8 ≤ c.rat 4)) 8,
     f32Check c 12 (1 / 10) 60]
  else
    let kind := if c.idx < 64 then 0 else 1
    let n := c.u8 3
    [bad (c.u8 0 ≠ kind) 0, bad (c.u8 1 ≠ c.idx % 256) 1, bad (decide (2 < c.u8 2)) 2,
     bad (if c.u8 2 = 1 then decide (n < 1) || decide (15 < n) else n ≠ 0) 3, bad (decide (1024 ≤ c.u16 4) || (c.u8 2 ≠ 2 && c.u16 4 ≠ 0)) 4,
     bad (c.u8 2 ≠ 2 && c.u8 6 ≠ 0) 6, bad (c.u8 2 == 2 && decide ((if kind = 0 then 63 else 31) < c.u8 6)) 6, resv c.par [7],
     (match (List.range n).find? fun i => decide (1024 ≤ c.u16 (8 + 2 * i)) with | some i => bad true (8 + 2 * i) | none => bad false 0),
     resv c.par (offsets (8 + 2 * n) 63)]

/-- A share record in force (R341): contributors that stay keep what is known of them. -/
def Device.setShareRecord (d : Device) (c : Cmd) : Device :=
  let i := c.idx
  let old := d.share i
  let known (dev : Nat) : Contrib := match old.contrib.find? fun x => x.dev == dev with | some x => x | none => { dev := dev, at_ := d.time.now }
  let s : Share := { role := c.u8 2, ownerDev := c.u16 4, ownerIdx := c.u8 6,
                     contrib := (List.range (c.u8 3)).map fun k => known (c.u16 (8 + 2 * k)) }
  d.setShare i s

/-- IM_POLICY (R305, R309, R310, R341, R400). -/
def runImPolicy (c : Cmd) (d : Device) : Res :=
  if c.scope = 3 then
    checked d (imPolicyStatic c ++ [no (d.reg.state ≠ .registered) stNOT_READY]) (ok (d.setShareRecord c) [])
  else
    checked d (imPolicyStatic c)
      (if c.scope = 1 then ok (d.setModel c.idx { d.model c.idx with maxdef := c.f32 0 }) []
       else ok { d with imp := { d.imp with pairing := c.u8 0 == 1,
                                            die := { d.imp.die with warn := c.f32 4, act := c.f32 8, release := c.f32 12 } } } [])

end Sys2Proof.Machine
end

