-- ==== Sys2Proof/Machine/Galley.lean ====
section
/-! DEFINITION. Segments, the galley and streamed lines (R191..R217, R396). -/

namespace Sys2Proof.Machine

/-! ### Segment records (R196, R203) -/

def endlessLen : Nat := 0xFFFFFFFF

/-- Parameters of a generated record that are named, by law (R204). -/
def genParams (law m : Nat) : Nat := if law = 2 then 3 else if law = 3 then m else 2

/-- The first field of a segment record at fault (R191, R196, R203..R205). -/
def segRecordBad (l : List Byte) : Option Nat :=
  let kind := byteAt l 2
  let law := byteAt l 3
  let len := u32At l 4
  let d := u32At l 16
  let n := u32At l 20
  let w := u32At l 24
  let m := byteAt l 29
  let a := f32ToRat (f32At l 32)
  let z := f32ToRat (f32At l 36)
  if u16At l 0 = 0xFFFF then some 0
  else if 2 < kind then some 2
  else if (kind = 1 ∧ 3 < law) ∨ (kind ≠ 1 ∧ law ≠ 0) then some 3
  else match firstNonzero l (offsets 8 15) with
    | some o => some o
    | none =>
      if kind = 1 then
        if d < 1 ∨ 16777216 < d then some 16
        else if n < 1 ∨ 16777216 < n ∨ (law = 1 ∧ n < 2) then some 20
        else if (law = 2 ∧ (w < 1 ∨ d ≤ w)) ∨ (law ≠ 2 ∧ w ≠ 0) then some 24
        else if 7 < byteAt l 28 then some 28
        else if (law = 3 ∧ (m < 1 ∨ 8 < m)) ∨ (law ≠ 3 ∧ m ≠ 0) then some 29
        else match firstNonzero l [30, 31] with
          | some o => some o
          | none =>
            match (List.range 8).find? fun i => if i < genParams law m then f32Bad (f32At l (32 + 4 * i)) else u32At l (32 + 4 * i) ≠ 0 with
            | some i => some (32 + 4 * i)
            | none =>
              if law = 1 ∧ (a = 0 ∨ z = 0 ∨ (a < 0 ∧ 0 < z) ∨ (0 < a ∧ z < 0)) then some 32
              else if len ≠ genLength n d (bit (byteAt l 28) 2) ∨ len < 24 then some 4 else none
      else if !((len % 24 == 0 && decide (96 ≤ len ∧ len ≤ 4294967280)) || (kind == 2 && len == endlessLen)) then some 4
      else if f32Bad (f32At l 16) then some 16
      else if f32Bad (f32At l 20) then some 20
      else if (kind = 2 ∧ 2 < byteAt l 24) ∨ (kind = 0 ∧ byteAt l 24 ≠ 0) then some 24
      else firstNonzero l (offsets 25 63)

/-- The segment that a record defines. -/
def segOfRecord (l : List Byte) (fn : Nat) (blocks : List Nat) : Segment :=
  let kind := byteAt l 2
  let base : Segment := { fn := fn, kind := kind, law := byteAt l 3, len := u32At l 4, state := if kind = 0 then 0 else 1, blocks := blocks }
  if kind = 1 then
    { base with dwell := u32At l 16, steps := u32At l 20, width := u32At l 24, flags := byteAt l 28, listLen := byteAt l 29,
                params := (List.range 8).map fun i => f32At l (32 + 4 * i) }
  else { base with scale := f32At l 16, offset := f32At l 20, policy := byteAt l 24 }

/-- Lines of a stored segment written at least once. -/
def Segment.writtenCount (g : Segment) : Nat := g.written.foldl (fun s w => s + (w.2 + 1 - w.1)) 0

/-- The segment record as FM_STATUS returns it (R196). -/
def Segment.record (g : Segment) (id : Nat) : List Byte :=
  let count := if g.kind = 0 then g.writtenCount else if g.kind = 2 then g.consumed % 2 ^ 32 else 0
  let head := le16 id ++ [BitVec.ofNat 8 g.kind, BitVec.ofNat 8 g.law] ++ le32 g.len ++ [BitVec.ofNat 8 g.state, 0] ++ le16 g.locks ++ le32 count
  if g.kind = 1 then
    head ++ le32 g.dwell ++ le32 g.steps ++ le32 g.width ++ [BitVec.ofNat 8 g.flags, BitVec.ofNat 8 g.listLen, 0, 0] ++ (g.params.map leF32).flatten
  else padTo 64 (head ++ leF32 g.scale ++ leF32 g.offset ++ [BitVec.ofNat 8 g.policy])

/-! ### Galley blocks (R201) -/

/-- Held spans in rising order of address. -/
def insertSpan (x : Nat × Nat) : List (Nat × Nat) → List (Nat × Nat)
  | [] => [x]
  | y :: l => if x.1 < y.1 then x :: y :: l else y :: insertSpan x l

/-- The free gaps of a stretch between held spans in rising order, highest first. -/
def gapsIn (lo hi : Nat) : List (Nat × Nat) → List (Nat × Nat)
  | [] => if lo < hi then [(lo, hi)] else []
  | (a, z) :: l =>
    if a + z ≤ lo then gapsIn lo hi l
    else if hi ≤ a then (if lo < hi then [(lo, hi)] else [])
    else gapsIn (max lo (a + z)) hi l ++ if lo < a then [(lo, a)] else []

/-- Whole 4 KiB blocks of a gap. -/
def gapBlocks (g : Nat × Nat) : Nat := g.2 / 4096 - alignUp g.1 4096 / 4096

/-- Free gaps of the data space, highest first; those of ready regions where asked. -/
def Device.freeGaps (d : Device) (readyOnly : Bool) : List (Nat × Nat) :=
  let held := d.mem.spans.foldl (fun l s => insertSpan s l) []
  ((List.range 64).reverse.filter fun r => !readyOnly || bit d.ready.region r).flatMap fun r =>
    gapsIn (max descriptorTable (r * 2 ^ 28)) (min dataTop ((r + 1) * 2 ^ 28)) held

def Device.freeBlocks (d : Device) (readyOnly : Bool) : Nat := (d.freeGaps readyOnly).foldl (fun s g => s + gapBlocks g) 0

/-- The n highest free blocks of a list of gaps. -/
def takeBlocks : List (Nat × Nat) → Nat → List Nat
  | [], _ => []
  | g :: l, n =>
    let k := min n (gapBlocks g)
    ((List.range k).map fun i => (g.2 / 4096 - 1 - i) * 4096) ++ takeBlocks l (n - k)

/-- Blocks are held, or freed. -/
def Device.holdBlocks (d : Device) (bs : List Nat) : Device := { d with mem := { d.mem with spans := d.mem.spans ++ bs.map fun a => (a, 4096) } }
def Device.dropBlocks (d : Device) (bs : List Nat) : Device :=
  { d with mem := { d.mem with spans := d.mem.spans.filter fun s => !(s.2 == 4096 && bs.contains s.1) } }

/-- Address of a line of a stored segment, and the line as main memory holds it. -/
def Segment.lineAddr (g : Segment) (i : Nat) : Nat := g.blocks.getD (i / 64) 0 + 64 * (i % 64)
def Device.storedLine (d : Device) (g : Segment) (i : Nat) : List Byte := cellsRead d.store.mem (g.lineAddr i) 64

/-! ### FM_SEGMENT (R191..R201, R396) -/

/-- Disjoint intervals of line indices in rising order with one more (R196). -/
def addInterval (x : Nat × Nat) : List (Nat × Nat) → List (Nat × Nat)
  | [] => [x]
  | y :: l =>
    if x.2 + 1 < y.1 then x :: y :: l
    else if y.2 + 1 < x.1 then y :: addInterval x l
    else addInterval (min x.1 y.1, max x.2 y.2) l

/-- The segment that a command names: undefined is BAD_PARAM, another function's BAD_TARGET (R192, R394). -/
def Device.segChecks (d : Device) (c : Cmd) (id o : Nat) : List Check :=
  [bad (d.seg? id).isNone o, no (match d.seg? id with | some g => g.fn ≠ c.env.fn | none => false) stBAD_TARGET]

/-- Lines of an FM_SEGMENT WRITE packet. -/
def Cmd.lines (c : Cmd) : List (List Byte) := (List.range ((c.par.length - 8) / 64)).map fun k => (c.par.drop (8 + 64 * k)).take 64

/-- The first line of a packet that fails (R200). -/
def badLine (g : Segment) (id first : Nat) (ls : List (List Byte)) : Option Nat :=
  (ls.zipIdx.find? fun l => decide (g.len / 24 ≤ first + l.2) || !lineOk l.1 id (first + l.2)).map (·.2)

/-- Lines stored at their places. -/
def Device.storeLines (d : Device) (g : Segment) (first : Nat) (ls : List (List Byte)) : Device :=
  { d with store := { d.store with mem := ls.zipIdx.foldl (fun m l => cellsWrite m (g.lineAddr (first + l.2)) l.1) d.store.mem } }

def fmSegmentStatic (c : Cmd) : List Check :=
  if c.opf = 0 then [match segRecordBad c.par with | some o => bad true o | none => bad false 0]
  else if c.opf = 1 then [resv c.par [2, 3]] else if c.opf = 2 then [resv c.par [2, 3]] else []

/-- FM_SEGMENT (R193, R200, R201, R396). -/
def runFmSegment (c : Cmd) (d : Device) : Res :=
  let id := c.u16 0
  if c.opf = 0 then
    let n := if c.u8 2 = 0 then (c.u32 4 + 1535) / 1536 else 0
    checked d (fmSegmentStatic c ++
        [no (d.seg? id).isSome stBUSY, no (c.u8 2 == 0 && d.mem.outOfService) stNOT_READY,
         (decide (d.freeBlocks false < n), stBUSY, le32 (d.freeBlocks false)), no (decide (d.freeBlocks true < n)) stNOT_READY])
      (let bs := takeBlocks (d.freeGaps true) n
       ok ((d.holdBlocks bs).setSeg id (some (segOfRecord c.par c.env.fn bs))) (le32 n))
  else
    match d.seg? id with
    | none => checked d (fmSegmentStatic c) (refuse d (stBAD_PARAM, le32 0))
    | some g =>
      if c.opf = 1 then
        let ls := c.lines
        let first := c.u32 4
        checked d (fmSegmentStatic c ++ d.segChecks c id 0 ++
            [bad (g.kind ≠ 0) 0, no (g.state == 2) stLOCKED,
             (match badLine g id first ls with | some k => (true, stBAD_PARAM, le32 k) | none => (false, stBAD_PARAM, []))])
          (let g' := { g with written := addInterval (first, first + ls.length - 1) g.written }
           let g' := if g'.writtenCount = g.len / 24 then { g' with state := 1 } else g'
           ok ((d.storeLines g first ls).setSeg id (some g')) (le32 ls.length))
      else
        checked d (fmSegmentStatic c ++ d.segChecks c id 0 ++ [no (g.state == 2) stLOCKED]) (ok ((d.dropBlocks g.blocks).setSeg id none) [])

/-! ### FM_STREAM_BIND (R211) -/

/-- The segment that a ring carries. -/
def Device.carried (d : Device) (q : Nat) : Option Nat :=
  (d.seq.segments.find? fun s => match s.2 with | some g => g.ring == some q | none => false).map (·.1)

def fmStreamBindStatic (c : Cmd) : List Check := [resv c.par [2, 3], bad (decide (2 ^ 20 ≤ c.u32 4)) 4]

def runFmStreamBind (c : Cmd) (d : Device) : Res :=
  let id := c.u16 0
  let q := c.u32 4
  match d.seg? id with
  | none => checked d (fmStreamBindStatic c) (refuse d (stBAD_PARAM, le32 0))
  | some g =>
    let ringChecks : List Check :=
      if q = 0xFFFFF then []
      else [bad (d.ring? q).isNone 4, no (match d.ring? q with | some r => r.fn ≠ c.env.fn | none => false) stBAD_TARGET,
            bad (match d.ring? q with | some r => r.kind ≠ 5 | none => false) 4,
            no (match d.carried q with | some s => s ≠ id | none => false) stBUSY]
    checked d (fmStreamBindStatic c ++ d.segChecks c id 0 ++ [bad (g.kind ≠ 2) 0, no (g.state == 2) stLOCKED] ++ ringChecks)
      (let g' := if q = 0xFFFFF then { g with chan := none, ring := none, taken := [], inRing := [] }
                 else { g with chan := some c.idx, ring := some q, taken := [], inRing := [],
                               readPos := match d.ring? q with | some r => r.tailA | none => 0 }
       ok (d.setSeg id (some g')) [])

/-! ### Lines of a stream ring (R212..R216) -/

/-- Frames by which a line must be early (R213). -/
def Device.streamLead (d : Device) : Nat := max 4 ((400 + d.time.n - 1) / max d.time.n 1)

/-- The line that a streamed segment's play is at: lines before it lie in the past (R215). -/
def Device.lineInPlay (d : Device) (id : Nat) (g : Segment) : Nat :=
  match g.chan with
  | none => g.playBase
  | some ch =>
    match (d.chan ch).seq.span with
    | some s =>
      match s.kind with
      | .play k _ _ => if k = id then g.playBase + (d.time.frame - s.start) / 24 else g.playBase
      | _ => g.playBase
    | none => g.playBase

/-- One line of a packet (R212, R215): taken, discarded as bad, or skipped. -/
def Segment.takeLine (g : Segment) (id past now bytes : Nat) (last : Bool) (line : List Byte) : Segment :=
  let d := (byteAt line 62 + 256 - g.expect % 256) % 256
  let drop (g : Segment) : Segment := { g with inRing := g.inRing ++ [(none, true, bytes, last)] }
  if u16At line 60 ≠ id ∨ byteAt line 63 ≠ lineCrc line then drop { g with bad := sat32 (g.bad + 1) }
  else if 128 ≤ d then drop { g with skipped := sat32 (g.skipped + 1) }
  else
    let i := g.expect + d
    let g := { g with expect := i + 1 }
    if i < past then drop { g with skipped := sat32 (g.skipped + 1) }
    else { g with taken := g.taken ++ [{ index := i, at_ := now, bytes := line }], inRing := g.inRing ++ [(some i, false, bytes, last)] }

/-- Ring space at TAIL is freed line by line as far as lines are past or discarded. -/
def Device.freeStream (d : Device) (id : Nat) : Nat → Device
  | 0 => d
  | k + 1 =>
    match d.seg? id with
    | some g =>
      match g.ring, g.inRing with
      | some q, (_, true, n, last) :: rest => ((d.setSeg id (some { g with inRing := rest })).freeBytes q n last).freeStream id k
      | _, _ => d
    | none => d

/-- Whole packets that stand in the ring from the read position on (R212). -/
def Device.takePackets (d : Device) (id q : Nat) : Nat → Device
  | 0 => d
  | k + 1 =>
    match d.seg? id, d.ring? q with
    | some g, some r =>
      match r.skips.find? fun s => s.1 == g.readPos with
      | some s => (d.setSeg id (some { g with readPos := s.2, bad := sat32 (g.bad + ((s.2 + 2 ^ 32 - s.1) % 2 ^ 32) / 64) })).takePackets id q k
      | none =>
        if g.readPos = r.openPos then d
        else
          let blen := leNat (d.ringGet r g.readPos 4) % 2 ^ 24
          let n := blen / 64
          let past := d.lineInPlay id g
          let g' := (List.range n).foldl (init := g) fun g i =>
            g.takeLine id past d.time.now (64 + (if i = 0 then 4 else 0)) (i + 1 == n) (d.ringGet r (g.readPos + 4 + 64 * i) 64)
          (d.setSeg id (some { g' with readPos := (g.readPos + 4 + padded blen) % 2 ^ 32 })).takePackets id q k
    | _, _ => d

/-- After a doorbell of a stream ring the sequence unit takes its complete packets; a ring that was emptied holds no line. -/
def Device.streamArrive (d : Device) (q : Nat) : Device :=
  match d.carried q, d.ring? q with
  | some id, some r =>
    match d.seg? id with
    | some g =>
      let inside := decide ((g.readPos + 2 ^ 32 - r.tailA) % 2 ^ 32 ≤ r.level)
      let d := if inside then d else d.setSeg id (some { g with readPos := r.tailA, inRing := [], taken := [] })
      (d.takePackets id q (r.level / 4 + r.skips.length + 1)).freeStream id (r.level / 64 + 1)
    | none => d
  | _, _ => d

/-- A doorbell write with what follows from it: a stream ring's complete packets are taken (R213, R359). -/
def Device.doorbellWrite (d : Device) (f index value : Nat) (single : Bool) (bytes : List Byte) (t : Nat) : Device :=
  let d' := d.doorbell f index value single bytes t
  match d.ringAtDoorbell f index with
  | some q => d'.streamArrive q
  | none => d'

/-- Lines before an index lie in the past: their space is freed (R212). Lines of an abandoned play that had arrived were not consumed, and
only those that arrive later count as skipped (R217). -/
def Device.passLines (d : Device) (id before : Nat) (abandoned : Bool) : Device :=
  match d.seg? id with
  | none => d
  | some g =>
    let gone := g.taken.filter fun t => decide (t.index < before)
    if gone.isEmpty then d
    else
      let g' := { g with
        taken := g.taken.filter fun t => !decide (t.index < before)
        consumed := if abandoned then g.consumed else (g.consumed + gone.length) % 2 ^ 32
        inRing := g.inRing.map fun e => match e.1 with | some i => if i < before then (e.1, true, e.2.2.1, e.2.2.2) else e | none => e }
      (d.setSeg id (some g')).freeStream id (g'.inRing.length + 1)

/-- The sample of a frame is available (R213): its line is taken and was complete in time. -/
def Device.streamSample (d : Device) (g : Segment) (i frame : Nat) : Option (List Byte) :=
  (g.taken.find? fun t => t.index == i && decide (t.at_ ≤ d.tickOfFrame (frame - d.streamLead))).map (·.bytes)

/-- The next line of an endless segment that has not been consumed (R217), where `base` is the line of the next sample: a line is consumed
when its last sample has been supplied (R212), and lost lines never come (DEDUCED, log 124). -/
def Segment.nextLine (g : Segment) (base : Nat) : Nat :=
  match g.taken.find? fun t => decide (base ≤ t.index) with
  | some t => t.index
  | none => max base g.expect

/-- The play of a streamed segment is cut short or ends (R217): the next one begins at the line where it would have ended, or for an
endless segment at the next line that has not been consumed. -/
def Device.endPlay (d : Device) (id : Nat) : Device :=
  match d.seg? id with
  | none => d
  | some g =>
    if g.kind ≠ 2 then d
    else if g.len = endlessLen then
      d.setSeg id (some { g with playBase := g.nextLine (d.lineInPlay id g) })
    else
      let base := g.playBase + g.len / 24
      (d.setSeg id (some { g with playBase := base, expect := max g.expect base })).passLines id base true

end Sys2Proof.Machine
end

