-- ==== Sys2Proof/Machine/FormeMath.lean ====
section
/-! DEFINITION. What a forme can do, found from its words: the functions and setpoints with which each word is reached (R195, R304), and the
energy profiles of spans and windows (R302, R303). -/

namespace Sys2Proof.Machine

/-! ### Words -/

/-- Word `a` of a context's program, from the image or, where the program lies in main memory, from its blocks (R247). -/
def SeqCtx.fetch (x : SeqCtx) (mem : List Host.Cell) (a : Nat) : Nat :=
  if x.cache || x.blocks.isEmpty then imageWord x.image a else leNat (cellsRead mem (x.blocks.getD (a / 512) 0 + 8 * (a % 512)) 8)

def Device.word (d : Device) (ch a : Nat) : Nat := (d.chan ch).seq.fetch d.store.mem a

/-- The segment of a word that plays one. -/
def swSegId (w : Nat) : Option Nat := if swOp w = swPLAY ∨ swOp w = swGEN ∨ swOp w = swSTREAM then some (bits w 15 0) else none

/-- The kind of segment that a play word asks for (R246). -/
def swKind (w : Nat) : Nat := if swOp w = swGEN then 1 else if swOp w = swSTREAM then 2 else 0

/-- The priority class of a budgeted play word (R223). -/
def swBudgeted (w : Nat) : Option Nat :=
  if (swSegId w).isSome ∧ bit w 16 then some (bits w 18 17) else if swOp w = swHOLD ∧ bit w 30 then some (bits w 32 31) else none

/-- Wait value selector and register of a play word; a HOLD holds the setpoint in force (R223, R229). -/
def swWV (w : Nat) : Nat × Nat := if (swSegId w).isSome then (bits w 20 19, bits w 24 21) else (0, 0)

/-- Length of a play word's span in frames; none for an endless segment (R191, R223). -/
def Device.swLen (d : Device) (w : Nat) : Option Nat :=
  match swSegId w with
  | some id => match d.seg? id with | some g => if g.len = endlessLen then none else some g.len | none => none
  | none => some (bits w 23 0)

/-- P0 and P1 of a GEN word over the value registers (R223, R232). -/
def swParams (g : Segment) (w : Nat) (va : List F32) : F32 × F32 :=
  (if swOp w = swGEN ∧ bit w 25 then va.getD (bits w 29 26) 0 else g.params.getD 0 0,
   if swOp w = swGEN ∧ bit w 30 then va.getD (bits w 34 31) 0 else g.params.getD 1 0)

/-- The value is known only at run time: a HOLD of the setpoint or of a register, or a GEN that takes a parameter from one (R303). -/
def swRunTime (w : Nat) : Bool := (swOp w == swHOLD && bits w 25 24 ≠ 2) || (swOp w == swGEN && (bit w 25 || bit w 30))

/-! ### Values of spans (R195, R202..R206) -/

/-- Sample `j` of a stored segment as main memory holds it. -/
def Device.storedValue (d : Device) (g : Segment) (j : Nat) : F32 := sampleValue g (lineSample (d.storedLine g (j / 24)) (j % 24))

/-- Every value that a generated segment supplies, as runs in the order of its frames. -/
def genRuns (g : Segment) (p0 p1 : F32) : List (F32 × Nat) :=
  let v (j : Nat) := genSample g p0 p1 j
  (List.range (g.len / max g.dwell 1)).flatMap fun q =>
    if g.law = 2 then [(v (q * g.dwell), g.width), (v (q * g.dwell + g.width), g.dwell - g.width)] else [(v (q * g.dwell), g.dwell)]

/-- The value in force after a span (R303, R304): a streamed segment's last sample is not known, and the value before it is taken
(DESIGN CHOICE, log 43). -/
def Device.valueAfter (d : Device) (w : Nat) (va : List F32) (sp : F32) : F32 :=
  match swSegId w with
  | some id =>
    match d.seg? id with
    | some g =>
      if g.kind = 1 then let (p0, p1) := swParams g w va; genSample g p0 p1 (g.len - 1)
      else if g.kind = 0 then d.storedValue g (g.len - 1) else sp
    | none => sp
  | none => if swOp w = swHOLD then (match bits w 25 24 with | 0 => sp | 1 => va.getD (bits w 29 26) 0 | _ => 0) else sp

/-- The values of a play word's span as runs (R302); those of a streamed segment are the ends of its scale, by `streamEnds`. -/
def Device.spanRuns (d : Device) (w : Nat) (va : List F32) (sp : F32) : List (F32 × Nat) :=
  match swSegId w with
  | some id =>
    match d.seg? id with
    | some g =>
      if g.kind = 1 then let (p0, p1) := swParams g w va; genRuns g p0 p1
      else if g.kind = 0 then (List.range g.len).map fun j => (d.storedValue g j, 1) else []
    | none => []
  | none => [(d.valueAfter w va sp, bits w 23 0)]

/-- B - |S| and B + |S| (R195). -/
def streamEnds (g : Segment) : Rat × Rat :=
  let s := ratAbs (f32ToRat g.scale)
  (f32ToRat g.offset - s, f32ToRat g.offset + s)

/-! ### Reaching words (R195, R246, R303, R304) -/

/-- The setpoints that a channel keeps, one for each quantity that a function may force (R62, R63, R194). -/
structure Setpoints where
  v : F32
  i : F32
  r : F32
  p : F32
  deriving DecidableEq, Repr

/-- The setpoint of a function. -/
def Setpoints.get (s : Setpoints) (f : Nat) : F32 :=
  if f = fnFV ∨ f = fnFVZ then s.v else if f = fnFI then s.i else if f = fnCR then s.r else if f = fnCP then s.p else 0

/-- A value becomes the setpoint of a function (R194). -/
def Setpoints.put (s : Setpoints) (f : Nat) (x : F32) : Setpoints :=
  if f = fnFV ∨ f = fnFVZ then { s with v := x } else if f = fnFI then { s with i := x }
  else if f = fnCR then { s with r := x } else if f = fnCP then { s with p := x } else s

/-- The setpoints of a channel. -/
def Chan.setpoints (c : Chan) : Setpoints := { v := c.cfg.vset, i := c.cfg.iset, r := c.cfg.rset, p := c.cfg.pset }

/-- A point of the program with a function in force there, the setpoints, and whether a path from the entry reaches it; a point that only
a jump reaches keeps the setpoints of lock-up (R303). -/
structure Node where
  pt : Point
  func : Nat
  sp : Setpoints
  entry : Bool
  deriving DecidableEq, Repr

/-- The nodes after a word. -/
def Device.nodeNext (d : Device) (fetch : Nat → Nat) (va : List F32) (x : Node) : List Node :=
  let w := fetch x.pt.pc
  let f := if swOp w = swFUNC then bits w 2 0 else x.func
  let sp := if swIsPlay w && x.entry then x.sp.put x.func (d.valueAfter w va (x.sp.get x.func)) else x.sp
  match swSuccs w x.pt with
  | some l => l.map fun p => { pt := p, func := f, sp := sp, entry := x.entry }
  | none => []

/-- Every node that the program can reach, once each. -/
def Device.reach (d : Device) (fetch : Nat → Nat) (va : List F32) : Nat → List Node → List Node → List Node
  | 0, _, seen => seen
  | fuel + 1, todo, seen =>
    match todo with
    | [] => seen
    | x :: rest => if seen.contains x then d.reach fetch va fuel rest seen else d.reach fetch va fuel (d.nodeNext fetch va x ++ rest) (x :: seen)

/-- Functions that a forme may run: the configured one and those of its FUNC words (R195). -/
def formeFnSet (fetch : Nat → Nat) (n func : Nat) : Nat :=
  (List.range n).foldl (init := 2 ^ func) fun m a => if swOp (fetch a) = swFUNC then setBit m (bits (fetch a) 2 0) else m

/-- Before the first FUNC word any function of the set may run (R195). -/
def startNodes (fnSet : Nat) (sp : Setpoints) (entry : Bool) (a : Nat) : List Node :=
  ((List.range 8).filter fun f => bit fnSet f).map fun f => { pt := { pc := a, opens := [], calls := [] }, func := f, sp := sp, entry := entry }

/-! ### Profiles (R302, R303) -/

/-- A channel's load context for profiles (R300). -/
def Device.loadCtx (d : Device) (ch : Nat) : LoadCtx :=
  let c := d.chan ch
  match d.desc? ch with
  | some x => { m := d.model ch, vPos := c.limit x 0 true, vNeg := c.limit x 0 false, iPos := c.limit x 1 true, iNeg := c.limit x 1 false,
                regenMax := f32ToRat x.regenMax }
  | none => { m := d.model ch, vPos := 0, vNeg := 0, iPos := 0, iNeg := 0, regenMax := 0 }

/-- The profile of a play word's span run under a function, none where its load model has none (R300). -/
def Device.spanProfile (d : Device) (ch func w : Nat) (va : List F32) (sp : F32) : Option Profile :=
  let x := d.loadCtx ch
  let len := d.swLen w
  match (swSegId w).bind d.seg? with
  | some g =>
    if g.kind = 2 then let (a, b) := streamEnds g; streamProfile x func (len.getD (64 * 24)) a b len.isNone
    else profileOf x func g.len ((d.spanRuns w va sp).map fun r => (f32ToRat r.1, r.2)) false
  | none => profileOf x func (bits w 23 0) ((d.spanRuns w va sp).map fun r => (f32ToRat r.1, r.2)) false

/-- The largest terms of two profiles of one span under different functions. -/
def Profile.join (a b : Profile) : Profile :=
  let m (x y : F32) : F32 := if f32ToRat x < f32ToRat y then y else x
  { a with
    bins := (a.bins.zip b.bins).map fun z => { peakR := m z.1.peakR z.2.peakR, meanR := m z.1.meanR z.2.meanR,
                                               peakQ := m z.1.peakQ z.2.peakQ, meanQ := m z.1.meanQ z.2.meanQ } }

/-- The profile of a span that several paths reach: the largest terms of each (DEDUCED, log 44); none where a load model has none. -/
def joinProfiles (ps : List (Option Profile)) : Option (Option Profile) :=
  if ps.any (·.isNone) then none
  else match ps.filterMap id with
    | p :: l => some (some (l.foldl Profile.join p))
    | [] => some none

/-- A point on a path from an ADMIT within its window (R302, R303): the walk's registers, loops and calls where they are known, the
function, the setpoints, and the frames since the window began. -/
structure WinPt where
  pc : Nat
  lc : Tab LoopCtr
  va : List F32
  stack : List Nat
  func : Nat
  sp : Setpoints
  at_ : Nat
  deriving DecidableEq, Repr

/-- The points after a word of a path. A wait counts no frames; a BRANCH, a timeout and a NEXT whose count is not known go both ways. At
lock-up the registers stay as the image gives them (R303). -/
def Device.winNext (d : Device) (fetch : Nat → Nat) (lock : Bool) (p : WinPt) : List WinPt :=
  let w := fetch p.pc
  let o := swOp w
  let next : WinPt := { p with pc := p.pc + 1 }
  if o = swHALT then []
  else if swIsPlay w then
    match d.swLen w with
    | some n => [{ next with at_ := p.at_ + n, sp := p.sp.put p.func (d.valueAfter w p.va (p.sp.get p.func)) }]
    | none => []
  else if o = swWAIT then if bits w 34 11 = 0 then [next] else [next, { p with pc := bits w 50 35 }]
  else if o = swADMIT then [next, { p with pc := bits w 41 26 }]
  else if o = swBRANCH then [next, { p with pc := bits w 15 0 }]
  else if o = swFUNC then [{ next with func := bits w 2 0 }]
  else if o = swNEXT ∧ (tabFind p.lc (bits w 2 0)).isNone then [next, { p with pc := bits w 27 12 }]
  else
    let s : WalkSt := { pc := p.pc, lc := p.lc, va := p.va, stack := p.stack, effects := [], admitted := none }
    let t := walkWord (fun _ _ => true) w s
    [{ p with pc := t.pc, lc := t.lc, va := if lock then p.va else t.va, stack := t.stack }]

/-- The play words that paths within a window start, each with the point at which it does. -/
def Device.winSpans (d : Device) (fetch : Nat → Nat) (lock : Bool) (win : Nat) : Nat → List WinPt → List WinPt → List (Nat × WinPt) → List (Nat × WinPt)
  | 0, _, _, acc => acc
  | fuel + 1, todo, seen, acc =>
    match todo with
    | [] => acc
    | p :: rest =>
      if win ≤ p.at_ || seen.contains p then d.winSpans fetch lock win fuel rest seen acc
      else
        let w := fetch p.pc
        d.winSpans fetch lock win fuel (d.winNext fetch lock p ++ rest) (p :: seen) (if swIsPlay w then (w, p) :: acc else acc)

/-- Every path of a program ends by running out of frames, HALT or a point met before, so the bound on steps is never met. -/
def pathFuel : Nat := 2 ^ 40

/-- The flat profile of the spans of an ADMIT's window; none where a span's load model has none. -/
def Device.admitProfile (d : Device) (ch win : Nat) (spans : List (Nat × WinPt)) : Option Profile :=
  let ps := spans.map fun s => d.spanProfile ch s.2.func s.1 s.2.va (s.2.sp.get s.2.func)
  if ps.any (·.isNone) then none else some (flatProfile win (ps.filterMap id))

end Sys2Proof.Machine
end

