-- ==== Sys2Proof/Machine/SeqRun.lean ====
section
/-! DEFINITION. The sequence unit at run time: spans, walks, waits, jumps and what each frame does of them (R207..R217, R224..R245, R249). -/

namespace Sys2Proof.Machine

/-! ### Spans in time (R225, R228, R235) -/

/-- Frames that a wait for a grid tick lasts from frame `e` (R235). -/
def gridWait (per ph e : Nat) : Nat := (ph + per - e % per) % per

/-- The frame after a span that began, or begins, at frame `e`. -/
def Span.endFrom (s : Span) (e : Nat) : Option Nat :=
  match s.end_ with
  | some b => if b < e then none else some b
  | none =>
    match s.kind with
    | .grid per ph => some (e + gridWait per ph e)
    | .play _ _ _ | .hold _ => s.len.map (e + ·)
    | _ => none

/-- The frame at which what is in play ends: none while it is not known; a span that is over has ended at its wait's first frame. -/
def SeqCtx.curEnd (x : SeqCtx) : Option Nat :=
  match x.span with
  | some s => s.endFrom s.start
  | none => some x.waitFrom

/-- The first frame of a decided span, after the frame `e` in which the one before it ends: none while its grant is awaited (R237). -/
def Device.startAfter (d : Device) (e : Nat) (s : Span) : Option Nat :=
  let lb := max e s.start
  match s.request with
  | none => some lb
  | some id =>
    match d.request? id with
    | some q => if q.granted then some (max lb q.start) else none
    | none => some lb

/-- The first frame of the span at the head of the queue, where it is known. -/
def Device.headStart (d : Device) (x : SeqCtx) : Option Nat :=
  match x.queue, x.curEnd with
  | h :: _, some e => d.startAfter e h
  | _, _ => none

/-- Ends of the spans that are decided, in order, as far as they are known. -/
def Device.endsOf (d : Device) : Nat → List Span → List Nat
  | _, [] => []
  | e, s :: l =>
    match (d.startAfter e s).bind s.endFrom with
    | some b => b :: d.endsOf b l
    | none => []

/-- The frame at which the last decided span ends, none while it is not known. -/
def Device.lastEnd (d : Device) (x : SeqCtx) : Option Nat :=
  match x.curEnd with
  | none => none
  | some e => let l := d.endsOf e x.queue; if l.length = x.queue.length then some (l.getLastD e) else none

def SpanKind.isHalt : SpanKind → Bool
  | .halt _ _ => true
  | _ => false
def SpanKind.isPlay : SpanKind → Bool
  | .play _ _ _ | .hold _ => true
  | _ => false

/-- The span in play is a play span; otherwise the channel waits (R225). -/
def SeqCtx.playing (x : SeqCtx) : Bool := match x.span with | some s => s.kind.isPlay | none => false

/-- The endless segment in play, if it is one (R242). -/
def SeqCtx.endless (x : SeqCtx) : Bool := match x.span with | some s => s.kind.isPlay && s.len.isNone && s.end_.isNone | none => false

/-! ### Pre-staging (R209) -/

/-- Index of the declared target at a word. -/
def SeqCtx.targetOf (x : SeqCtx) (a : Nat) : Option Nat := (List.range (imageTargets x.image)).find? fun k => imageTarget x.image k == a

/-- Line at which the next play of a streamed segment begins (R212, R217): its first sample is supplied in the last frame of the play before. -/
def Device.nextBase (d : Device) (id : Nat) (g : Segment) : Nat :=
  match g.chan with
  | none => g.playBase
  | some ch =>
    match (d.chan ch).seq.span with
    | some s =>
      match s.kind with
      | .play k _ _ => if k = id then (if g.len = endlessLen then g.nextLine (g.playBase + (d.time.frame + 1 - s.start) / 24) else g.playBase + g.len / 24) else g.playBase
      | _ => g.playBase
    | none => g.playBase

/-- The play word at an address counts as pre-staged at this moment (R209). -/
def Device.stagedWord (d : Device) (ch a : Nat) : Bool :=
  let x := (d.chan ch).seq
  let w := d.word ch a
  match swSegId w with
  | none => true
  | some id =>
    match d.seg? id with
    | none => true
    | some g =>
      if g.kind = 1 then true
      else if g.kind = 0 then (match x.targetOf a with | some k => (tabFind x.prestaged (2 * k)).isSome | none => false)
      else
        let b := d.nextBase id g
        (g.taken.any fun t => t.index == b) && g.taken.any fun t => t.index == b + 1

/-- The span plays a stored segment whose lines must be fetched first (R236, R244). -/
def Device.slowSpan (d : Device) (ch a : Nat) : Bool := swOp (d.word ch a) == swPLAY && !d.stagedWord ch a

/-! ### Values (R63, R195, R232) -/

/-- A value held within the allowed values of R63 for a function. -/
def allowedSet (x : Option Desc) (f : Nat) (v : Rat) : Rat :=
  if f = fnCR then ratClamp (1 / 1000) 100000000 v
  else match x with
    | none => v
    | some y =>
      if f = fnFV ∨ f = fnFVZ then ratClamp (-y.maxFs 0) (y.maxFs 0) v
      else if f = fnFI then ratClamp (-y.maxFs 1) (y.maxFs 1) v
      else if f = fnCP then let m := y.maxFs 0 * y.maxFs 1; ratClamp (-m) m v
      else v

/-- A pattern brought within lo..hi: an infinity goes to its end, and for a NaN the nearest value is free (DESIGN CHOICE, log 6). -/
def Device.nearF32 (d : Device) (v : F32) (near : Rat → Rat) : F32 × Device :=
  if !f32Bad v then (let q := near (f32ToRat v); (if q = f32ToRat v then v else ratToF32 q, d))
  else if bits v.toNat 22 0 = 0 then (ratToF32 (near (if bit v.toNat 31 then -pow2 200 else pow2 200)), d)
  else let (q, d) := d.freeRat; (ratToF32 (near q), d)

/-- A clamped setpoint is counted for the segment that supplied it (R195, R216). -/
def Device.countClamp (d : Device) (id : Option Nat) : Device :=
  match id with
  | some k => match d.seg? k with | some g => d.setSeg k (some { g with clamped := sat32 (g.clamped + 1) }) | none => d
  | none => d

/-- The function in force in the next frame. -/
def Chan.fnNext (c : Chan) : Nat := c.seq.nextFn.getD c.cfg.func

/-- A setpoint that the sequence unit supplies at step 5 (R195, R207, R232): it becomes the setpoint of the function in force in the next frame. -/
def Device.supplySet (d : Device) (ch : Nat) (v : F32) : Device :=
  let c := d.chan ch
  let f := c.fnNext
  let (u, d) := d.nearF32 v (allowedSet (d.desc? ch) f)
  let d := if u = v then d else d.countClamp c.seq.supplied
  let s := if f = fnFV ∨ f = fnFVZ then 1 else if f = fnFI then 2 else if f = fnCR then 3 else if f = fnCP then 4 else 0
  d.onChan ch fun c => c.setSel s u

def Device.missSet (d : Device) (ch : Nat) : Device := d.onSeq ch fun x => { x with supplyMiss := true }

/-! ### Samples (R207..R216) -/

/-- A frame of a streamed segment without its sample (R214). -/
def Device.underrun (d : Device) (ch id : Nat) (g : Segment) : Device :=
  let x := (d.chan ch).seq
  let d := d.setSeg id (some { g with missed := sat32 (g.missed + 1) })
  let d : Device :=
    if x.under then d
    else { d with events := d.events ++ [{ ev := 128 + ch, stamp := d.nextTick, visible := d.time.frame + 2, win := d.nextTick }] }
  let d := d.onSeq ch fun x => { x with under := true, underPark := g.policy == 1, underFrames := d.nextTick :: x.underFrames }
  if g.policy = 2 then d.park ch 5 d.nextTick else d

/-- Sample `j` of the segment that plays, for the next frame. -/
def Device.supplySample (d : Device) (ch id : Nat) (p0 p1 : F32) (j : Nat) : Device :=
  match d.seg? id with
  | none => d
  | some g =>
    let d := d.onSeq ch fun x => { x with supplied := some id }
    let mark (m : Nat) (d : Device) : Device := d.onSeq ch fun x => { x with markNext := m }
    let fine (d : Device) : Device := d.onSeq ch fun x => { x with under := false, underPark := false }
    if g.kind = 1 then fine (mark (genMarks g j) (d.supplySet ch (genSample g p0 p1 j)))
    else if g.kind = 0 then
      let i := j / 24
      let d := fine (match ((d.chan ch).seq.buffer.find? fun t => t.index == i).map (·.bytes) with
        | some (b :: l) => mark (lineMarks (b :: l) (j % 24)) (d.supplySet ch (sampleValue g (lineSample (b :: l) (j % 24))))
        | _ => mark 0 (d.missSet ch))
      if j % 24 = 23 then d.onSeq ch fun x => { x with buffer := x.buffer.filter fun t => decide (i < t.index) } else d
    else
      let i := if j = 0 then d.nextBase id g else g.playBase + j / 24
      let d := match d.streamSample g i (d.time.frame + 1) with
        | some l => fine (mark (lineMarks l (j % 24)) (d.supplySet ch (sampleValue g (lineSample l (j % 24)))))
        | none => mark 0 (d.underrun ch id g)
      if j % 24 = 23 then d.passLines id (i + 1) false else d

/-- What a span supplies for the next frame, of which it is frame `j` (R207, R229). -/
def Device.supplySpan (d : Device) (ch : Nat) (s : Span) (j : Nat) : Device :=
  let quiet (d : Device) : Device := d.onSeq ch fun x => { x with markNext := 0, supplied := none, under := false, underPark := false }
  match s.kind with
  | .play id p0 p1 => d.supplySample ch id p0 p1 j
  | .hold (some v) => (quiet d).supplySet ch v
  | _ => quiet d

/-- The lines that a span starts with: those copied at lock-up, then those fetched ahead (R208, R209). -/
def SeqCtx.firstLines (x : SeqCtx) (s : Span) : List TakenLine :=
  let pre := match x.targetOf s.word with
    | some k => ((List.range 2).filterMap fun i => (tabFind x.prestaged (2 * k + i)).map fun b => ({ index := i, at_ := 0, bytes := b } : TakenLine))
    | none => []
  pre ++ if x.aheadFor = some s.word then x.ahead.filter fun t => !pre.any fun p => p.index == t.index else []

/-- The value that the channel holds while the span at the head of the queue awaits admission (R223, R229). -/
def Device.supplyWait (d : Device) (ch : Nat) (s : Span) : Device :=
  let d := d.onSeq ch fun x => { x with markNext := 0, supplied := none, under := false, underPark := false }
  match s.kind with
  | .play id p0 p1 =>
    match s.wv, d.seg? id with
    | 1, some g =>
      if g.kind = 1 then d.supplySet ch (genSample g p0 p1 0)
      else if g.kind = 0 then
        match ((d.chan ch).seq.firstLines s).find? fun t => t.index == 0 with
        | some t => if t.bytes.isEmpty then d.missSet ch else d.supplySet ch (sampleValue g (lineSample t.bytes 0))
        | none => d.missSet ch
      else match g.taken.find? fun t => t.index == d.nextBase id g with
        | some t => d.supplySet ch (sampleValue g (lineSample t.bytes 0))
        | none => d
    | 2, _ => d.supplySet ch s.wva
    | 3, _ => d.supplySet ch 0
    | _, _ => d
  | _ => d

/-! ### Walks (R226, R227, R233, R236, R237) -/

/-- The conditions that a walk in the frame's compute phase samples (R227, R233). -/
def Device.walkConds (d : Device) (ch : Nat) : Nat :=
  let c := d.chan ch
  flag (c.loop.compl ≠ .none) 1 + flag c.seq.defto 2 + flag c.cal.withheld 5 + flag (d.budgetState ch) 8

/-- A BRANCH's condition over the walk's event window, which ends at the tick of frame `f` (R233). -/
def Device.branchCond (d : Device) (ch f flags w : Nat) (s : WalkSt) : Bool :=
  let x := (d.chan ch).seq
  let inWin (t : Nat) : Bool := decide (x.winFrom ≤ t ∧ t < d.tickOfFrame f)
  let lc := tabGet {} s.lc (bits w 41 39)
  match bits w 19 16 with
  | 0 => d.events.any fun e => e.ev == bits w 30 21 && inWin e.win
  | 3 => x.underFrames.any inWin
  | 4 => x.clampFrames.any inWin
  | 6 => lc.opened && !lc.endless && lc.count == 1
  | 7 => f32Lt (s.va.getD (bits w 34 31) 0) (s.va.getD (bits w 38 35) 0)
  | k => bit flags k

/-- The function that is in force after the spans already decided. -/
def Chan.fnAfter (c : Chan) (effects : List Effect) : Nat :=
  ((c.seq.queue.flatMap (·.effects)) ++ effects).foldl (init := c.fnWait.getD c.cfg.func) fun f e => if swOp e.word = swFUNC then bits e.word 2 0 else f

/-- The function and the setpoints that will be in force when decided spans have run (R194, R228, R303). -/
def Device.setpointsThrough (d : Device) (ch : Nat) (l : List Span) : Nat × Setpoints :=
  let c := d.chan ch
  l.foldl (init := (c.fnWait.getD c.cfg.func, c.setpoints)) fun a s =>
    let f := s.effects.foldl (fun f e => if swOp e.word = swFUNC then bits e.word 2 0 else f) a.1
    match s.kind with
    | .play id p0 p1 => (match d.seg? id with
      | some g => (f, if g.kind = 1 then a.2.put f (genSample g p0 p1 (g.len - 1)) else if g.kind = 0 then a.2.put f (d.storedValue g (g.len - 1)) else a.2)
      | none => (f, a.2))
    | .hold (some v) => (f, a.2.put f v)
    | _ => (f, a.2)

/-- A request for admission (R237, R303, R305): its number. -/
def Device.makeRequest (d : Device) (ch cls planned : Nat) (p : Profile) (late : Bool) (win : Option Nat) : Nat × Device :=
  let id := d.imp.nextReq
  let q : Request := { id := id, ch := ch, cls := cls, latch := d.time.tick, planned := planned, eligible := d.time.frame + (if late then 1 else 0),
                       profile := p, window := win, owner := d.remoteOwner ch }
  (id, { d with imp := { d.imp with nextReq := id + 1, requests := d.imp.requests ++ [q] } })

/-- What a span plays (R223, R224, R234, R235). `inWin` says whether an event occurred in the walk's window. -/
def Device.kindOf (d : Device) (inWin : Nat → Bool) (w : Nat) (va : List F32) : SpanKind :=
  let o := swOp w
  if o = swHALT then .halt (bits w 1 0) (bits w 17 2)
  else if o = swHOLD then .hold (match bits w 25 24 with | 0 => none | 1 => some (va.getD (bits w 29 26) 0) | _ => some 0)
  else if o = swWAIT then .wait (bits w 9 0) (bit w 10 && inWin (bits w 9 0)) (bits w 34 11) (bits w 50 35)
  else if o = swSYNC then
    (if bits w 1 0 = 0 then .grid (bits w 25 2) (bits w 49 26) else if bits w 1 0 = 1 then .arm (bits w 5 2) else .barrier (bits w 7 2))
  else
    let id := bits w 15 0
    match d.seg? id with
    | some g => let (p0, p1) := swParams g w va; .play id p0 p1
    | none => .play id 0 0

/-- A LOG segment whose parameters break R204 at run time is counted once (R232). -/
def Device.countLog (d : Device) (k : SpanKind) : Device :=
  match k with
  | .play id p0 p1 =>
    match d.seg? id with
    | some g =>
      let a := f32ToRat p0
      let z := f32ToRat p1
      if g.kind = 1 ∧ g.law = 1 ∧ (a = 0 ∨ z = 0 ∨ (a < 0 ∧ 0 < z) ∨ (0 < a ∧ z < 0)) then d.countClamp (some id) else d
    | none => d
  | _ => d

/-- The request of a span that a walk decided to begin at `planned` (R237, R303). -/
def Device.askAdmission (d : Device) (ch : Nat) (st : WalkSt) (s : Span) : Span × Device :=
  let c := d.chan ch
  let w := d.word ch st.pc
  let f := c.fnAfter st.effects
  let sp := (d.setpointsThrough ch (c.seq.span.toList ++ c.seq.queue)).2
  let held (a : Nat) : Option Profile := (d.imp.profiles.find? fun p => p.ch == ch && p.word == a).bind (·.profile)
  let inWindow := match c.seq.window with | some (w0, n) => decide (s.start < w0 + n) | none => false
  match st.admitted with
  | some (win, prio, taddr, admitAt) =>
    if s.kind.isHalt then (s, d)
    else
      let zero := flatProfile win []
      let start : WinPt := { pc := st.pc, lc := st.lc, va := st.va, stack := st.stack, func := f, sp := sp, at_ := 0 }
      let (p, late) := match held admitAt with
        | some p => (p, false)
        | none => ((d.admitProfile ch win (d.winSpans (d.word ch) false win pathFuel [start] [] [])).getD zero, true)
      let (id, d) := d.makeRequest ch prio s.start p late (some win)
      ({ s with request := some id, admitted := some (win, taddr) }, d)
  | none =>
    match swBudgeted w with
    | some prio =>
      if inWindow then (s, d)
      else
        let p := if swRunTime w then d.spanProfile ch f w st.va (sp.get f) else held st.pc
        match p with
        | some p => let (id, d) := d.makeRequest ch prio s.start p (swRunTime w) none; ({ s with request := some id }, d)
        | none => (s, d)
    | none => (s, d)

/-- The word that a walk has reached becomes a decided span that begins at `start` at the earliest. -/
def Device.decideSpan (d : Device) (ch : Nat) (st : WalkSt) (vaBefore : List F32) (start : Nat) (inWin : Nat → Bool) : Device :=
  let w := d.word ch st.pc
  let kind := d.kindOf inWin w st.va
  let (wv, wr) := swWV w
  let s : Span := { kind := kind, word := st.pc, start := start, len := if kind.isPlay then d.swLen w else none, effects := st.effects,
                    vaBefore := vaBefore, next := st.pc + 1, wv := wv, wva := st.va.getD wr 0, budgeted := swBudgeted w, staged := d.stagedWord ch st.pc }
  let (s, d) := (d.countLog kind).askAdmission ch st s
  d.onSeq ch fun x => { x with queue := x.queue ++ [s], pc := if kind.isHalt then st.pc else st.pc + 1, lc := st.lc, va := st.va, stack := st.stack }

/-- How a walk fixes the start of what it decides: after the last span; in a continuation walk made in frame `f`, the spans before it and
the least start; from the entry at the not-before boundary (R227, R236, R244). -/
inductive WalkMode where
  | after (e : Nat)
  | continued (f : Nat) (least : Nat)
  | entry (f : Nat) (nb : Nat)
  deriving DecidableEq, Repr

/-- Memory read latency that PRF_PERTURB kind 2 adds for a channel, in reference periods (R497). -/
def Device.readDelay (d : Device) (ch : Nat) : Nat :=
  d.proof.perturbs.foldl (fun s p => if p.kind = 2 ∧ p.unit = ch then s + (p.amount + 9) / 10 else s) 0

/-- Frames that fetching words from main memory adds (R236, R497). -/
def Device.memWordDelay (d : Device) (ch : Nat) : Nat :=
  if (d.chan ch).seq.cache then 0 else (200 + d.readDelay ch + d.time.n - 1) / max d.time.n 1

/-- The earliest start of a decided span (R236, R244). -/
def Device.leastStart (d : Device) (ch a : Nat) : WalkMode → Nat
  | .after e => e
  | .continued f least =>
    let w := d.word ch a
    let e := match d.lastEnd (d.chan ch).seq with | some e => e | none => 0
    max (max e least) (if d.slowSpan ch a then f + 48 else if swIsPlay w then f + 1 + d.memWordDelay ch else f + 1)
  | .entry f nb => max nb (f + if d.slowSpan ch a then 48 else 17)

/-- A wait whose end was not known ends where the span decided by its continuation walk begins. -/
def SeqCtx.endWait (x : SeqCtx) (b : Nat) : SeqCtx :=
  match x.queue, x.span with
  | [], some s => if s.kind.isPlay || (s.endFrom s.start).isSome then x else { x with span := some { s with end_ := some b } }
  | _, _ => x

/-- A walk of a context as the compute phase of frame `f` makes it (R226, R233): its event window ends at the tick of frame `f`. -/
def Device.walkNow (d : Device) (ch f flags : Nat) (mode : WalkMode) : Device :=
  let x := (d.chan ch).seq
  let wEnd := d.tickOfFrame f
  match walkRun (d.word ch) (d.branchCond ch f flags) 257 { pc := x.pc, lc := x.lc, va := x.va, stack := x.stack, effects := [], admitted := none } with
  | none => d
  | some st =>
    let start := d.leastStart ch st.pc mode
    let inWin (ev : Nat) : Bool := d.events.any fun e => e.ev == ev && decide (x.winFrom ≤ e.win ∧ e.win < wEnd)
    let d := match mode with | .continued _ _ => d.onSeq ch fun x => x.endWait start | _ => d
    let d := d.decideSpan ch st x.va start inWin
    d.onSeq ch fun x => { x with walkDue := 0, winFrom := max x.winFrom wEnd, underFrames := x.underFrames.filter fun t => decide (wEnd ≤ t),
                                 clampFrames := x.clampFrames.filter fun t => decide (wEnd ≤ t) }

/-- SEQ_WALK (R227): the walk that a commit point called for completes. -/
def Device.seqWalk (d : Device) (ch : Nat) : Device :=
  let x := (d.chan ch).seq
  if x.state = .running ∧ x.walkDue = 1 then
    match d.lastEnd x with
    | some e => d.walkNow ch x.walkAt x.walkFlags (.after e)
    | none => d
  else d

/-- CONTINUATION_WALK (R236), as the compute phase of the frame in progress makes it; after a barrier the span begins two ticks on (R235). -/
def Device.continuationWalk (d : Device) (ch : Nat) : Device :=
  let x := (d.chan ch).seq
  let f := d.time.frame
  let least := match x.span with | some s => (match s.kind with | .barrier _ => f + 2 | _ => 0) | none => 0
  if x.state = .running ∧ x.walkDue = 2 then d.walkNow ch f (d.walkConds ch) (.continued f least) else d

/-! ### Waits (R234..R237) -/

/-- Is a wait in progress satisfied in the compute phase of the frame in progress: by its event, none, or by its timeout, the address. -/
def Device.waitOver (d : Device) (x : SeqCtx) : Option (Option Nat) :=
  let f := d.time.frame
  match x.span with
  | some s =>
    match s.kind with
    | .wait ev prior tmo taddr =>
      if s.end_.isSome || !x.queue.isEmpty || decide (f < s.start) then none
      else if prior || d.events.any (fun e => e.ev == ev && decide (d.tickOfFrame s.start ≤ e.win ∧ e.visible ≤ f)) then some none
      else if 0 < tmo ∧ s.start + tmo ≤ f then some (some taddr)
      else none
    | _ => none
  | none => none

/-- A wait that is over calls for its continuation walk. -/
def Device.judgeWait (d : Device) (ch : Nat) : Device :=
  let x := (d.chan ch).seq
  if x.walkDue = 2 then d
  else match d.waitOver x with
    | some none => d.onSeq ch fun x => { x with walkDue := 2, walkAt := d.time.frame }
    | some (some a) => d.onSeq ch fun x => { x with walkDue := 2, walkAt := d.time.frame, pc := a }
    | none => d

/-- WAIT_TIMEOUT (R234): no occurrence was stamped before tick e + TMO; the walk continues at TADDR. -/
def Device.waitTimeout (d : Device) (ch : Nat) : Device :=
  let x := (d.chan ch).seq
  if x.state ≠ .running ∨ x.walkDue = 2 then d
  else match d.waitOver x with
    | some (some a) => d.onSeq ch fun x => { x with walkDue := 2, walkAt := d.time.frame, pc := a }
    | _ => d

/-- DEFERRAL_TIMEOUT (R237): the request is withdrawn and the deferred span skipped; DEFTO, event 128 + k, and the walk continues at
TADDR after an ADMIT, else after the word. -/
def Device.deferralTimeout (d : Device) (ch : Nat) : Device :=
  let x := (d.chan ch).seq
  let out (s : Span) : Bool := match s.request with
    | some id => (match d.request? id with | some q => q.timedOut && !q.granted | none => false)
    | none => false
  match x.queue.find? out with
  | none => d
  | some s =>
    let d : Device := { d with imp := { d.imp with requests := d.imp.requests.filter fun q => some q.id ≠ s.request } }
    let d := d.onSeq ch fun x => { x with queue := x.queue.filter fun t => !out t, defto := true, walkDue := 2, walkAt := d.time.frame,
                                          pc := match s.admitted with | some a => a.2 | none => s.next }
    d.event (128 + ch) d.time.now

/-- A SYNC ARM in progress or next: its end is fixed as soon as a boundary at or after its start is armed for the slot (R235). -/
def Device.armEnd (d : Device) (slot e : Nat) : Option Nat :=
  match tabGet none d.arms slot with
  | some a => if a.release then (let b := d.frameOfTick (d.boundaryAt d.time.frame a.d); if e ≤ b then some b else none) else none
  | none => none

def Device.judgeArm (d : Device) (ch : Nat) : Device :=
  let x := (d.chan ch).seq
  let fix (e : Nat) (s : Span) : Span :=
    match s.kind, s.end_ with
    | .arm slot, none => (match d.armEnd slot e with | some b => { s with end_ := some b } | none => s)
    | _, _ => s
  d.onSeq ch fun x' => { x' with
    span := x.span.map fun s => fix s.start s
    queue := match x.queue with
      | [s] => (match d.headStart x with | some e => [fix e s] | none => x.queue)
      | l => l }

/-- The channel waits at a SYNC BARRIER of a group (R235). -/
def SeqCtx.atBarrier (x : SeqCtx) (g frame : Nat) : Bool :=
  match x.span with
  | some s => (match s.kind with | .barrier k => k == g && s.end_.isNone && decide (s.start ≤ frame) | _ => false)
  | none => false

/-- Does a forme hold a SYNC BARRIER word of a group (R235). -/
def Device.inBarrier (d : Device) (ch g : Nat) : Bool :=
  (List.range (imageW (d.chan ch).seq.image)).any fun a =>
    let w := d.word ch a; swOp w == swSYNC && bits w 1 0 == 2 && bits w 7 2 == g

/-- Barriers whose members all wait at this tick: each member's continuation walk is due, for a start two ticks on (R235). -/
def Device.judgeBarriers (d : Device) : Device :=
  let run := (d.chans.filter fun c => c.2.seq.state == .running).map (·.1)
  let groups := dedup (run.filterMap fun ch => match (d.chan ch).seq.span with
    | some s => (match s.kind with | .barrier g => if (d.chan ch).seq.walkDue = 2 then none else some g | _ => none)
    | none => none)
  d.each groups fun d g =>
    let members := run.filter fun ch => d.inBarrier ch g
    if members.all fun ch => (d.chan ch).seq.atBarrier g d.time.frame then
      d.each members fun d ch => d.onSeq ch fun x => { x with walkDue := 2, walkAt := d.time.frame }
    else d

/-! ### Jumps (R238..R242) -/

/-- The boundary at which a jump request would be taken, as far as it is planned, and whether it is the next boundary (R239..R242). -/
def Device.jumpPlan (d : Device) (ch : Nat) (j : Jump) : Option (Nat × Bool) :=
  let x := (d.chan ch).seq
  let dl := if j.staged then 1 else 48
  let ends : List Nat := match x.curEnd with | some e => (if x.span.isSome then [e] else []) ++ d.endsOf e x.queue | none => []
  let first (l : List Nat) : Option (Nat × Bool) := (l.find? fun b => decide (j.latch + dl ≤ b)).map fun b => (b, l.head? == some b)
  if x.endless then
    match x.span with
    | some s =>
      let next := s.start + 24 * ((d.time.frame - s.start) / 24 + 1)
      let least := max (j.latch + dl) next
      let b := s.start + 24 * ((least - s.start + 23) / 24)
      some (b, b == next)
    | none => none
  else if x.playing then first ends
  else
    let from_ := match x.span with | some s => s.start | none => x.waitFrom
    let b := max j.latch from_ + dl
    let waitEnd := match x.span with | some _ => x.curEnd | none => d.headStart x
    match waitEnd with
    | some e =>
      if e < b then
        (let l := e :: (if x.span.isSome then d.endsOf e x.queue else (d.endsOf x.waitFrom x.queue))
         match first l with | some r => some r | none => none)
      else some (b, true)
    | none => some (b, true)

/-- A jump request waits for its boundary (R238): the number of the first frame whose tick is at or after the latch instant. -/
def Device.latchFrame (d : Device) (t : Nat) : Nat :=
  if t ≤ d.time.tick then d.time.frame else d.time.frame + 1

/-- The reply that a pending FM_JUMP is owed once its boundary is planned (R240). -/
def Device.answerJump (d : Device) (ch : Nat) : Device :=
  match (d.chan ch).seq.jump with
  | some j =>
    if j.answered then d
    else match d.jumpPlan ch j with
      | some (b, next) =>
        let d := d.onSeq ch fun x => { x with jump := some { j with answered := true } }
        d.final? j.env (if next then stOK else stJUMP_DEFERRED) (le64 (d.tickOfFrame b))
      | none => d
  | none => d

/-- A pending jump is discarded (R249); an FM_JUMP that is not answered yet is refused (DEDUCED, log 45). -/
def Device.dropJump (d : Device) (ch : Nat) : Device :=
  match (d.chan ch).seq.jump with
  | some j =>
    let d := d.onSeq ch fun x => { x with jump := none }
    if j.answered then d else d.final? j.env stNOT_READY []
  | none => d

/-- A jump is taken at the next boundary (R239). -/
def Device.takeJump (d : Device) (ch : Nat) (j : Jump) : Device :=
  let x := (d.chan ch).seq
  let b := d.time.frame + 1
  let d := if j.answered then d else d.final? j.env stOK (le64 d.nextTick)
  let va := match x.queue with | h :: _ => h.vaBefore | [] => x.va
  let d := d.dropRequests ch false
  let d := d.onSeq ch fun x => { x with
    jump := none, queue := [], va := va, lc := [], stack := [], window := none, walkDue := 0, pc := j.target, lastJump := d.nextTick, stall := false
    span := x.span.map fun s => { s with end_ := some b } }
  d.decideSpan ch { pc := j.target, lc := [], va := va, stack := [], effects := [], admitted := none } va b fun _ => false

/-- The jump whose boundary comes next is taken in this compute phase. -/
def Device.judgeJump (d : Device) (ch : Nat) : Device :=
  match (d.chan ch).seq.jump with
  | some j =>
    match d.jumpPlan ch j with
    | some (b, _) => if b ≤ d.time.frame + 1 then d.takeJump ch j else d
    | none => d
  | none => d

/-! ### Stops (R217, R221, R244, R245) -/

/-- The play of a streamed segment in progress ends here. -/
def Device.endCurrent (d : Device) (ch : Nat) : Device :=
  match (d.chan ch).seq.span with
  | some s =>
    let d := match s.kind with | .play id _ _ => d.endPlay id | _ => d
    if s.len.isNone && s.kind.isPlay then d.uncommit fun c => c.ch == some ch && c.profile.endless else d
  | none => d

/-- The context leaves RUNNING (R221): no span, nothing decided, no jump, loops closed and stacks empty. -/
def Device.leaveRun (d : Device) (ch : Nat) (st : CtxState) (why : Nat) : Device :=
  let d := (d.endCurrent ch).dropJump ch
  let d := d.dropRequests ch (st == .stopped)
  d.onSeq ch fun x => { x with
    state := st, stop := why, span := none, queue := [], waiting := 0, lc := [], stack := [], walkDue := 0, window := none, stall := false
    eachStrobe := 0, eachMark := 0, under := false, underPark := false, supplyMiss := false, supplied := none, nextFn := none, markNext := 0
    buffer := [], ahead := [], aheadFor := none, retry := false }

/-- A hard park, ABORT or FM_STOP stops a RUNNING context (R221). -/
def Device.stopContext (d : Device) (ch why : Nat) : Device :=
  if (d.chan ch).seq.state = .running then d.leaveRun ch .stopped why else d

/-! ### Effects of words (R228) -/

/-- A limit from a register, brought within R63. -/
def Device.limitReg (d : Device) (ch q : Nat) (pos : Bool) (v : F32) : F32 × Device :=
  let fs := match d.desc? ch with | some x => x.maxFs q | none => pow2 120
  d.nearF32 v (if pos then ratClamp 0 fs else ratClamp (-fs) 0)

/-- One effect at the tick at which its span begins (R228). RANGE words have been queued before. -/
def Device.effect (d : Device) (ch : Nat) (e : Effect) : Device :=
  let w := e.word
  let o := swOp w
  let c := d.chan ch
  if o = swFUNC then
    let f := bits w 2 0
    let d := d.setFunction ch f
    if !bit w 3 then d
    else if f = fnFVZ then let (v, d) := d.nearF32 e.a (ratClamp 0 10); d.onChan ch fun c => { c with cfg := { c.cfg with z := v } }
    else if f = fnCP then
      let fs := match d.desc? ch with | some x => x.maxFs 0 | none => pow2 120
      let (v, d) := d.nearF32 e.a (ratClamp (pow2 (-126)) fs)
      d.onChan ch fun c => { c with cfg := { c.cfg with vfloor := v } }
    else d
  else if o = swLIMIT then
    let q := bits w 0 0
    let (p, d) := d.limitReg ch q true e.a
    let (n, d) := d.limitReg ch q false e.b
    d.onChan ch fun c => { c with cfg := if q = 0 then { c.cfg with vPos := some p, vNeg := some n } else { c.cfg with iPos := some p, iNeg := some n } }
  else if o = swTSET then d.onSeq ch fun x => { x with tsetNext := some (bits w 3 0) }
  else if o = swSTROBE then
    let m := 2 ^ bits w 3 0
    d.onSeq ch fun x => if bit w 4 then { x with eachStrobe := x.eachStrobe ||| m } else { x with onceStrobe := x.onceStrobe ||| m }
  else if o = swMARK then
    let m := bits w 1 0
    d.onSeq ch fun x => if bit w 2 then { x with eachMark := x.eachMark ||| m } else { x with onceMark := x.onceMark ||| m }
  else if o = swPOST then
    let d := d.notice c.owner 7 ch d.time.tick (le16 (bits w 15 0))
    if bit w 16 then d.cause c.owner 1 else d
  else if o = swSIGNAL then
    let d := d.event (bits w 9 0) d.time.tick
    { d with reg := { d.reg with outEvents := d.reg.outEvents ++ [bits w 9 0], outStamp := d.time.tick } }
  else if o = swAPERTURE then d.onChan ch fun c => c.setAperture (bits w 19 0 + 1) (bit w 20)
  else d

/-- Is the word a RANGE that must be queued (R228): MODE 0. -/
def Effect.isRange (e : Effect) : Bool := swOp e.word == swRANGE

/-- Of RANGE words for one quantity at one tick the later stands (R228). -/
def lastRanges : List Effect → List Effect
  | [] => []
  | e :: l => if e.isRange && l.any (fun x => x.isRange && bit x.word 0 == bit e.word 0) then lastRanges l else e :: lastRanges l

/-- A RANGE word as its span's first value is supplied (R99, R228): whether it could act. -/
def Device.queueRange (d : Device) (ch : Nat) (w : Nat) : Device × Bool :=
  let c := d.chan ch
  let q := bits w 0 0
  if bit w 1 then
    (d.onChan ch fun c => { c with range := if q = 0 then { c.range with autoV := true, loV := bits w 9 6, hiV := some (bits w 13 10), downV := 0 }
                                            else { c.range with autoI := true, loI := bits w 9 6, hiI := some (bits w 13 10), downI := 0 } }, true)
  else if c.range.queued.isSome then (d, false)
  else
    let want : RWant := { quantity := q, target := bits w 5 2, source := .word }
    (d.onChan ch fun c =>
      let r := { c.range with queued := some want }
      { c with range := if q = 0 then { r with autoV := false } else { r with autoI := false } }, true)

/-- The RANGE words of the span about to begin, in order; those that find the queue full stay. -/
def Device.queueRanges (d : Device) (ch : Nat) : List Effect → Device × List Effect
  | [] => (d, [])
  | e :: l =>
    if !e.isRange then let (d, rest) := d.queueRanges ch l; (d, e :: rest)
    else
      let (d', ok) := d.queueRange ch e.word
      if ok then d'.queueRanges ch l else (d, e :: l)

/-! ### The compute phase (step 5 of R43, R207, R227) -/

/-- FM_START takes effect in the compute phase of frame a (R221, R244). -/
def Device.startForme (d : Device) (ch : Nat) : Device :=
  let c := d.chan ch
  match c.seq.starting with
  | none => d
  | some (a, nb, env) =>
    if d.time.frame < a then d
    else
      let d := d.onSeq ch fun x => { x with starting := none }
      if c.arm ≠ .armed then d.final env stNOT_READY []
      else
        let va := imageVA c.seq.image
        let d := d.onSeq ch fun x => { x with
          state := .running, pc := imageEntry x.image, lc := [], va := va, stack := [], span := none, queue := [], jump := none, waiting := 0,
          waitFrom := 0, winFrom := d.time.tick, underFrames := [], clampFrames := [], walkDue := 0, window := none, stall := false, under := false,
          underPark := false, nextFn := none, buffer := [], ahead := [], aheadFor := none, retry := false }
        let d := d.walkNow ch d.time.frame (d.walkConds ch) (.entry d.time.frame nb)
        let b := match (d.chan ch).seq.queue with | s :: _ => s.start | [] => nb
        d.final env stOK (le64 (d.tickOfFrame b))

/-- A span that would begin outside the window that admitted it, and has no request of its own, makes one (R302). -/
def Device.askLate (d : Device) (ch hs : Nat) (h : Span) : Device :=
  let c := d.chan ch
  let inWindow := match c.seq.window with | some (w0, n) => decide (hs < w0 + n) | none => false
  match h.budgeted, h.request with
  | some prio, none =>
    if inWindow then d
    else
      let w := d.word ch h.word
      let sp := (d.setpointsThrough ch c.seq.span.toList).2
      let f := (d.setpointsThrough ch (c.seq.span.toList ++ [h])).1
      match d.spanProfile ch f w c.seq.va (sp.get f) with
      | some p =>
        let (id, d) := d.makeRequest ch prio hs p true none
        d.onSeq ch fun x => { x with queue := match x.queue with | s :: l => { s with request := some id } :: l | [] => [] }
      | none => d
  | _, _ => d

/-- The walk after the last decided span is called for from its commit point on (R227). -/
def Device.callWalk (d : Device) (ch : Nat) : Device :=
  let x := (d.chan ch).seq
  let halted : Bool := match x.queue.getLast? with | some s => s.kind.isHalt | none => false
  if x.walkDue ≠ 0 ∨ 2 ≤ x.queue.length ∨ halted then d
  else match d.lastEnd x with
    | some e => if e ≤ d.time.frame + 48 then d.onSeq ch fun x => { x with walkDue := 1, walkAt := d.time.frame, walkFlags := d.walkConds ch } else d
    | none => d

/-- What the next frame takes: from the span in play, or from the head of the queue where it begins with that frame (R207, R228, R229). -/
def Device.feed (d : Device) (ch : Nat) : Device :=
  let x := (d.chan ch).seq
  let n := d.time.frame + 1
  let past : Bool := match x.curEnd with | some e => decide (e ≤ n) | none => false
  if !past then
    match x.span with
    | some s => d.supplySpan ch s (n - s.start)
    | none => d
  else
    match x.queue with
    | [] => d.missSet ch
    | h :: rest =>
      match d.headStart x with
      | none => if n < h.start then d.supplySpan ch { h with kind := .hold none } 0 else d.supplyWait ch h
      | some hs =>
        if n < hs then (if n < h.start then d.supplySpan ch { h with kind := .hold none } 0 else d.supplyWait ch h)
        else
          let (d, left) := d.queueRanges ch (lastRanges h.effects)
          if left.any Effect.isRange then
            d.onSeq ch fun x => { x with queue := { h with effects := left, start := n + 1 } :: rest, stall := true, markNext := 0,
                                         stalls := if x.stall then x.stalls else sat32 (x.stalls + 1) }
          else
            let fn := left.foldl (fun (f : Option Nat) e => if swOp e.word = swFUNC then some (bits e.word 2 0) else f) none
            let d := d.onSeq ch fun x => { x with queue := { h with effects := left } :: rest, stall := false, nextFn := fn, buffer := x.firstLines h,
                                                  ahead := if x.aheadFor = some h.word then [] else x.ahead, aheadFor := none }
            d.supplySpan ch h 0

/-- A budgeted head that no window admits asks for itself before it would begin. -/
def Device.judgeHead (d : Device) (ch : Nat) : Device :=
  let x := (d.chan ch).seq
  match x.queue, d.headStart x with
  | h :: _, some hs => if hs ≤ d.time.frame + 1 then d.askLate ch hs h else d
  | _, _ => d

/-- The sequence unit's share of a channel's compute phase. -/
def Device.seqCompute (d : Device) (ch : Nat) : Device :=
  let d := (d.onSeq ch fun x => { x with supplyMiss := false, supplied := none }).startForme ch
  if (d.chan ch).seq.state ≠ .running then d
  else
    let d := (d.deferralTimeout ch).judgeArm ch
    let d := (d.judgeWait ch).judgeJump ch
    let d := d.continuationWalk ch
    let d := d.judgeArm ch
    let d := (d.judgeHead ch).callWalk ch
    (d.feed ch).answerJump ch

/-! ### The frame tick (R207, R221, R228) -/

/-- HALT at the tick at which the span before it ends (R224, R228). -/
def Device.haltTick (d : Device) (ch : Nat) : Device :=
  let x := (d.chan ch).seq
  if x.state ≠ .running then d
  else
    match x.queue, d.headStart x with
    | h :: _, some hs =>
      match h.kind with
      | .halt mode ramp =>
        if d.time.frame < hs ∨ h.effects.any Effect.isRange then d
        else
          let d := h.effects.foldl (fun d e => d.effect ch e) d
          let d := d.leaveRun ch .halted 4
          if mode = 1 then d.park ch 1 d.time.tick else if mode = 2 then d.softPark ch (ramp + 1) d.time.tick else d
      | _ => d
    | _, _ => d

def Device.haltTicks (d : Device) : Device := d.each d.usedChans Device.haltTick

/-- The span at the head of the queue begins at this tick (R207, R228, R237). -/
def Device.beginSpan (d : Device) (ch : Nat) (h : Span) (rest : List Span) : Device :=
  let n := d.time.frame
  let d := d.endCurrent ch
  let d := match h.request with
    | some id => { d with imp := { d.imp with requests := d.imp.requests.filter fun q => q.id ≠ id } }
    | none => d
  let d := d.onSeq ch fun x => { x with
    span := some { h with start := n, request := none, effects := [] }, queue := rest, waiting := 0, nextFn := none, eachStrobe := 0, eachMark := 0
    window := match h.admitted with | some a => some (n, a.1) | none => x.window }
  let d := h.effects.foldl (fun d e => d.effect ch e) d
  if h.kind.isPlay && (d.chan ch).cfg.apSeg then d.onChan ch fun c => { c with aper := { c.aper with cut := true } } else d

/-- A SYNC GRID that its start already satisfies is empty (R235): the span after it begins at once. -/
def Device.beginDue (d : Device) (ch : Nat) : Nat → Device
  | 0 => d
  | k + 1 =>
    let x := (d.chan ch).seq
    match x.queue, d.headStart x with
    | h :: rest, some hs =>
      if hs ≤ d.time.frame ∧ ¬ h.kind.isHalt ∧ ¬ h.effects.any Effect.isRange then (d.beginSpan ch h rest).beginDue ch k else d
    | _, _ => d

/-- Events bound to declared targets that this frame is the first to see (R238). -/
def Device.boundJumps (d : Device) (ch : Nat) : Device :=
  let img := (d.chan ch).seq.image
  let seen := d.events.filter fun e => e.visible == d.time.frame
  seen.foldl (init := d) fun d e =>
    match (List.range (imageBinds img)).find? fun k => bits (imageBind img k) 9 0 == e.ev with
    | none => d
    | some k =>
      let a := imageTarget img (bits (imageBind img k) 13 10)
      let x := (d.chan ch).seq
      if x.jump.isSome then d.onSeq ch fun x => { x with dropped := sat32 (x.dropped + 1) }
      else
        let j : Jump := { target := a, staged := d.stagedWord ch a, latch := d.time.frame, env := none, answered := true }
        d.onSeq ch fun x => { x with jump := some j }

/-- One RUNNING context at the frame tick. -/
def Device.seqTick (d : Device) (ch : Nat) : Device :=
  let x := (d.chan ch).seq
  let n := d.time.frame
  let d := if (x.onceStrobe ||| x.eachStrobe) = 0 then d else d.requestStrobe (x.onceStrobe ||| x.eachStrobe) n
  let d := match x.tsetNext with | some s => d.onChan ch fun c => { c with cfg := { c.cfg with tset := s } } | none => d
  let d := d.onSeq ch fun x => { x with sampleMark := x.markHeld ||| x.onceMark ||| x.eachMark, markHeld := x.markNext, markNext := 0, onceStrobe := 0,
                                        onceMark := 0, tsetNext := none }
  if (d.chan ch).seq.state ≠ .running then d
  else
    let d := d.beginDue ch 4
    let x := (d.chan ch).seq
    let past : Bool := match x.curEnd with | some e => decide (e ≤ n) | none => false
    let d :=
      if x.span.isSome && past then
        (d.endCurrent ch).onSeq ch fun x => { x with span := none, waitFrom := n, eachStrobe := 0, eachMark := 0, buffer := [] }
      else d
    let d := d.onSeq ch fun x => { x with waiting :=
      if x.span.isSome then 0 else if x.stall then 4 else (match x.queue with | h :: _ => if h.request.isSome ∧ h.start ≤ n then 3 else 0 | [] => 0) }
    d.boundJumps ch

/-- Events that no context can still ask for are forgotten. -/
def Device.sweepEvents (d : Device) : Device :=
  let from_ := (d.chans.filter fun c => c.2.seq.state == .running).map fun c => c.2.seq.winFrom
  { d with events := d.events.filter fun e => decide (d.time.frame ≤ e.visible) || from_.any fun t => decide (t ≤ e.win) }

def Device.seqTicks (d : Device) : Device := ((d.each d.usedChans Device.seqTick).judgeBarriers).sweepEvents

/-! ### Galley lines (R208..R210) -/

/-- The segment and line that the fetcher reads next for a channel: for the span in play, else ahead for the one that follows. -/
def Device.nextLine (d : Device) (ch : Nat) : Option (Nat × Segment × Nat × Bool) :=
  let x := (d.chan ch).seq
  let stored (s : Span) : Option (Nat × Segment) :=
    match s.kind with
    | .play id _ _ => (match d.seg? id with | some g => if g.kind = 0 then some (id, g) else none | none => none)
    | _ => none
  let room := decide (x.buffer.length + x.ahead.length < 4)
  let after (l : List TakenLine) (least : Nat) : Nat := l.foldl (fun m t => max m (t.index + 1)) least
  let cur := match x.span with
    | some s => (stored s).bind fun (g : Nat × Segment) =>
        let i := after x.buffer ((d.time.frame + 1 - s.start) / 24)
        if i < g.2.len / 24 then some ((g.1, g.2, i, false) : Nat × Segment × Nat × Bool) else none
    | none => none
  if !room || x.state ≠ .running then none
  else match cur with
    | some c => some c
    | none =>
      let target := match x.jump with
        | some j => if j.staged then none else ((swSegId (d.word ch j.target)).bind fun id => (d.seg? id).map fun g => (id, g, j.target))
        | none => none
      let next := match target with
        | some t => some t
        | none => match x.queue with | s :: _ => (stored s).map fun (g : Nat × Segment) => (g.1, g.2, s.word) | [] => none
      match next with
      | some (id, g, a) =>
        let held := if x.aheadFor = some a then x.ahead else []
        let pre := match x.targetOf a with | some k => if (tabFind x.prestaged (2 * k)).isSome then 2 else 0 | none => 0
        let i := after held pre
        if g.kind = 0 ∧ i < g.len / 24 then some (id, g, i, true) else none
      | none => none

/-- The word whose lines the fetcher reads ahead. -/
def Device.aheadWord (d : Device) (ch : Nat) : Option Nat :=
  let x := (d.chan ch).seq
  match x.jump with
  | some j => if j.staged then x.queue.head?.map (·.word) else some j.target
  | none => x.queue.head?.map (·.word)

/-- GALLEY_LINE_ARRIVAL (R210): the next line that the fetcher reads arrives; `ok` tells whether the read itself was sound. A line that
fails its tag or its CRC is read again once; a second failure makes it a bad line, whose frames miss their setpoints (R51). -/
def Device.galleyLine (d : Device) (ch : Nat) (ok : Bool) : Device :=
  match d.nextLine ch with
  | none => d
  | some (id, g, i, isAhead) =>
    let l := d.storedLine g i
    let fine := ok && lineOk l id i
    let x := (d.chan ch).seq
    if !fine && !x.retry then d.onSeq ch fun x => { x with retry := true }
    else
      let t : TakenLine := { index := i, at_ := d.time.now, bytes := if fine then l else [] }
      let d := if fine then d else d.setSeg id (some { g with bad := sat32 (g.bad + 1) })
      let w := d.aheadWord ch
      d.onSeq ch fun x =>
        if isAhead then { x with retry := false, ahead := (if x.aheadFor = w then x.ahead else []) ++ [t], aheadFor := w }
        else { x with retry := false, buffer := x.buffer ++ [t] }

end Sys2Proof.Machine
end

