-- ==== Sys2Proof/Machine/Forme.lean ====
section
/-! DEFINITION. The forme opcodes: load, lock-up, start, stop, jump, status and release (R220, R221, R238..R248, R394..R397). -/

namespace Sys2Proof.Machine

/-! ### FM_LOAD (R220, R395) -/

/-- The header of an image whose first chunk is given with its total length: the first parameter at fault (R395). -/
def headerBad (img : List Byte) (total : Nat) : Option Nat :=
  if img.length < 256 then some 0xFFFFFFFF
  else if total ≠ 256 + 8 * imageW img then some 4
  else if imageW img < 1 ∨ 65536 < imageW img then some 8
  else if 16 < imageTargets img then some 14
  else if 16 < imageBinds img then some 15
  else match firstNonzero img (offsets 136 255) with
    | some o => some (8 + o)
    | none => if total < img.length then some 0xFFFFFFFF else none

def fmLoadStatic (c : Cmd) : List Check :=
  if c.u32 0 = 0 then [match headerBad (c.par.drop 8) (c.u32 4) with | some o => bad true o | none => bad false 0] else []

def runFmLoad (c : Cmd) (d : Device) : Res :=
  let x := (d.chan c.idx).seq
  let img := c.par.drop 8
  let got := x.image.length
  checked d ([no (d.chan c.idx).lockedForme stLOCKED] ++ fmLoadStatic c ++
      (if c.u32 0 = 0 then [] else [bad (c.u32 0 ≠ got) 0, bad (c.u32 4 ≠ x.total) 4, badAny (decide (x.total < got + img.length))]))
    (let image := if c.u32 0 = 0 then img else x.image ++ img
     ok (d.onSeq c.idx fun x => { x with state := .loaded, image := image, total := c.u32 4 }) (le32 image.length))

/-! ### FM_LOCKUP (R246) -/

/-- What the checks of lock-up look at. -/
structure LockCtx where
  fetch : Nat → Nat
  w : Nat
  va : List F32
  fnSet : Nat
  nodes : List Node

/-- The first address below W whose word fails. -/
def LockCtx.firstBad (x : LockCtx) (p : Nat → Bool) : Option Nat := (List.range x.w).find? p

/-- The nodes at an address. -/
def LockCtx.at_ (x : LockCtx) (a : Nat) : List Node := x.nodes.filter fun n => n.pt.pc == a

/-- Functions that the span of a word may run (R195). -/
def LockCtx.funcs (x : LockCtx) (a : Nat) : List Nat := dedup ((x.at_ a).map (·.func))

/-- Words whose opcode or fields break R222, or at whose end the program runs out. -/
def wordsBad (fetch : Nat → Nat) (n : Nat) : Option Nat :=
  match (List.range n).find? fun a => !(swWordOk (fetch a) && swAddrFieldsOk n (fetch a)) with
  | some a => some a
  | none => if fallsOff fetch n then some (n - 1) else none

/-- Entry, targets and bindings (R246). -/
def targetsBad (fetch : Nat → Nat) (img : List Byte) : Option Nat :=
  let n := imageW img
  let ts := (List.range (imageTargets img)).map (imageTarget img)
  if n ≤ imageEntry img ∨ (ts.any fun a => decide (n ≤ a)) then some 0xFFFFFFFF
  else if (List.range (imageBinds img)).any fun k => decide (imageTargets img ≤ bits (imageBind img k) 13 10) || bits (imageBind img k) 15 14 ≠ 0 then some 0xFFFFFFFF
  else ts.find? fun a => !swIsPlay (fetch a)

/-- Events, range codes and timing sets that a word names (R95, R246, R254). -/
def Device.namesBad (d : Device) (ch : Nat) (desc : Desc) (w : Nat) : Bool :=
  if swOp w = swSIGNAL then decide (bits w 9 0 < 640 ∨ 895 < bits w 9 0)
  else if swOp w = swRANGE then
    let top := desc.top (bits w 0 0)
    if bit w 1 then decide (top < bits w 9 6 ∨ top < bits w 13 10 ∨ bits w 13 10 < bits w 9 6) else decide (top < bits w 5 2)
  else if swOp w = swTSET then !d.setUsableFor ch (bits w 3 0)
  else false

/-- A setpoint lies outside the allowed values of R63 for a function. -/
def setFor (desc : Desc) (f : Nat) (v : F32) : Bool :=
  let s := if f = fnFV ∨ f = fnFVZ then 1 else if f = fnFI then 2 else if f = fnCR then 3 else if f = fnCP then 4 else 0
  f32Bad v || (s ≠ 0 && setpointBad desc s (f32ToRat v))

/-- Values of a play word under the functions that may run (R195, R232): those it supplies, and the wait value of a register. -/
def Device.valuesBad (d : Device) (desc : Desc) (x : LockCtx) (a : Nat) : Bool :=
  let w := x.fetch a
  if !swIsPlay w then false
  else
    let fs := x.funcs a
    let vs : List F32 :=
      match (swSegId w).bind d.seg? with
      | some g => if g.kind = 2 then (let (p, q) := streamEnds g; [ratToF32 p, ratToF32 q]) else (d.spanRuns w x.va 0).map (·.1)
      | none => if bits w 25 24 = 0 then [] else (d.spanRuns w x.va 0).map (·.1)
    let wv := if (swWV w).1 = 2 then [x.va.getD (swWV w).2 0] else []
    fs.any fun f => (vs ++ wv).any fun v => setFor desc f v

/-- FUNC and LIMIT values obey R63. -/
def paramsBad (desc : Desc) (va : List F32) (w : Nat) : Bool :=
  let r (hi lo : Nat) : F32 := va.getD (bits w hi lo) 0
  if swOp w = swFUNC ∧ bit w 3 then
    if bits w 2 0 = fnFVZ then !f32In 0 10 (r 7 4)
    else if bits w 2 0 = fnCP then !f32Pos (r 7 4) || decide (desc.maxFs 0 < f32ToRat (r 7 4)) else false
  else if swOp w = swLIMIT then
    let fs := desc.maxFs (bits w 0 0)
    let p := r 4 1
    let n := r 8 5
    f32Bad p || f32Bad n || decide (f32ToRat p < 0 ∨ 0 < f32ToRat n ∨ f32ToRat p ≤ f32ToRat n ∨ fs < f32ToRat p ∨ f32ToRat n < -fs)
  else false

/-- The word holds the setpoint in force (SRC 0). -/
def swHoldsForce (w : Nat) : Bool := swOp w == swHOLD && bits w 25 24 == 0

/-- The profile that a budgeted word or an ADMIT is checked with at lock-up, and whether it is known only at run time (R302, R303);
none where a load model has none (R300). A HOLD of the setpoint in force that a path from the entry reaches is checked on such paths alone. -/
def Device.lockProfile (d : Device) (ch : Nat) (x : LockCtx) (a : Nat) : Option (Profile × Bool) :=
  let w := x.fetch a
  let ns := x.at_ a
  let main := ns.any (·.entry)
  if swOp w = swADMIT then
    let win := bits w 23 0
    let spans := ns.flatMap fun n =>
      let opens := n.pt.opens.foldl (init := ([] : Tab LoopCtr)) fun t o =>
        if o.2.2 then (let c : LoopCtr := { count := 0, opened := true, endless := true, body := o.2.1 }; tabInsert t o.1 c) else t
      let start : WinPt := { pc := a + 1, lc := opens, va := x.va, stack := n.pt.calls, func := n.func, sp := n.sp, at_ := 0 }
      (d.winSpans x.fetch true win pathFuel [start] [] []).filter fun s => n.entry || !main || !swHoldsForce s.1
    (d.admitProfile ch win spans).map fun p => (p, spans.any fun s => swRunTime s.1)
  else
    let ns := if swHoldsForce w && main then ns.filter (·.entry) else ns
    (joinProfiles (ns.map fun n => d.spanProfile ch n.func w x.va (n.sp.get n.func))).map fun p => (p.getD (flatProfile 24 []), swRunTime w)

/-- Words that ask for admission. -/
def swAsks (w : Nat) : Bool := swOp w == swADMIT || (swBudgeted w).isSome

/-- R304: a profile alone with its zone and rails idle. -/
def Device.idleFits (d : Device) (ch : Nat) (p : Profile) : Bool :=
  (match d.railOf ch with | some r => p.bins.all fun b => (d.rail r).holds (f32ToRat b.peakR) | none => true) &&
  (match d.zoneOf ch with
   | some zi =>
     let z := d.zone zi
     let h := ratMax (f32ToRat z.look) ((p.len : Rat) * d.period)
     let dt := h / 256
     let k := dt / d.period
     let powers := (List.range 256).map fun (j : Nat) => p.meanHeat 0 (k * (j : Rat)) (k * ((j + 1 : Nat) : Rat))
     (z.forecast (d.ambient z) 0 dt [0, 0, 0, 0] powers).all fun t => decide (t < f32ToRat z.tmax)
   | none => true)

/-- A lock-up that fails: the completion carries the word's address (R394). -/
def lockFail (d : Device) (status addr : Nat) : Res := (.both [] status (zeros 8 ++ le32 addr), d)

/-- A check of lock-up on words: status and address. -/
def lockCheck (o : Option Nat) (status : Nat) : Check :=
  match o with
  | some a => (true, status, zeros 8 ++ le32 a)
  | none => (false, status, [])

/-- What a segment that a play word names must be: the first failure as status (R192, R193, R211, R246). -/
def Device.segFault (d : Device) (ch : Nat) (w : Nat) : Option Nat :=
  match (swSegId w).bind d.seg? with
  | some g =>
    if g.fn ≠ (d.chan ch).owner then some stBAD_TARGET
    else if g.kind = 0 ∧ g.state = 0 then some stNOT_READY
    else if g.kind = 2 then (match g.chan with | none => some stNOT_READY | some k => if k = ch then none else some stBUSY)
    else none
  | none => none

/-- The checks of R246 after those on the state of the context, in order. -/
def Device.lockChecks (d : Device) (ch : Nat) (desc : Desc) (x : LockCtx) (img : List Byte) : List Check :=
  let c := d.chan ch
  let after := d.setChan ch { c with seq := { c.seq with state := .locked, fnSet := x.fnSet } }
  let asks := (List.range x.w).filter fun a => swAsks (x.fetch a)
  let profs := asks.map fun a => (a, d.lockProfile ch x a)
  let range? : Option Nat := x.firstBad fun a => d.namesBad ch desc (x.fetch a)
  let undefined := x.firstBad fun a => match swSegId (x.fetch a) with
    | some id => (match d.seg? id with | some g => g.kind ≠ swKind (x.fetch a) | none => true)
    | none => false
  let segs : Check := match (List.range x.w).findSome? fun a => (d.segFault ch (x.fetch a)).map fun s => (a, s) with
    | some (a, s) => lockCheck (some a) s
    | none => (false, stOK, [])
  let unstable : Check := match ((List.range 8).filter fun f => bit x.fnSet f).findSome? fun f => c.unstable desc d.time.n f with
    | some p => (true, stBAD_PARAM, p)
    | none => (false, stBAD_PARAM, [])
  [lockCheck (wordsBad x.fetch x.w) stBAD_PARAM, lockCheck (targetsBad x.fetch img) stBAD_PARAM,
   lockCheck (programFault x.fetch x.w (imageEntry img) ((List.range (imageTargets img)).map (imageTarget img))) stBAD_PARAM,
   lockCheck range? stBAD_PARAM, lockCheck undefined stBAD_PARAM, segs,
   lockCheck (x.firstBad fun a => d.valuesBad desc x a) stBAD_PARAM, lockCheck (x.firstBad fun a => paramsBad desc x.va (x.fetch a)) stBAD_PARAM,
   lockCheck (if (d.zoneOf ch).isNone && (d.railOf ch).isNone then asks.head? else none) stBAD_PARAM,
   lockCheck ((profs.find? fun p => p.2.isNone).map (·.1)) stBAD_PARAM, unstable, budgetCheck after,
   lockCheck ((profs.find? fun p => match p.2 with | some q => !d.idleFits ch q.1 | none => false).map (·.1)) stBUDGET_REFUSED,
   lockCheck (if 2048 < d.imp.profiles.length + asks.length then some 0xFFFFFFFF else none) stBUSY]

/-- The lines that lock-up copies for the declared targets (R209): by declared index, and the target whose lines do not read correctly. -/
def Device.prestage (d : Device) (fetch : Nat → Nat) (img : List Byte) : Tab (List Byte) × Option Nat :=
  (List.range (imageTargets img)).foldl (init := (([] : Tab (List Byte)), (none : Option Nat))) fun acc k =>
    let a := imageTarget img k
    let w := fetch a
    if swOp w ≠ swPLAY then acc
    else match d.seg? (bits w 15 0) with
      | some g =>
        let l0 := d.storedLine g 0
        let l1 := d.storedLine g 1
        if lineOk l0 (bits w 15 0) 0 && lineOk l1 (bits w 15 0) 1 then (tabInsert (tabInsert acc.1 (2 * k) l0) (2 * k + 1) l1, acc.2)
        else (acc.1, acc.2 <|> some a)
      | none => acc

def cacheWords : Nat := 2097152

/-- Segments that a program names. -/
def LockCtx.segments (x : LockCtx) : List Nat := dedup ((List.range x.w).filterMap fun a => swSegId (x.fetch a))

/-- Does the forme depend on main memory (R218, R247). -/
def Device.dependsOnMemory (d : Device) (segs : List Nat) (cache : Bool) : Bool :=
  !cache || segs.any fun s => match d.seg? s with
    | some g => g.kind == 0 || (g.kind == 2 && (match g.ring.bind d.ring? with | some r => !r.pool | none => false))
    | none => false

/-- The forme is locked (R221): lines staged, program placed, segments locked, profiles held. -/
def Device.lockForme (d : Device) (ch : Nat) (x : LockCtx) (staged : Tab (List Byte)) (cache : Bool) (blocks : List Nat) (profs : List HeldProfile) : Device :=
  let segs := x.segments
  let words := ((d.chan ch).seq.image.drop 256)
  let d := d.holdBlocks blocks
  let mem := blocks.zipIdx.foldl (fun m b => cellsWrite m b.1 ((words.drop (4096 * b.2)).take 4096)) d.store.mem
  let d := { d with store := { d.store with mem := mem }, seq := { d.seq with cacheUsed := d.seq.cacheUsed + (if cache then x.w else 0) },
                    imp := { d.imp with profiles := d.imp.profiles ++ profs } }
  let d := segs.foldl (init := d) fun d s =>
    match d.seg? s with
    | some g => d.setSeg s (some { g with state := 2, locks := g.locks + 1 })
    | none => d
  let dep := d.dependsOnMemory segs cache
  d.onSeq ch fun q => { q with state := .locked, cache := cache, blocks := blocks, memdep := dep, prestaged := staged, locks := segs, fnSet := x.fnSet,
                               va := x.va, pc := imageEntry q.image, dropped := 0, stalls := 0 }

def runFmLockup (c : Cmd) (d : Device) : Res :=
  let ch := c.idx
  let q := (d.chan ch).seq
  match d.desc? ch with
  | none => refuse d (stNOT_READY, [])
  | some desc =>
    checked d [no (d.chan ch).lockedForme stLOCKED, no (q.state == .empty) stNOT_READY, no (q.image.length ≠ q.total) stNOT_READY]
      (let img := q.image
       let fetch := imageWord img
       let n := imageW img
       let cfg := (d.chan ch).cfg
       let fnSet := formeFnSet fetch n cfg.func
       let start (entry : Bool) (a : Nat) : List Node := startNodes fnSet (d.chan ch).setpoints entry a
       let targets := (List.range (imageTargets img)).map (imageTarget img)
       let sound := (wordsBad fetch n).isNone && (targetsBad fetch img).isNone
       let nodes := if sound then d.reach fetch (imageVA img) pathFuel (start true (imageEntry img) ++ targets.flatMap (start false)) [] else []
       let x : LockCtx := { fetch := fetch, w := n, va := imageVA img, fnSet := fnSet, nodes := nodes }
       match firstFail (d.lockChecks ch desc x img) with
       | some (s, p) => (.both [] s p, d)
       | none =>
         let (staged, broken) := d.prestage fetch img
         match broken with
         | some a => lockFail (d.raiseErr (errAt 48 0 6 (some ch)) d.time.now) stFAULT_ACTIVE a
         | none =>
           let cache := decide (d.seq.cacheUsed + n ≤ cacheWords)
           let blocks := if cache then [] else takeBlocks (d.freeGaps true) ((n + 511) / 512)
           if !cache && blocks.length < (n + 511) / 512 then lockFail d stBUSY 0xFFFFFFFF
           else
             let profs := ((List.range n).filter fun a => swAsks (fetch a)).map fun a =>
               let h : HeldProfile := { ch := ch, word := a, profile := match d.lockProfile ch x a with | some (p, false) => some p | _ => none }
               h
             (.both [] stOK (le32 (if cache then 0 else 1) ++ le32 profs.length ++ le32 0xFFFFFFFF), d.lockForme ch x staged cache blocks profs))

/-! ### FM_START, FM_STOP, FM_JUMP, FM_RELEASE (R221, R238..R245) -/

/-- FM_START (R244): answered after the compute phase of frame a. A second one before that is refused as for a running forme. -/
def runFmStart (c : Cmd) (d : Device) : Res :=
  let x := d.chan c.idx
  checked d [no (x.seq.state == .empty || x.seq.state == .loaded) stNOT_READY, no (x.running || x.seq.starting.isSome) stBUSY, no (x.arm ≠ .armed) stNOT_READY]
    (.later, d.onSeq c.idx fun q => { q with starting := some (d.time.frame + 1, d.frameOfTick (d.boundary c), c.env) })

def applyFmStop (c : Cmd) (d : Device) : Device := d.stopContext c.idx 1

/-- FM_STOP (R245, R394). -/
def runFmStop (c : Cmd) (d : Device) : Res :=
  if !(d.chan c.idx).running then ok d (le64 0)
  else let b := d.boundary c; okBoundary (d.atBoundary .fmStop c applyFmStop) b

def fmJumpStatic (c : Cmd) : List Check := [bad (bits (c.u32 0) 31 17 ≠ 0) 0]

/-- FM_JUMP (R238, R240). -/
def runFmJump (c : Cmd) (d : Device) : Res :=
  let x := (d.chan c.idx).seq
  let k := bits (c.u32 0) 15 0
  let byIndex := bit (c.u32 0) 16
  let a := if byIndex then imageTarget x.image k else k
  checked d (fmJumpStatic c ++ [no (!(d.chan c.idx).running) stNOT_READY, bad (byIndex && decide (imageTargets x.image ≤ k)) 0,
      bad (decide (imageW x.image ≤ a) || !swIsPlay (d.word c.idx a)) 0, no x.jump.isSome stBUSY])
    (let j : Jump := { target := a, staged := d.stagedWord c.idx a, latch := if c.atNow then d.time.frame else d.latchFrame c.stamp, env := some c.env, answered := false }
     match d.jumpPlan c.idx j with
     | some (b, next) => (.done (if next then stOK else stJUMP_DEFERRED) (le64 (d.tickOfFrame b)), d.onSeq c.idx fun q => { q with jump := some { j with answered := true } })
     | none => (.later, d.onSeq c.idx fun q => { q with jump := some j }))

/-- The channel's forme is released (R221): segments unlocked, staged lines, profiles and program space freed; the image stays. -/
def Device.releaseForme (d : Device) (ch : Nat) : Device :=
  let q := (d.chan ch).seq
  let d := ((d.unlockForme ch).dropRequests ch true).dropBlocks q.blocks
  let d := { d with seq := { d.seq with cacheUsed := d.seq.cacheUsed - (if q.cache then imageW q.image else 0) } }
  d.onSeq ch fun q => { q with state := .loaded, cache := false, blocks := [], memdep := false, prestaged := [], locks := [], fnSet := 0, starting := q.starting }

def runFmRelease (c : Cmd) (d : Device) : Res :=
  let x := d.chan c.idx
  checked d [no (x.running || x.seq.starting.isSome) stBUSY] (if x.lockedForme then ok (d.releaseForme c.idx) [] else ok d [])

/-! ### FM_STATUS (R248, R397) -/

def CtxState.code : CtxState → Nat | .empty => 0 | .loaded => 1 | .locked => 2 | .running => 3 | .halted => 4 | .stopped => 5

/-- WAITING of the context status word (R248). -/
def SeqCtx.waitCode (x : SeqCtx) : Nat :=
  match x.span with
  | some s => (match s.kind with | .wait _ _ _ _ => 1 | .grid _ _ | .arm _ | .barrier _ => 2 | _ => 0)
  | none => x.waiting

/-- The context status word (R248). -/
def SeqCtx.word (x : SeqCtx) : Nat :=
  x.state.code + flag x.cache 3 + x.waitCode * 16 + flag x.jump.isSome 7 + flag x.defto 8 + flag x.memdep 9 +
  ((List.range 8).filter fun k => (tabGet {} x.lc k).opened).length * 1024 + x.stack.length * 2 ^ 14 + x.stop * 2 ^ 19

def fmStatusStatic (_c : Cmd) : List Check := []

def runFmStatus (c : Cmd) (d : Device) : Res :=
  if c.scope = 1 then
    let x := (d.chan c.idx).seq
    ok d (le32 x.word ++ le32 x.pc ++ ((List.range 8).map fun k => let l := tabGet {} x.lc k; le32 (l.count + flag l.opened 31)).flatten ++
      le32 x.dropped ++ le32 x.stalls ++ le64 x.lastJump)
  else
    let id := c.u16 0
    checked d [resv c.par [2, 3], bad (d.seg? id).isNone 0, no (match d.seg? id with | some g => g.fn ≠ c.env.fn && c.env.fn ≠ 0 | none => false) stBAD_TARGET]
      (match d.seg? id with
       | some g =>
         let k (n : Nat) := le32 (if g.kind = 2 then n else 0)
         ok d (g.record id ++ k g.missed ++ k g.skipped ++ k g.bad ++ k g.clamped)
       | none => refuse d (stBAD_PARAM, le32 0))

end Sys2Proof.Machine
end

