-- ==== Sys2Proof/Machine/Compute.lean ====
section
/-! DEFINITION. The compute phase of a slot: the seven steps of R43 on each channel, its deadline (R51) and the result bank (R53). -/

namespace Sys2Proof.Machine

/-! ### Step 5: setpoints (R64, R115, R195) -/

/-- The setpoint of the function in force as the engine takes it: its value, whether it was clamped to the present source range, the range
change that it asks for, and whether the earlier one stays. -/
structure Taken where
  v : Rat
  clamped : Bool
  want : Option RWant
  hold : Bool
  deriving DecidableEq, Repr

/-- A source setpoint judged against the present source range (R115, R195). -/
def Chan.judgeSet (c : Chan) (x : Desc) (q : Nat) (v : Rat) : Taken :=
  let fs := x.fs q (c.range.code q)
  let u := ratClamp (-fs) fs v
  let plain : Taken := { v := u, clamped := decide (u ≠ v), want := none, hold := false }
  if !(c.range.auto q) || !(c.arm == .armed || c.arm == .softPark) then plain
  else if c.range.setpointHeld then { plain with hold := true }
  else if !c.setpointMoves x q v then plain
  else if c.range.queued.isSome then { plain with hold := true }
  else { plain with hold := true, want := some { quantity := q, target := setpointRange x q (c.range.lo q) (c.range.hi x q) v, source := .setpoint } }

/-- The engine takes its setpoints (R43, R64): all four are stored, and that of the function in force in the source quantity is judged. -/
def Device.takeSet (d : Device) (ch : Nat) (x : Desc) : Device :=
  let c := d.chan ch
  let f := c.fnNext
  let src : Option (Nat × Rat) := if f = fnFV ∨ f = fnFVZ then some (0, f32ToRat c.cfg.vset) else if f = fnFI then some (1, f32ToRat c.cfg.iset) else none
  let l : Loop := { c.loop with rset := f32ToRat c.cfg.rset, pset := f32ToRat c.cfg.pset, clamped := false,
                                vset := f32ToRat c.cfg.vset, iset := f32ToRat c.cfg.iset }
  match src with
  | none => d.setChan ch { c with loop := l }
  | some (q, v) =>
    let t := c.judgeSet x q v
    let l : Loop :=
      if t.hold then { l with vset := if q = 0 then c.loop.vset else l.vset, iset := if q = 1 then c.loop.iset else l.iset }
      else { l with clamped := t.clamped, vset := if q = 0 then t.v else l.vset, iset := if q = 1 then t.v else l.iset }
    let c' : Chan := { c with loop := l, range := match t.want with | some w => { c.range with queued := some w } | none => c.range }
    let d := d.setChan ch c'
    if t.clamped && !t.hold then d.countClamp c.seq.supplied else d

/-- The sequence unit has not supplied the setpoint in time (R51): the previous one is used, the frame is INVALID, bit 48 rises. -/
def Device.setpointMissed (d : Device) (ch : Nat) : Device :=
  (d.onChan ch fun c => { c with invalid := true }).raiseErr (errAt 48 0 6 (some ch)) d.time.now

/-! ### Arming (R87, R88, R177) -/

/-- The second check of CH_ARM, at frame a - 1 (R87). -/
def Device.armRecheck (d : Device) (ch : Nat) : Device :=
  let c := d.chan ch
  match c.armReq with
  | some (t, env) =>
    if t ≤ d.nextTick ∧ c.range.change.isNone then
      match firstFail (d.armChecks ch) with
      | some (s, p) => (d.setChan ch { c with armReq := none }).final env s p
      | none => d
    else d
  | none => d

/-- A block error in frame a repeats the arming block: frame a becomes the next one (R177). -/
def Device.armShift (d : Device) (ch : Nat) : Device :=
  let c := d.chan ch
  if c.arm = .arming ∧ c.armFrame = d.time.frame ∧ (d.link (d.linkOf ch)).blkErr then d.setChan ch { c with armFrame := c.armFrame + 1 } else d

/-! ### One channel -/

/-- The mirror of a channel's engine state (R19, R92). -/
def Chan.mirrored (c : Chan) : Chan := { c with mirror := { loop := c.loop, range := c.range, aper := c.aper, frame := c.frame, arm := c.arm } }

/-- Slug flags that the samples themselves give (R84). -/
def Sample.flags (s : Sample) : Nat := flag s.clamp sfCLAMP + flag s.overrange sfOVERRANGE + flag s.uncal sfUNCAL

/-- The end of a channel's compute phase. -/
def Chan.computed (c : Chan) (frame : Nat) (mirror : Bool) : Chan :=
  let tail := match c.range.tail with | some (q, e) => if e ≤ frame then none else some (q, e) | none => none
  let c := { c with loop := { c.loop with done := true }, range := { c.range with tail := tail }, migrated := false }
  if mirror then c.mirrored else c

/-- Steps 1 to 7 of R43 for a channel with a descriptor in force. -/
def Device.computeLive (d : Device) (ch : Nat) (x : Desc) (mirror : Bool) : Device :=
  let k := d.time.frame
  let d := d.apertureEnd ch
  let cv0 := d.convBefore ch
  let cv := if (d.chan ch).invalid then { cv0 with flags := cv0.flags ||| 2 ^ sfINVALID } else cv0
  let conv := d.convNow ch
  let d := d.onChan ch fun c => { c with invalid := false, frame := { c.frame with conv := some conv } }
  let c := d.chan ch
  let u := d.heldUp ch
  let s := u.map fun u => c.samples x u k cv
  let ls := if bit cv0.flags sfINVALID then none else s
  let scale : Rat := if c.arm = .softPark then (((c.rampP : Rat) - ((c.rampJ + 1 : Nat) : Rat)) / ((max c.rampP 1 : Nat) : Rat)) else 1
  let o := c.law x ls k (d.fires ch) (c.cal.calFrame == some (k - 1) && decide (0 < k))
  let d := d.setChan ch (if c.arm = .softPark then { o.c with rampJ := o.c.rampJ + 1 } else o.c)
  let d := if o.entered then d.event (128 + ch) d.time.now else d
  let d := d.rangeStep ch x ls scale (d.link (d.linkOf ch)).blkErr
  let d := ((d.armShift ch).armRecheck ch).seqCompute ch
  let d := if (d.chan ch).seq.supplyMiss then d.setpointMissed ch else d.takeSet ch x
  let d := d.onChan ch fun c => { c with loop := { c.loop with clamp := some (c.clamps x) } }
  let flags := cv.flags ||| o.flags ||| (match s with | some y => y.flags | none => 2 ^ sfINVALID + 2 ^ sfLINKMISS)
  let d := match u with | some u => d.captureFrame ch { cv with flags := flags } u | none => d
  let d := d.formValue ch cv s flags
  let d := match s with | some y => d.sourcePair ch { cv with flags := flags } y | none => d
  let d := match s with
    | some y => if y.clamp && (d.chan ch).running then d.onSeq ch fun q => { q with clampFrames := d.tickOfFrame (k - 1) :: q.clampFrames } else d
    | none => d
  d.onChan ch fun c => c.computed k mirror

/-- A channel whose link is not UP has no samples and no figures to work with: its frames are INVALID. -/
def Device.computeBare (d : Device) (ch : Nat) (mirror : Bool) : Device :=
  let d := d.apertureEnd ch
  let cv := d.convBefore ch
  let conv := d.convNow ch
  let d := d.onChan ch fun c => { c with invalid := false, frame := { c.frame with conv := some conv }, loop := { c.loop with code := 0x20000 } }
  let d := (d.armRecheck ch).seqCompute ch
  let d := d.formValue ch cv none (cv.flags ||| (2 ^ sfINVALID + 2 ^ sfLINKMISS))
  d.onChan ch fun c => c.computed d.time.frame mirror

def Device.computeChan (d : Device) (ch : Nat) (mirror : Bool) : Device :=
  if (d.chan ch).loop.done || !d.served ch then d
  else match d.desc? ch with
    | some x => d.computeLive ch x mirror
    | none => d.computeBare ch mirror

/-- A channel that has not reached step 6 by the deadline (R51): the code of this frame is sent again. -/
def Device.missChan (d : Device) (ch : Nat) : Device :=
  if (d.chan ch).loop.done || !d.served ch then d
  else
    let d := d.apertureEnd ch
    let cv := d.convBefore ch
    let conv := d.convNow ch
    let d := d.onChan ch fun c => { c with invalid := true, frame := { c.frame with conv := some conv }, loop := { c.loop with code := c.loop.sent } }
    let d := d.seqCompute ch
    let d := d.formValue ch cv none (cv.flags ||| 2 ^ sfINVALID)
    d.onChan ch fun c => c.computed d.time.frame false

/-! ### The slot (R12, R28, R51, R53) -/

/-- Entries that were not drained in time are lost on their rings (R51). -/
def Device.loseEntries (d : Device) (es : List Entry) : Device :=
  es.foldl (init := d) fun d e => d.onRing e.ring fun r => { r with lost := r.lost + max 1 e.frames }

/-- The slot's result banks swap as its compute phase ends (R53). -/
def Device.swapBank (d : Device) (j : Nat) : Device :=
  let d := d.loseEntries (d.slot j).drain
  d.setSlot j { d.slot j with drain := (d.slot j).fill, fill := [], swapAt := d.time.frame }

/-- The engine that computes a slot in the frame in progress: in service and not held faulty; in STANDBY the
slots take turns on slot 0's engine (R28). -/
def Device.computeEngine (d : Device) (j : Nat) : Option Nat :=
  if !d.time.started || !d.blk bFABRIC || d.shutDown || (d.gated && d.time.frame % 64 ≠ j) then none
  else match d.engineOf (if d.gated then 0 else j) with
    | some e => if bit d.ready.eng e && !(d.engine e).faulty then some e else none
    | none => none

/-- Has a channel of the slot still to be computed in this frame. -/
def Device.slotOpen (d : Device) (j : Nat) : Bool := (slotChans j).any fun ch => !(d.chan ch).loop.done

/-- COMPUTE_PHASE (R43), from L. -/
def Device.computePhase (d : Device) (j : Nat) : Device :=
  match d.computeEngine j with
  | none => d
  | some _ => if !d.slotOpen j then d else (d.fromL.each (slotChans j) fun d ch => d.computeChan ch true).swapBank j

/-- ENGINE_DEADLINE_MISS (R51), at T - 10 ns: `n` channels were completed. -/
def Device.engineMiss (d : Device) (j n : Nat) : Device :=
  match d.computeEngine j with
  | none => d
  | some e =>
    if !d.slotOpen j then d
    else
      let d := (d.at (d.nextTick - 160)).each ((slotChans j).take n) fun d ch => d.computeChan ch false
      let d := d.each ((slotChans j).drop n) Device.missChan
      (d.swapBank j).raiseErr (errAt (e / 8) (e % 8) 6 none) d.time.now

end Sys2Proof.Machine
end

