-- ==== Sys2Proof/Machine/Collect.lean ====
section
/-! DEFINITION. The slug collector (R53..R55, R82, R86, R438) and the trigger logic's packets (R262, R438). -/

namespace Sys2Proof.Machine

/-! ### Capture packets (R82, R438) -/

/-- A packet's body: the 16-byte header and the frames (R82). -/
def Capture.body (c : Capture) : List Byte :=
  le64 c.stamp ++ le32 c.frames ++ [BitVec.ofNat 8 c.pairs, BitVec.ofNat 8 c.ranges, BitVec.ofNat 8 c.folio, BitVec.ofNat 8 c.commits] ++ c.bytes

/-- The run under way ends: its packet is written. -/
def Device.closeCapture (d : Device) (ch : Nat) : Device :=
  let c := d.chan ch
  match c.capture, c.captureRing with
  | some k, some q => ((d.setChan ch { c with capture := none }).produce q k.body k.frames true).1
  | some _, none => d.setChan ch { c with capture := none }
  | none, _ => d

/-- A frame belongs to the run under way. -/
def Capture.continues (k : Capture) (e : Entry) : Bool :=
  !e.starts && k.pairs == e.pairs && k.ranges == e.ranges && k.folio == e.folio && k.commits == e.commits && k.last + 1 == e.frame

/-- A frame that finds no room is lost (R432). -/
def Device.loseFrame (d : Device) (q : Nat) : Device := d.onRing q fun r => { r with full := true, lost := r.lost + 1 }

/-- One frame's pairs reach the collector (R438): they lengthen the run's packet, or open a new one. In die HOLD capture writes are
suspended and the frame is lost (R311). -/
def Device.captureEntry (d : Device) (e : Entry) : Device :=
  if d.imp.die.state = 2 || d.shutDown then (d.closeCapture e.ch).loseFrame e.ring else
  let room (d : Device) (n : Nat) : Bool := match d.ring? e.ring with | some r => r.fits n | none => false
  let fresh : Capture := { stamp := e.stamp, frames := 1, pairs := e.pairs, ranges := e.ranges, folio := e.folio, commits := e.commits, last := e.frame,
                           bytes := e.bytes }
  let open_ (d : Device) : Device :=
    if room d (16 + e.bytes.length) then d.onChan e.ch fun c => { c with capture := some fresh } else d.loseFrame e.ring
  match (d.chan e.ch).capture with
  | none => open_ d
  | some k =>
    let n := 16 + k.bytes.length + e.bytes.length
    if !k.continues e || decide (65536 < n) then open_ (d.closeCapture e.ch)
    else if room d n then
      d.onChan e.ch fun c => { c with capture := some { k with frames := k.frames + 1, last := e.frame, bytes := k.bytes ++ e.bytes } }
    else (d.closeCapture e.ch).loseFrame e.ring

/-! ### Slugs (R438) -/

/-- An entry of a bank reaches the collector. -/
def Device.collectEntry (d : Device) (frame : Nat) (e : Entry) : Device :=
  if e.frames = 0 then { d with queue := { d.queue with slugs := d.queue.slugs ++ [(e.ring, frame, e.ch, e.bytes)] } } else d.captureEntry e

/-- Slugs of a ring in ascending channel order. -/
def insertSlug (x : Nat × List Byte) : List (Nat × List Byte) → List (Nat × List Byte)
  | [] => [x]
  | y :: l => if x.1 < y.1 then x :: y :: l else y :: insertSlug x l

/-- The slugs of a ring and a frame become one packet. -/
def Device.writeSlugs (d : Device) (q frame : Nat) : Device :=
  let mine (s : Nat × Nat × Nat × List Byte) : Bool := s.1 == q && s.2.1 == frame
  let own := d.queue.slugs.filter mine
  if own.isEmpty then d
  else
    let sorted := own.foldl (fun l s => insertSlug (s.2.2.1, s.2.2.2) l) []
    let d := { d with queue := { d.queue with slugs := d.queue.slugs.filter fun s => !mine s } }
    (d.produce q (sorted.map (·.2)).flatten sorted.length true).1

/-- A slot from which slugs of a ring's frame may still come: its bank is not drained, or its compute phase of that frame is to come. -/
def Device.slotOwes (d : Device) (q frame j : Nat) : Bool :=
  ((d.slot j).swapAt == frame && (d.slot j).drain.any fun e => e.ring == q) ||
  (d.time.frame == frame && (d.computeEngine j).isSome &&
    (slotChans j).any fun ch => (d.chan ch).resultRing == some q && !(d.chan ch).loop.done)

/-- Packets of rings to which no slot owes a slug of the frame are complete: the end of the frame's collection (R438). -/
def Device.flushSlugs (d : Device) : Device :=
  let rings := dedup (d.queue.slugs.map fun s => (s.1, s.2.1))
  (rings.filter fun r => engineSlots.all fun j => !d.slotOwes r.1 r.2 j).foldl (fun d r => d.writeSlugs r.1 r.2) d

/-- Slugs left over from a frame whose collection is over by its deadline (R42). -/
def Device.flushLate (d : Device) : Device :=
  (dedup ((d.queue.slugs.filter fun s => decide (s.2.1 + 2 ≤ d.time.frame)).map fun s => (s.1, s.2.1))).foldl (fun d r => d.writeSlugs r.1 r.2) d

/-- A run ends with its aperture, and with a frame of its channel that brings no pairs (R82, R128, R165). -/
def Device.endRuns (d : Device) (j : Nat) (drained : List Entry) : Device :=
  d.each (slotChans j) fun d ch =>
    let c := d.chan ch
    let some_ := drained.any fun e => e.ch == ch && decide (0 < e.frames)
    if c.capture.isSome && (!some_ || c.aper.ended.isSome || c.aper.k == 0) then d.closeCapture ch else d

/-- COLLECTION_PHASE (R42, R55): the bank of a slot is drained into rings. -/
def Device.collect (d : Device) (j : Nat) : Device :=
  if !d.time.started || !d.blk bCOLLECT then d
  else
    let s := d.slot j
    let d := d.setSlot j { s with drain := [] }
    let d := s.drain.foldl (fun d e => d.collectEntry s.swapAt e) d
    (d.endRuns j s.drain).flushSlugs

/-- COLLECTOR_DRAIN_MISS (R51): undrained entries are dropped and counted as lost. -/
def Device.drainMiss (d : Device) (j : Nat) : Device :=
  if !d.time.started || !d.blk bCOLLECT then d
  else
    let s := d.slot j
    let d := (d.loseEntries s.drain).setSlot j { s with drain := [] }
    (d.flushSlugs).raiseErr (errAt 58 0 6 none) d.time.now

/-- Trigger records of the frame that has ended, one packet for each ring, in stamp order (R262, R438). -/
def Device.flushTriggers (d : Device) : Device :=
  let recs := d.queue.trigRecs
  let d := { d with queue := { d.queue with trigRecs := [] } }
  let rings := dedup (recs.map fun r => (d.pin r.1).ring)
  d.each rings fun d q =>
    let own := (recs.filter fun r => (d.pin r.1).ring == q).map (·.2)
    let sorted := own.foldl (fun l b => (insertSlug (u64At b 0, b) l)) []
    let (d', ok) := if d.imp.die.state = 2 || d.shutDown then (d.onRing q fun r => { r with lost := r.lost + sorted.length }, false)
                    else d.produce q (sorted.map (·.2)).flatten sorted.length true
    if ok then d' else recs.foldl (init := d') fun d r => if (d.pin r.1).ring = q then d.setPin r.1 { d.pin r.1 with lost := sat32 ((d.pin r.1).lost + 1) } else d

end Sys2Proof.Machine
end

