-- ==== Sys2Proof/Machine/Memory.lean ====
section
/-! DEFINITION. Main memory (R415..R418, R445..R469): address mapping, delay scans, the data rate, retirement and rebuild, row retirement,
wipe and scrub, and the memory opcodes. -/

namespace Sys2Proof.Machine

/-! ### Mapping of data addresses (R447) -/

def stripeOf (a : Nat) : Nat := a / 1024
def unitOf (a : Nat) : Nat := a % 1024 / 256
def parityDev (k : Nat) : Nat := 4 - k % 5
/-- Device that holds unit `j` of stripe `k`. -/
def unitDev (k j : Nat) : Nat := (parityDev k + 1 + j) % 5
/-- Bank of a device by number 0..63: channel × 16 + bank (DEDUCED, log 57). -/
def bankOf (k : Nat) : Nat := k % 4 * 16 + k / 4 % 16
def columnOf (k : Nat) : Nat := k / 64 % 8
def rowOf (k : Nat) : Nat := k / 512

/-! ### Delay blocks (R458) -/

/-- The block of a device that was never scanned: lanes at 0x80, nothing else stated (DESIGN CHOICE, log 58: zero). -/
def resetBlockBytes : List Byte :=
  zeros 16 ++ List.replicate 72 0x80 ++ ((List.range 4).map fun _ => [(0x80 : Byte), 0]).flatten ++ ((List.range 12).map fun _ => [(0 : Byte), 0x80]).flatten ++ zeros 8

def MemDev.delays (m : MemDev) : List Byte := if m.block.isEmpty then resetBlockBytes else m.block
def blockValid (l : List Byte) : Bool := bit (byteAt l 4) 0

/-- The data rate in Gb/s as binary32. -/
def rateF32 (r : Nat) : F32 := natToF32 r

/-- WR of the EDC lanes and RD of the CA lanes read 0 (R458). -/
def maskLanes (l : List Byte) : List Byte :=
  l.zipIdx.map fun (x : Byte × Nat) => if (88 ≤ x.2 ∧ x.2 < 96 ∧ x.2 % 2 = 1) ∨ (96 ≤ x.2 ∧ x.2 < 120 ∧ x.2 % 2 = 0) then 0 else x.1

/-- The block that a scan writes (R459): the found delays, the rate in force, VALID, the completion's timestamp. -/
def scanBlock (found : List Byte) (rate now : Nat) : List Byte :=
  leF32 (rateF32 rate) ++ le32 1 ++ le64 now ++ (maskLanes (padTo 128 found)).drop 16

/-- A block is bound to the rate in force (R460). -/
def Device.blockFits (d : Device) (l : List Byte) : Bool := blockValid l && f32At l 0 == rateF32 d.mem.rate

/-! ### Retirement (R465, R467) -/

def Device.inService (d : Device) (m : Nat) : Bool := (d.memDev m).state == .inService
def memDevices : List Nat := List.range 5

/-- A RESTORE under way for a device ends (R418, R466). -/
def Device.endRestore (d : Device) (m status : Nat) (payload : List Byte) : Device :=
  let mine := d.mem.restores.filter fun r => r.1 == m
  let d : Device := { d with mem := { d.mem with restores := d.mem.restores.filter fun r => r.1 ≠ m } }
  mine.foldl (fun d r => d.final? r.2 status payload) d

/-- Main memory goes out of service (R218, R467). -/
def Device.memOut (d : Device) : Device :=
  let d := d.parkAll (d.usedChans.filter fun ch => (d.chan ch).seq.memdep) 6 (d.time.now + 320)
  { d with
    mode := { d.mode with memPark := true }
    ready := { d.ready with regionNext := 0, regionClr := d.ready.region }
    mem := { d.mem with outOfService := true, wipeAt := none, pending := [] }
    store := { d.store with mem := [] } }

/-- A device is retired (R465); a second one takes main memory out of service. `check` says how it was found. -/
def Device.retire (d : Device) (m check : Nat) : Device :=
  let x := d.memDev m
  if x.state = .retired then d
  else
    let other := memDevices.any fun k => k ≠ m && ((d.memDev k).state == .retired || (d.memDev k).state == .rebuilding)
    let d := d.setMemDev m { x with state := .retired, copies := [], scanning := none }
    let d := d.endRestore m stFAULT_ACTIVE []
    let d := d.raiseErr (errAt (41 + m) 0 check none) d.time.now
    if other && !d.mem.outOfService then d.memOut else d

/-! ### Scans (R459, R460) and the data rate (R461) -/

/-- A scan of the devices of a mask starts at the rate in force. -/
def Device.startScan (d : Device) (purpose mask : Nat) (env : Option Env) : Device :=
  let job : ScanJob := { purpose := purpose, mask := mask, left := mask, results := [2, 2, 2, 2, 2], rate := d.mem.rate, env := env }
  let d : Device := { d with mem := { d.mem with jobs := d.mem.jobs ++ [job] } }
  d.each (memDevices.filter fun m => bit mask m) fun d m => d.setMemDev m { d.memDev m with scanning := some d.mem.rate }

/-- A waiting change of rate starts once no scan gathers data: every block loses VALID and the devices in service are scanned (R461). -/
def Device.startFreq (d : Device) : Device :=
  match d.mem.freq with
  | some f =>
    if f.running || !d.mem.jobs.isEmpty then d
    else
      let d : Device := { d with mem := { d.mem with rate := f.rate, freq := some { f with running := true } } }
      let d := d.each memDevices fun d m =>
        let x := d.memDev m
        d.setMemDev m { x with block := if x.block.isEmpty then x.block else x.block.set 4 (BitVec.ofNat 8 (clrBit (byteAt x.block 4) 0)) }
      d.startScan 3 ((memDevices.filter d.inService).foldl (fun w m => w + 2 ^ m) 0) none
  | none => d

/-- What a finished scan leads to (R459, R466). -/
def Device.finishJob (d : Device) (j : ScanJob) : Device :=
  if j.purpose = 1 then
    d.final? j.env stOK ((j.results.map fun r => BitVec.ofNat 8 r) ++ zeros 3 ++ leF32 (rateF32 j.rate))
  else d

/-- Result of a device's scan noted in the job that asked for it; a job whose devices are all done ends. -/
def Device.noteScan (d : Device) (m result : Nat) : Device :=
  let jobs := d.mem.jobs.map fun j => if bit j.left m then { j with left := clrBit j.left m, results := j.results.set m result } else j
  let past := jobs.filter fun j => j.left == 0
  let d : Device := { d with mem := { d.mem with jobs := jobs.filter fun j => j.left ≠ 0 } }
  (past.foldl (fun d j => d.finishJob j) d).startFreq

/-- Does the device hold data of every other device so that a rebuild can start: main memory is in service. -/
def Device.canRebuild (d : Device) : Bool := !d.mem.outOfService

/-- Everything placed in main memory is gone (R467): rings whose descriptors were not pinned in Case memory, segments and formes. -/
def Device.forgetMemory (d : Device) : Device :=
  let rings := (d.queue.rings.filter fun r => !(r.2.pool && d.pinned r.1)).map (·.1)
  let d := rings.foldl (fun d q => d.removeRing q) d
  let lost (g : Segment) : Bool := g.kind == 0 || (g.kind == 2 && (match g.ring with | some q => rings.contains q | none => false))
  let segs := d.seq.segments.filter fun s => match s.2 with | some g => !lost g | none => false
  let gone := (d.seq.segments.filter fun s => match s.2 with | some g => lost g | none => false).map (·.1)
  let d : Device := { d with seq := { d.seq with segments := segs }, mem := { d.mem with spans := [] } }
  d.each d.usedChans fun d ch =>
    let c := d.chan ch
    let d := d.setChan ch { c with resultRing := c.resultRing.filter fun q => !rings.contains q, captureRing := c.captureRing.filter fun q => !rings.contains q }
    if c.seq.locks.any (fun s => gone.contains s) || !c.seq.blocks.isEmpty then
      (d.unlockForme ch).onSeq ch fun _ => {}
    else d

/-- A restored device's scan found a setting (R466, R467): the rebuild starts, or, out of service, the device returns and with four devices
the data space is wiped again. -/
def Device.restored (d : Device) (m : Nat) : Device :=
  if d.canRebuild then d.setMemDev m { d.memDev m with state := .rebuilding }
  else
    let d := (d.setMemDev m { d.memDev m with state := .inService }).endRestore m stOK (le64 d.time.now)
    if 4 ≤ (memDevices.filter d.inService).length then
      let d' := d.forgetMemory
      { d' with mem := { d'.mem with outOfService := false, wipeAt := some 0 } }
    else d

/-- DELAY_SCAN_COMPLETE (R459, R460). -/
def Device.scanComplete (d : Device) (m : Nat) (found : Option (List Byte)) : Device :=
  let x := d.memDev m
  if !d.running || (x.scanning.isNone && x.state ≠ .training) then d
  else
    let rate := x.scanning.getD d.mem.rate
    let x := { x with scanning := none }
    if rate ≠ d.mem.rate then (d.setMemDev m x).noteScan m 2
    else
      match found with
      | some b =>
        let restore := d.mem.restores.any fun r => r.1 == m
        let state := if x.state = .training then .inService else x.state
        let d := d.setMemDev m { x with block := scanBlock b rate d.time.now, state := state }
        let d := if restore && x.state == .retired then d.restored m else d
        d.noteScan m 0
      | none =>
        let d := d.setMemDev m x
        let d := if x.state = .retired then d.endRestore m stFAULT_ACTIVE [] else d.retire m 10
        d.noteScan m 1

/-- MEMCTL reports ready: kept blocks that match the rate have been written and verified (R460), and their devices are in service. -/
def Device.verifyKept (d : Device) : Device :=
  d.each memDevices fun d m =>
    let x := d.memDev m
    if x.state = .training && x.scanning.isNone && d.blockFits x.delays then d.setMemDev m { x with state := .inService } else d

/-- MEM_FREQ_COMPLETE (R417, R461): the ports are released, waiting doorbells are served, and the completion reports the rate. -/
def Device.freqComplete (d : Device) : Device :=
  match d.mem.freq with
  | some f =>
    if !f.running || !d.mem.jobs.isEmpty then d
    else
      let dbs := d.queue.doorbells
      let d : Device := { d with mem := { d.mem with freq := none }, queue := { d.queue with doorbells := [] } }
      let d := dbs.foldl (fun d b => d.doorbellWrite b.1 b.2.1 b.2.2.1 true b.2.2.2 d.time.now) d
      d.final f.env stOK (leF32 (rateF32 d.mem.rate))
  | none => d

/-! ### Wipe, rebuild, rows, scrub (R464, R466, R468, R469) -/

/-- REGION_WIPE_COMPLETE (R468): in ascending order; region 0's end also ends MEM_PARK (R467). -/
def Device.regionWiped (d : Device) (r : Nat) : Device :=
  let mode := d.mode.phase
  let before := r = 0 || bit (d.ready.region ||| d.ready.regionNext) (r - 1)
  if d.mem.outOfService || !d.blk bMEMCTL then d
  else if mode = .wipe || ((mode = .bringUp || d.mem.wipeAt.isSome) && before) then
    let mem := d.store.mem.filter fun c => c.1 / 2 ^ 28 ≠ r
    let d : Device := { d with store := { d.store with mem := mem } }
    if mode = .wipe then d
    else
      { d with
        ready := { d.ready with regionNext := setBit d.ready.regionNext r }
        mem := { d.mem with wipeAt := if r = 63 then none else d.mem.wipeAt.map fun _ => r + 1 }
        mode := { d.mode with memPark := d.mode.memPark && r ≠ 0 } }
  else d

/-- REBUILD_COMPLETE (R466): not in die HOLD (R311). -/
def Device.rebuildComplete (d : Device) (m : Nat) : Device :=
  if (d.memDev m).state ≠ .rebuilding || d.imp.die.state = 2 || d.shutDown then d
  else (d.setMemDev m { d.memDev m with state := .inService }).endRestore m stOK (le64 d.time.now)

/-- Spare rows of a bank that are used or promised (R464). -/
def MemDev.sparesUsed (x : MemDev) (bank : Nat) : Nat :=
  (x.remap.filter fun r => r.1 / 65536 == bank).length + (x.copies.filter fun c => c.bank == bank).length

/-- A row is marked for retirement: its copy starts unless one of its bank runs (R464, R471). -/
def MemDev.markRow (x : MemDev) (bank row : Nat) : MemDev :=
  let c : RowCopy := { bank := bank, row := row, spare := 32752 + x.sparesUsed bank, started := !(x.copies.any fun c => c.bank == bank) }
  { x with copies := x.copies ++ [c], banks := tabSet {} x.banks bank { tabGet {} x.banks bank with inOrder := true } }

/-- ROW_COPY_COMPLETE (R464): the remapping is entered and journalled, the bank leaves in-order mode or takes its next marked row. -/
def Device.rowCopied (d : Device) (m : Nat) : Device :=
  let x := d.memDev m
  match x.copies.find? (·.started) with
  | none => d
  | some c =>
    let rest := x.copies.erase c
    let next := rest.find? fun y => y.bank == c.bank
    let rest := match next with | some y => rest.map fun z => if z = y then { y with started := true } else z | none => rest
    let key := c.bank * 65536 + c.row
    let banks := tabSet {} x.banks c.bank { tabGet {} x.banks c.bank with inOrder := next.isSome }
    let d := d.setMemDev m { x with copies := rest, remap := (x.remap.filter fun r => r.1 ≠ key) ++ [(key, c.spare)], banks := banks }
    d.journal 5 d.modeCode 255 d.time.now 0 0 0 (rowRecord m c.bank c.row c.spare false)

/-- SCRUB (R469): stripes are read on the background port; not in die HOLD, and not out of service. Parity always matches the data here, so
nothing is rewritten. -/
def Device.scrub (d : Device) (row : Nat) : Device :=
  if !d.blk bMEMCTL || d.mem.outOfService || d.imp.die.state = 2 || d.shutDown then d
  else { d with mem := { d.mem with scrubAt := row % 32768, scrubFrom := if row = 0 then d.time.now else d.mem.scrubFrom } }

/-! ### Banks (R455..R457) and write buffers (R450) -/

def Device.onBank (d : Device) (m bank : Nat) (f : MemBank → MemBank) : Device :=
  let x := d.memDev m
  d.setMemDev m { x with banks := tabSet {} x.banks bank (f (tabGet {} x.banks bank)) }

/-- REFRESH_DEADLINE (R456): the debt has reached +8, and the refresh lowers it by one; the page counter stays. -/
def Device.refresh (d : Device) (m bank : Nat) : Device :=
  if (d.memDev m).state = .retired then d else d.onBank m bank fun b => { b with debt := 7, openRow := none }

/-- The bank keeps its row open while the page counter is 2 or 3 (R457). -/
def MemBank.settle (b : MemBank) (row : Option Nat) : MemBank := { b with openRow := if 2 ≤ b.page then row else none }

/-- PAGE_IDLE_TIMEOUT (R457): no request within 100 ns of an access. -/
def Device.pageIdle (d : Device) (m bank : Nat) : Device :=
  d.onBank m bank fun b => if b.last.isNone then b else ({ b with page := b.page - 1, last := none } : MemBank).settle b.openRow

/-- One access to a row of a bank: the counter of the access before it moves, and this one opens its row. -/
def MemBank.access (b : MemBank) (row : Nat) : MemBank :=
  let page := match b.last with | some r => if r = row then min 3 (b.page + 1) else b.page - 1 | none => b.page
  ({ b with page := page, last := some row } : MemBank).settle (some row)

/-- The units of a stripe are accessed; units on a retired device are reconstructed (R465). -/
def Device.touchStripe (d : Device) (k : Nat) : Device :=
  (List.range 4).foldl (fun d j =>
    let m := unitDev k j
    if d.inService m then d.onBank m (bankOf k) fun b => b.access (rowOf k)
    else d.setMemDev m { d.memDev m with reconstructed := (d.memDev m).reconstructed + 1 }) d

def stripesOf (a n : Nat) : List Nat := offsets (stripeOf a) (stripeOf (a + n - 1))

/-- The 64-byte pieces of a stripe that a write covers. -/
def piecesOf (k a n : Nat) : Nat := (List.range 16).foldl (fun w i => w + flag (decide (a ≤ k * 1024 + 64 * i ∧ k * 1024 + 64 * i < a + n)) i) 0

/-- A write to a stripe joins the write buffer (R450); a stripe that is covered whole goes out as a full-stripe write, which ends a poisoning. -/
def Device.combine (d : Device) (a n k : Nat) : Device :=
  let old := d.mem.pending.find? fun c => c.stripe == k
  let units := (match old with | some c => c.units | none => 0) ||| piecesOf k a n
  let rest := d.mem.pending.filter fun c => c.stripe ≠ k
  if units = 65535 then { d with mem := { d.mem with pending := rest, poisoned := d.mem.poisoned.filter (· ≠ k) } }
  else
    let c : Combine := { stripe := k, since := (match old with | some c => c.since | none => d.time.now), units := units }
    { d with mem := { d.mem with pending := rest ++ [c] } }

/-- WRITE_COMBINE_TIMEOUT (R450): the oldest waiting stripe goes out as a partial write. Its bytes are read back as written from the write
on (R451, R455). -/
def Device.combineTimeout (d : Device) : Device := { d with mem := { d.mem with pending := d.mem.pending.drop 1 } }

/-! ### The memory opcodes (R415..R418) -/

def runMemStatus (_c : Cmd) (d : Device) : Res :=
  let rec_ (d : Device) (m : Nat) : List Byte × Device :=
    let x := d.memDev m
    let (k, d) := if x.state = .rebuilding then d.free else (0, d)
    ([BitVec.ofNat 8 x.state.code, 0] ++ le16 x.remap.length ++ le32 x.corrected ++ le32 x.reconstructed ++
      leF32 (ratToF32 (((k % 1048577 : Nat) : Rat) / 1048576)), d)
  let (recs, d) := memDevices.foldl (fun (acc : List Byte × Device) m => let (l, d) := rec_ acc.2 m; (acc.1 ++ l, d)) ([], d)
  ok d (le64 d.ready.region ++ leF32 (rateF32 d.mem.rate) ++ le32 (flag (!d.mem.jobs.isEmpty) 0 + flag d.mem.freq.isSome 1) ++ recs)

def memDelaysStatic (c : Cmd) : List Check :=
  [bad (decide (4 < c.u8 0)) 0, resv c.par [1, 2, 3]] ++
  (if c.opf = 1 then [bad (decide (4 ≤ c.u32 8)) 8, resv c.par [130, 131], bad (decide (c.u8 129 ≤ c.u8 128)) 129] else [])

/-- MEM_DELAYS (R415, R458, R460). -/
def runMemDelays (c : Cmd) (d : Device) : Res :=
  let x := d.memDev (c.u8 0)
  if c.opf = 0 then checked d (memDelaysStatic c) (ok d x.delays)
  else
    let b := c.par.drop 4
    checked d (memDelaysStatic c ++ [bad (f32At b 0 ≠ rateF32 d.mem.rate) 4, bad (!blockValid b) 8, no (x.state == .inService) stBUSY])
      (ok (d.setMemDev (c.u8 0) { x with block := b.take 16 ++ (maskLanes b).drop 16 }) [])

def memScanStatic (c : Cmd) : List Check := [bad (decide (32 ≤ c.u32 0)) 0]

/-- MEM_SCAN (R415, R459, R471). -/
def runMemScan (c : Cmd) (d : Device) : Res :=
  let mask := c.u32 0
  let busy := !d.mem.jobs.isEmpty || d.mem.freq.isSome || memDevices.any fun m => (d.memDev m).scanning.isSome
  checked d (memScanStatic c ++ [no (busy || memDevices.any fun m => bit mask m && d.inService m) stBUSY])
    (if mask = 0 then (.both [] stOK (List.replicate 5 2 ++ zeros 3 ++ leF32 (rateF32 d.mem.rate)), d)
     else (.interim stACCEPTED [], d.startScan 1 mask (some c.env)))

/-- The rate of MEM_FREQ's parameter. -/
def freqOf (c : Cmd) : Option Nat := [16, 20, 24, 28, 32].find? fun r => rateF32 r == c.f32 0

def memFreqStatic (c : Cmd) : List Check := [bad (freqOf c).isNone 0]

/-- MEM_FREQ (R417): BUSY_TRAINING while scan data are being gathered. -/
def runMemFreq (c : Cmd) (d : Device) : Res :=
  checked d (memFreqStatic c ++ [no (d.anyArmed || d.mem.freq.isSome) stBUSY])
    (let d' : Device := { d with mem := { d.mem with freq := some { rate := (freqOf c).getD 32, running := false, env := c.env } } }
     (.interim (if d.mem.jobs.isEmpty then stACCEPTED else stBUSY_TRAINING) [], d'.startFreq))

def memRetireStatic (c : Cmd) : List Check :=
  let op := c.u8 0
  [bad (decide (2 < op)) 0, bad (decide (4 < c.u8 1)) 1, bad (if op = 2 then decide (64 ≤ c.u16 2) else c.u16 2 ≠ 0) 2,
   bad (if op = 2 then decide (32752 ≤ c.u32 4) else c.u32 4 ≠ 0) 4]

/-- MEM_RETIRE (R418, R464..R467). -/
def runMemRetire (c : Cmd) (d : Device) : Res :=
  let m := c.u8 1
  let x := d.memDev m
  let others := memDevices.any fun k => k ≠ m && ((d.memDev k).state == .retired || (d.memDev k).state == .rebuilding)
  match c.u8 0 with
  | 0 => checked d (memRetireStatic c ++ [no (others && c.opf ≠ 1) stBUSY]) (ok (d.retire m 8) [])
  | 1 =>
    checked d (memRetireStatic c ++ [no (x.state ≠ .retired || d.mem.restores.any fun r => r.1 == m) stBUSY])
      (let d' : Device := { d with mem := { d.mem with restores := d.mem.restores ++ [(m, some c.env)] } }
       (.interim stACCEPTED [], d'.startScan 2 (2 ^ m) none))
  | _ =>
    checked d (memRetireStatic c ++ [no (decide (16 ≤ x.sparesUsed (c.u16 2))) stBUSY])
      (let y := x.markRow (c.u16 2) (c.u32 4)
       ok (d.setMemDev m y) (le32 (16 - y.sparesUsed (c.u16 2))))

/-- Address and length of a MEM_READ or MEM_WRITE within the data space, clear of the spare rows (R415, R448). -/
def spanChecks (d : Device) (a n : Nat) : List Check :=
  [bad (a % 64 ≠ 0 || decide (dataTop < a + n)) 0,
   no (d.mem.outOfService || !d.spanReady a (max n 1)) stNOT_READY]

def memReadStatic (c : Cmd) : List Check :=
  [bad (c.u64 0 % 64 ≠ 0) 0, bad (decide (c.u32 8 < 64) || decide (4096 < c.u32 8) || c.u32 8 % 64 ≠ 0) 8, bad (decide (dataTop < c.u64 0 + c.u32 8)) 0]

/-- MEM_READ (R415, R463): poisoned data answer FAULT_ACTIVE. -/
def runMemRead (c : Cmd) (d : Device) : Res :=
  let a := c.u64 0
  let n := c.u32 8
  checked d (memReadStatic c ++ spanChecks d a n)
    (let d := (stripesOf a n).foldl (fun d k => d.touchStripe k) d
     if (stripesOf a n).any fun k => d.mem.poisoned.contains k then (.done stFAULT_ACTIVE [], d) else ok d (cellsRead d.store.mem a n))

/-- Addresses held by a ring, the descriptor table, a locked segment or a sequence program (R415). -/
def Device.heldSpan (d : Device) (a n : Nat) : Bool :=
  let hit (s z : Nat) : Bool := decide (s < a + n) && decide (a < s + z)
  decide (a < descriptorTable) || (d.queue.rings.any fun r => !r.2.pool && hit r.2.devAddr r.2.z) ||
  (d.seq.segments.any fun s => match s.2 with | some g => decide (0 < g.locks) && g.blocks.any (fun b => hit b 4096) | none => false) ||
  d.chans.any fun c => c.2.seq.blocks.any fun b => hit b 4096

def memWriteStatic (c : Cmd) : List Check := [bad (c.u64 0 % 64 ≠ 0) 0, bad (decide (dataTop < c.u64 0 + (c.par.length - 8))) 0]

/-- MEM_WRITE (R415, R450). -/
def runMemWrite (c : Cmd) (d : Device) : Res :=
  let a := c.u64 0
  let data := c.par.drop 8
  checked d (memWriteStatic c ++ spanChecks d a data.length ++ [no (d.heldSpan a data.length) stLOCKED])
    (let d : Device := { d with store := { d.store with mem := cellsWrite d.store.mem a data } }
     ok ((stripesOf a data.length).foldl (fun d k => (d.touchStripe k).combine a data.length k) d) [])

end Sys2Proof.Machine
end

