-- ==== Sys2Proof/Machine/ProofMode.lean ====
section
/-! DEFINITION. PROOF: designation, injection and perturbation (R32, R49, R420, R421, R492..R498). -/

namespace Sys2Proof.Machine

/-! ### PRF_ENTER and PRF_EXIT (R36, R420, R492) -/

def prfEngines (c : Cmd) : Nat := leNat (c.par.take 9)
def prfChannels (c : Cmd) : Nat := leNat ((c.par.drop 16).take 64)
def prfLinks (c : Cmd) : Nat := leNat ((c.par.drop 80).take 64)

def prfEnterStatic (c : Cmd) : List Check := [resv c.par (offsets 9 15)]

/-- A designated engine holds a slot whose channels are not all designated (R420). -/
def Device.engineAlone (d : Device) (engines chans : Nat) : Bool :=
  (List.range 72).any fun e => bit engines e && (match d.slotOf e with | some j => (slotChans j).any fun ch => !bit chans ch | none => false)

def runPrfEnter (c : Cmd) (d : Device) : Res :=
  let e := prfEngines c
  let ch := prfChannels c
  checked d (prfEnterStatic c ++
      [no (d.otp.lc ≠ 1 && !(d.otp.lc == 2 && d.flash.proofPermitted)) stDENIED, no (!(d.runFamily || d.inStandby)) stWRONG_MODE,
       badAny (d.engineAlone e ch), no (d.chans.any fun x => bit ch x.1 && (x.2.armed || x.2.armReq.isSome)) stBUSY])
    (let b := d.boundary c
     okBoundary (d.commandMode c (.proofEnter e ch (prfLinks c)) b) b)

def runPrfExit (c : Cmd) (d : Device) : Res :=
  checked d [no (!d.inProof) stWRONG_MODE]
    (let b := d.boundary c
     okBoundary (d.commandMode c .proofExit b) b)

/-! ### PRF_INJECT and PRF_PERTURB (R421, R493, R497) -/

/-- Kinds of unit by PF_WORD bit (R493): 1 engine, 2 link, 3 channel, 0 none. -/
def unitKind (b : Nat) : Nat :=
  if b ≤ 8 then 1 else if b ≤ 40 then 2 else if b ≤ 45 ∨ b = 47 ∨ b = 48 ∨ b = 58 then 3 else 0

/-- A unit is designated and lies under its bit. -/
def Device.designated (d : Device) (b u : Nat) : Bool :=
  match unitKind b with
  | 1 => u / 8 == b && bit d.proof.engines u
  | 2 => decide (u < 512) && u / 16 + 9 == b && bit d.proof.links u
  | 3 => decide (u < 512) && bit d.proof.channels u
  | _ => false

/-- Classes allowed under a bit (R493). -/
def classAllowed (b cls : Nat) : Bool :=
  match unitKind b with
  | 1 => cls == 0 || cls == 1 || cls == 4
  | 2 => cls == 1 || cls == 2 || cls == 3
  | 3 => if b = 47 then cls == 0 else if b = 58 then cls == 3 else cls == 2
  | _ => false

def prfInjectStatic (c : Cmd) : List Check := [bad (decide (65535 < c.u32 4)) 4, resv c.par (offsets 12 15)]

/-- An injection in force: the old one of its unit and class goes; an amount of 0 sets none (R493). -/
def applyPrfInject (c : Cmd) (d : Device) : Device :=
  let rest := d.proof.injections.filter fun i => !(i.cls == c.u8 0 && i.bit == c.u8 1 && i.unit == c.u16 2)
  let i : Injection := { cls := c.u8 0, bit := c.u8 1, unit := c.u16 2, left := c.u32 4, mask := c.u32 8 }
  if d.inProof then { d with proof := { d.proof with injections := if c.u32 4 = 0 then rest else rest ++ [i] } } else d

def runPrfInject (c : Cmd) (d : Device) : Res :=
  checked d ([no (!d.inProof) stWRONG_MODE] ++ prfInjectStatic c ++
      [bad (!classAllowed (c.u8 1) (c.u8 0)) 0, bad (!d.designated (c.u8 1) (c.u16 2)) 2])
    (let b := d.boundary c
     okBoundary (d.atBoundary .prfInject c applyPrfInject) b)

/-- Greatest amount of a kind (R421). -/
def perturbMax (kind : Nat) : Nat := match kind with | 0 => 64 | 1 => 100 | 2 => 2000 | 4 => 100 | _ => 2 ^ 32

/-- The unit that a kind names (R497). -/
def kindUnit (kind : Nat) : Nat := if kind = 3 then 1 else if kind = 0 then 2 else 3

def prfPerturbStatic (c : Cmd) : List Check :=
  [bad (decide (4 < c.u8 0)) 0, bad (unitKind (c.u8 1) ≠ kindUnit (c.u8 0)) 1, bad (decide (perturbMax (c.u8 0) < c.u32 4)) 4, resv c.par (offsets 8 15)]

def Device.setPerturb (d : Device) (c : Cmd) : Device :=
  let rest := d.proof.perturbs.filter fun p => !(p.kind == c.u8 0 && p.bit == c.u8 1 && p.unit == c.u16 2)
  let p : Perturb := { kind := c.u8 0, bit := c.u8 1, unit := c.u16 2, amount := c.u32 4, lfsr := 1 }
  { d with proof := { d.proof with perturbs := if c.u32 4 = 0 then rest else rest ++ [p] } }

def applyPrfPerturb (c : Cmd) (d : Device) : Device := if d.inProof then d.setPerturb c else d

def runPrfPerturb (c : Cmd) (d : Device) : Res :=
  checked d ([no (!d.inProof) stWRONG_MODE] ++ prfPerturbStatic c ++ [bad (!d.designated (c.u8 1) (c.u16 2)) 2] ++
      (if c.u8 0 = 3 then [budgetCheck (d.setPerturb c)] else []))
    (let b := d.boundary c
     okBoundary (d.atBoundary .prfPerturb c applyPrfPerturb) b)

/-- The 23-bit LFSR of R497: x^23 + x^18 + 1. -/
def lfsrStep (x : Nat) : Nat := (2 * x + (if bit x 22 = bit x 17 then 0 else 1)) % 8388608

/-- Link latency chooses once a frame (R497); the choice moves its LFSR on by one step (DESIGN CHOICE, log 59). -/
def Device.perturbTick (d : Device) : Device :=
  { d with proof := { d.proof with perturbs := d.proof.perturbs.map fun p => if p.kind = 0 then { p with lfsr := lfsrStep p.lfsr } else p } }

end Sys2Proof.Machine
end

