-- ==== Sys2Proof/Machine/Registration.lean ====
section
/-! DEFINITION. Registration and the Zhepin ring (R318..R340, R346, R347): cells, ports, joining, skew, marks, cross-device events,
arm-at-time, and the REG_ opcodes (R406..R408). -/

namespace Sys2Proof.Machine

/-! ### Cells (R322, R324) -/

def ctNEIGHBOR := 0x02
def ctPING := 0x03
def ctECHO := 0x04
def ctRESEND := 0x05
def ctEPOCH := 0x06
def ctEVENT := 0x08
def ctARM := 0x09
def ctLEDGER := 0x0A
def ctSTATE := 0x0B
def ctREQ := 0x0C
def ctGRANT := 0x0D
def ctCANCEL := 0x0E
def ctMSG := 0x10

end Sys2Proof.Machine

namespace Sys2Proof
open Sys2Proof.Machine

/-- Fields of a cell's header (R322). -/
def Cell.head (c : Cell) : Nat := c.header.toNat
def Cell.type (c : Cell) : Nat := bits c.head 7 0
def Cell.lseq (c : Cell) : Nat := bits c.head 11 8
def Cell.bcast (c : Cell) : Bool := bit c.head 15
def Cell.origin (c : Cell) : Nat := bits c.head 25 16
def Cell.dest (c : Cell) : Nat := bits c.head 35 26
def Cell.cseq (c : Cell) : Nat := bits c.head 51 36
def Cell.hops (c : Cell) : Nat := bits c.head 58 52
def Cell.originValid (c : Cell) : Bool := bit c.head 59

/-- Payload word `i`, counted from 1. -/
def Cell.w (c : Cell) (i : Nat) : Nat := (c.words.getD (i - 1) 0).toNat

/-- LEN of the types (R324): least and most. -/
def lenOf (ty : Nat) : Nat × Nat :=
  if ty = ctNEIGHBOR ∨ ty = ctECHO ∨ ty = ctARM ∨ ty = ctLEDGER then (3, 3)
  else if ty = ctPING ∨ ty = ctSTATE ∨ ty = ctCANCEL then (1, 1)
  else if ty = ctEPOCH ∨ ty = ctGRANT then (2, 2)
  else if ty = ctEVENT ∨ ty = ctREQ then (5, 5)
  else if ty = ctMSG then (1, 6) else (0, 0)

/-- A received cell is one of a type, with that type's length. -/
def Cell.isType (c : Cell) (ty : Nat) : Bool :=
  c.type == ty && bits c.head 14 12 == c.words.length && decide ((lenOf ty).1 ≤ c.words.length) && decide (c.words.length ≤ (lenOf ty).2)

/-- A header word (R322). -/
def mkHeader (ty lseq len : Nat) (bcast : Bool) (origin dest seq hops : Nat) (ov : Bool) : Word64 :=
  BitVec.ofNat 64 (ty + lseq % 16 * 2 ^ 8 + len * 2 ^ 12 + flag bcast 15 + origin * 2 ^ 16 + dest * 2 ^ 26 + seq % 65536 * 2 ^ 36 + hops * 2 ^ 52 + flag ov 59)

/-- A cell with another link sequence and hop count, as a port sends it on. -/
def Cell.relink (c : Cell) (lseq hops : Nat) : Cell :=
  { c with header := mkHeader c.type lseq c.words.length c.bcast c.origin c.dest c.cseq hops c.originValid }

/-- The contents of a NEIGHBOR cell (R324). -/
def Cell.neighbor (c : Cell) : NeighborInfo :=
  let a := c.w 1
  { id := if bit a 10 then some (bits a 9 0) else none, state := bits a 13 11, port := bits a 16 14, n := bits a 22 17, m := bits a 28 23, e := bits a 33 29
    timekeeper := bits a 43 34, frames := bits a 57 44, sysTime := c.w 2, mark := bits (c.w 3) 31 0, path := bits (c.w 3) 37 32 }

end Sys2Proof

namespace Sys2Proof.Machine

def word64 (n : Nat) : Word64 := BitVec.ofNat 64 n

/-! ### Sending -/

/-- A cell leaves a port with the port's next link sequence; the last 16 are kept (R323). -/
def Device.putCell (d : Device) (p : Nat) (c : Cell) : Device :=
  let x := d.port p
  let c := c.relink x.txSeq c.hops
  let d := d.setPort p { x with txSeq := (x.txSeq + 1) % 16, sent := ((x.sent ++ [(x.txSeq, c)]).drop ((x.sent.length + 1) - 16)) }
  { d with reg := { d.reg with sent := (p, c) :: d.reg.sent } }

def ports6 : List Nat := List.range 6
def Device.portsUp (d : Device) : List Nat := ports6.filter fun p => (d.port p).up

/-- Zhepin transmitters run (R319). -/
def Device.zhepinOn (d : Device) : Bool := d.running && d.blk bZHEPIN

/-- A cell of this device: its ID where it has one, its next SEQ. -/
def Device.newCell (d : Device) (ty : Nat) (bcast : Bool) (dest : Nat) (words : List Nat) : Cell × Device :=
  let ov := d.reg.state == .registered && d.reg.id.isSome
  let c : Cell := { header := mkHeader ty 0 words.length bcast (if ov then d.reg.id.getD 0 else 0) dest d.reg.seq 1 ov, words := words.map word64,
                    crcOk := true }
  (c, { d with reg := { d.reg with seq := (d.reg.seq + 1) % 65536 } })

/-- A link-local cell on one port. -/
def Device.sendLocal (d : Device) (p ty : Nat) (words : List Nat) : Device :=
  let (c, d) := d.newCell ty false 0 words
  d.putCell p c

/-- A broadcast on every UP port; its copies that come back are known (R323). -/
def Device.broadcast (d : Device) (ty : Nat) (words : List Nat) : Device :=
  if !d.zhepinOn then d
  else
    let (c, d) := d.newCell ty true 0 words
    let d := { d with reg := { d.reg with seen := (c.origin, c.cseq, d.time.now) :: d.reg.seen } }
    d.portsUp.foldl (fun d p => d.putCell p c) d

/-! ### Routing (R318, R323) -/

/-- Distance around a ring of `k` places. -/
def ringGap (k a b : Nat) : Nat := let x := (b + k - a % max k 1) % max k 1
                                   min x (k - x)

/-- Links between two seats of one ring: skip links from 4 seats on. -/
def seatHops (n a b : Nat) : Nat := if 4 ≤ n then (ringGap n a b + 1) / 2 else ringGap n a b

/-- Links on the shortest path between two device IDs in a system without faults (R318). -/
def hopsBetween (n m a b : Nat) : Nat :=
  if a / 32 = b / 32 then seatHops n (a % 32) (b % 32)
  else
    let via (s : Nat) := seatHops n (a % 32) s + ringGap m (a / 32) (b / 32) + seatHops n s (b % 32)
    if 16 < n then min (via 0) (via 16) else via 0

/-- The UP port on the shortest path to a device, as far as NEIGHBOR cells tell (R323; DEDUCED, log 46): least distance from its neighbour,
then the lowest port. -/
def Device.routePort (d : Device) (dest : Nat) : Option Nat :=
  let c := d.portsUp.filterMap fun p => match (d.port p).last with
    | some i => i.id.map fun id => (hopsBetween d.reg.n d.reg.m id dest, p)
    | none => none
  (c.foldl (fun (best : Option (Nat × Nat)) x => match best with
    | none => some x
    | some b => if x.1 < b.1 then some x else some b) none).map (·.2)

/-- A point-to-point cell of this device. -/
def Device.sendTo (d : Device) (dest ty : Nat) (words : List Nat) : Device :=
  if !d.zhepinOn then d
  else
    match d.routePort dest with
    | none => d
    | some p => let (c, d) := d.newCell ty false dest words
                d.putCell p c

/-- A cell of another device goes on (R323): every UP port but its own for a broadcast, the shortest path else; more than 64 hops drop it. -/
def Device.forward (d : Device) (p : Nat) (c : Cell) : Device :=
  if 64 < c.hops + 1 then d
  else
    let c := c.relink 0 (c.hops + 1)
    if c.bcast then (d.portsUp.filter (· ≠ p)).foldl (fun d q => d.putCell q c) d
    else match d.routePort c.dest with | some q => d.putCell q c | none => d

/-! ### Receiving (R323) -/

/-- A cell dropped on a port is counted; more than 16 in a second raise bit 55. -/
def Device.dropCell (d : Device) (p : Nat) : Device :=
  let x := d.port p
  let fresh := secUnits ≤ d.time.now - x.dropFrom
  let x := if fresh then { x with dropWin := 1, dropFrom := d.time.now } else { x with dropWin := x.dropWin + 1 }
  let d := d.setPort p { x with dropped := sat32 (x.dropped + 1) }
  let d := { d with reg := { d.reg with dropped := sat32 (d.reg.dropped + 1) } }
  if x.dropWin = 17 then d.raiseErr (errAt 55 0 8 none) d.time.now else d

/-- A trailer CRC failed: RESEND names the cell's LSEQ; a second failure drops the cell. -/
def Device.badCell (d : Device) (p : Nat) (c : Cell) : Device :=
  let x := d.port p
  if x.failed = some c.lseq then (d.setPort p { x with failed := none }).dropCell p
  else
    let d := d.setPort p { x with failed := some c.lseq }
    let r : Cell := { header := mkHeader ctRESEND c.lseq 0 false 0 0 0 1 false, words := [], crcOk := true }
    { d with reg := { d.reg with sent := (p, r) :: d.reg.sent } }

/-- What every received cell meets: the transmitters run, the check fields match, the type is the command's own, the port is UP (a NEIGHBOR
cell brings it up), copies of a broadcast seen within 8 µs are dropped, and cells for others go on. -/
def Device.receive (d : Device) (p : Nat) (c : Cell) (t ty : Nat) (k : Device → Device) : Device :=
  if !d.zhepinOn then d
  else
    let d := d.at t
    if !c.crcOk then d.badCell p c
    else
      let x := d.port p
      let d := if x.failed = some c.lseq then d.setPort p { x with failed := none } else d
      if !c.isType ty || (!x.up && ty ≠ ctNEIGHBOR) then d
      else if ty = ctNEIGHBOR ∨ ty = ctPING ∨ ty = ctECHO then k d
      else if c.bcast then
        let fresh := d.reg.seen.filter fun s => decide (d.time.now < s.2.2 + 128000)
        if fresh.any fun s => s.1 == c.origin && s.2.1 == c.cseq then d
        else
          let d := { d with reg := { d.reg with seen := (c.origin, c.cseq, d.time.now) :: fresh } }
          k (d.forward p c)
      else if d.reg.id = some c.dest then k d
      else d.forward p c

/-! ### Time (R328, R331, R332) -/

/-- A system-time estimate in 1/16 tick unit: the grid's time with the fraction that it has not taken up. -/
def Device.estimate (d : Device) (t : Nat) : Nat := (16 * (t : Int) + d.reg.frac).toNat

/-- Mean of stamps in 1/32 tick unit, in tick units. -/
def meanStamp (l : List Int) : Rat := if l.isEmpty then 0 else ((l.foldl (· + ·) 0 : Int) : Rat) / ((32 * l.length : Nat) : Rat)

def ZPort.thetaF (x : ZPort) : Rat := meanStamp x.theta
def ZPort.deltaF (x : ZPort) : Rat := meanStamp x.delta

/-- The timebase steps to a time (R328): frame k begins at k × 160 × N. Exchanges taken in the old time are discarded. -/
def Device.stepTime (d : Device) (now : Nat) : Device :=
  let len := max 1 (160 * d.time.n)
  let ports : Tab ZPort := (d.reg.ports.map fun p => (p.1, { p.2 with theta := [], delta := [], pingAt := none })).filter fun p => p.2 ≠ {}
  { d with
    time := { d.time with now := now, frame := now / len, tick := now / len * len, started := true }
    reg := { d.reg with ports := ports, seen := d.reg.seen.map fun s => (s.1, s.2.1, now - (d.time.now - s.2.2)) } }

/-- Rounding to a whole tick unit, halves upward (R332). -/
def roundHalfUp (q : Rat) : Int := (q + 1 / 2).floor

/-- The distance of marks in tick units: 2^e × 160 (R326). -/
def RegUnit.markStep (r : RegUnit) : Nat := 2 ^ r.e * 160

/-- Number of the last mark (R326). -/
def Device.lastMark (d : Device) : Nat := d.time.now / d.reg.markStep

/-! ### Joining (R327..R330) -/

/-- A registered neighbour on an UP port. -/
def Device.registeredPorts (d : Device) : List (Nat × NeighborInfo) :=
  d.portsUp.filterMap fun p => match (d.port p).last with | some i => if i.state = 3 then some (p, i) else none | none => none

/-- The ID that a neighbour's ID implies (R329). -/
def derivedId (n m p id : Nat) : Nat :=
  let r := id / 32
  let s := id % 32
  match p with
  | 0 => 32 * r + (s + n - 1) % n
  | 1 => 32 * r + (s + 1) % n
  | 2 => 32 * r + (s + 2 * n - 2) % n
  | 3 => 32 * r + (s + 2) % n
  | 4 => 32 * ((r + m - 1) % m) + s
  | _ => 32 * ((r + 1) % m) + s

/-- IDs implied by the neighbours that report a valid one. -/
def Device.impliedIds (d : Device) : List Nat :=
  dedup (d.portsUp.filterMap fun p => match (d.port p).last with
    | some i => i.id.map (derivedId d.reg.n d.reg.m p)
    | none => none)

/-- A failed join (R328): the completion carries the failure. -/
def Device.joinFailed (d : Device) (status : Nat) (payload : List Byte) : Device :=
  let d' : Device := { d with reg := { d.reg with state := .failed, env := none } }
  d'.final? d.reg.env status payload

/-- The system's n, m, e and N of a refusal, laid out as in the join record's order (DESIGN CHOICE, log 47). -/
def systemBytes (i : NeighborInfo) : List Byte := [BitVec.ofNat 8 i.n, BitVec.ofNat 8 i.m, BitVec.ofNat 8 i.e, 0] ++ le32 i.frames

/-- Rows of R328 for a joining member that look at its neighbours, first row first: shape, e or N that differ; IDs that disagree or are held;
else the derived ID stands. -/
def Device.judgeJoin (d : Device) : Device :=
  let r := d.reg
  if r.state ≠ .joining || r.timekeeper then d
  else
    let regs := d.registeredPorts
    match regs.find? fun x => x.2.n ≠ r.n || x.2.m ≠ r.m || x.2.e ≠ r.e || x.2.frames ≠ r.nExpected || x.2.frames ≠ d.time.n with
    | some (_, i) =>
      let nBad := i.frames ≠ r.nExpected || i.frames ≠ d.time.n
      let d' : Device := { d with reg := { r with nMismatch := r.nMismatch || nBad } }
      d'.joinFailed stBAD_PARAM (systemBytes i)
    | none =>
      let ids := d.impliedIds
      let clash : Bool := match ids with
        | [] => false
        | [x] => regs.any fun y => y.2.id == some x
        | _ => true
      if clash then
        let d' : Device := { d with reg := { r with cabling := true } }
        (d'.raiseErr (errAt 55 0 9 none) d.time.now).joinFailed stFAULT_ACTIVE []
      else
        { d with reg := { r with id := ids.head?, neighborSince := if regs.isEmpty then none else some (r.neighborSince.getD d.time.now) } }

/-- JOINING to ALIGNING (R328): the timebase steps; the time parent is chosen among registered neighbours. -/
def Device.align (d : Device) (now : Nat) (miss : Bool) : Device :=
  let d := d.stepTime now
  { d with reg := { d.reg with state := .aligning, markMiss := miss, edgeAt := none, frac := 0 } }

/-- A registered device: time is system time (R11, R328); the completion carries the ID and the instant. -/
def Device.becomeRegistered (d : Device) : Device :=
  let env := d.reg.env
  let d : Device := { d with reg := { d.reg with state := .registered, env := none, regAt := d.time.now, candidate := 0 }
                             time := { d.time with localTime := false } }
  d.final? env stOK (le16 d.idWord ++ zeros 6 ++ le64 d.time.now)

/-- The timekeeper's mark 0 (R328): system time 0, frame 0. -/
def Device.markZero (d : Device) (now : Nat) : Device :=
  let d := d.stepTime now
  let d : Device := { d with reg := { d.reg with id := some 0, tkId := some 0, path := 0, parent := none, frac := 0 } }
  d.becomeRegistered

/-- A joining member with a pulse edge and the EPOCH cell of its mark within 10 µs, and a registered neighbour, takes its coarse time: the
mark's time, λ periods and what has passed since the edge (R326, R328). -/
def Device.tryMark (d : Device) : Device :=
  let r := d.reg
  match r.edgeAt, r.markAt with
  | some e, some m =>
    if r.state == .joining && !r.timekeeper && r.neighborSince.isSome && decide (m ≤ e + 160000) && decide (e ≤ m + 160000) then
      d.align (r.markTime / 16 + r.lambda * 160 + (d.time.now - e)) false
    else d
  | _, _ => d

/-! ### The time parent (R332) -/

/-- A neighbour that can be the time parent: port and reported path length. -/
def Device.parentCands (d : Device) : List (Nat × Nat) := (d.registeredPorts.filter fun x => decide (x.2.path < 63)).map fun x => (x.1, x.2.path)

def bestParent (l : List (Nat × Nat)) : Option (Nat × Nat) :=
  l.foldl (fun (b : Option (Nat × Nat)) x => match b with | none => some x | some y => if x.2 < y.2 then some x else some y) none

/-- The parent after a NEIGHBOR cell on port `p`: a device without one takes the best; else another port changes it that has reported the
smaller path in 8 cells in a row. -/
def Device.chooseParent (d : Device) (p : Nat) : Device :=
  let r := d.reg
  if r.timekeeper || r.state == .unjoined || r.state == .failed then { d with reg := { r with parent := none, path := if r.timekeeper && r.state == .registered then 0 else 63 } }
  else
    let l := d.parentCands
    match r.parent.bind fun q => l.find? fun x => x.1 == q with
    | none =>
      match bestParent l with
      | some (q, len) => { d with reg := { r with parent := some q, path := min 63 (len + 1), better := none } }
      | none => { d with reg := { r with parent := none, path := 63, better := none } }
    | some (q, len) =>
      let stay : RegUnit := { r with path := min 63 (len + 1) }
      match l.find? fun x => x.1 == p with
      | some (_, len') =>
        if p = q then { d with reg := stay }
        else if len' < len then
          let k := match r.better with | some (b, k) => if b = p then k + 1 else 1 | none => 1
          if 8 ≤ k then { d with reg := { r with parent := some p, path := min 63 (len' + 1), better := none } }
          else { d with reg := { stay with better := some (p, k) } }
        else { d with reg := { stay with better := r.better.filter fun b => b.1 ≠ p } }
      | none => { d with reg := { stay with better := r.better.filter fun b => b.1 ≠ p } }

/-! ### NEIGHBOR (R323, R324, R330) -/

/-- A registered device whose registered neighbours run another N (R330): bit 56 rises with the flag (DESIGN CHOICE, log 48: the flag falls
when none differs). -/
def Device.judgeN (d : Device) : Device :=
  if d.reg.state ≠ .registered then d
  else
    let bad := d.registeredPorts.any fun x => x.2.frames ≠ d.time.n
    let old := d.reg.nMismatch
    let d : Device := { d with reg := { d.reg with nMismatch := bad } }
    if bad && !old then d.raiseErr (errAt 56 0 9 none) d.time.now else d

def Device.neighborCell (d : Device) (p : Nat) (c : Cell) (t : Nat) : Device :=
  d.receive p c t ctNEIGHBOR fun d =>
    let x := d.port p
    if !x.up && decide (d.time.now < x.validFrom + 2622) then d
    else
      let i := c.neighbor
      let d' := d.setPort p { x with up := true, last := some i, lastAt := d.time.now }
      let d := { d' with reg := { d'.reg with tkId := if i.state = 3 && !d.reg.isKeeper then some i.timekeeper else d'.reg.tkId } }
      let old := d.reg
      ((d.judgeN.judgeJoin.chooseParent p).tryMark).regNotice old

/-- NEIGHBOR_SEND (R324): on a port, UP or not, every 10 µs. -/
def Device.neighborSend (d : Device) (p : Nat) : Device :=
  if !d.zhepinOn then d
  else
    let r := d.reg
    let own := r.state == .registered
    d.sendLocal p ctNEIGHBOR
      [(if own then r.id.getD 0 else 0) + flag (own && r.id.isSome) 10 + r.state.code * 2 ^ 11 + p * 2 ^ 14 + r.n * 2 ^ 17 + r.m * 2 ^ 23 + r.e * 2 ^ 29 +
         r.tkId.getD 0 * 2 ^ 34 + d.time.n * 2 ^ 44,
       d.estimate d.time.tick, (if own then d.lastMark % 2 ^ 32 else 0) + r.path * 2 ^ 32]

/-- A port goes DOWN (R323): an exchange under way is discarded (R347); bit 55 where the far end was REGISTERED. -/
def Device.portDown (d : Device) (p : Nat) : Device :=
  let x := d.port p
  let old := d.reg
  let far : Bool := match x.last with | some i => i.state == 3 | none => false
  let d := d.setPort p { x with up := false, last := none, pingAt := none }
  let d := if x.up && far then d.raiseErr (errAt 55 0 8 none) d.time.now else d
  (d.chooseParent p).regNotice old

/-- NEIGHBOR_TIMEOUT (R323). -/
def Device.neighborTimeout (d : Device) (p : Nat) : Device := if d.zhepinOn && (d.port p).up then d.portDown p else d

/-- INVALID_HEADERS (R323): 16 invalid headers within 64 words. -/
def Device.invalidHeaders (d : Device) (p t : Nat) : Device :=
  if !d.zhepinOn then d
  else
    let d := d.at t
    let d := d.setPort p { d.port p with validFrom := d.time.now }
    if (d.port p).up then d.portDown p else d

/-! ### PING and ECHO (R331) -/

def stampMod : Nat := 2 ^ 64

/-- PING_SEND: T1 leaves on an UP port. -/
def Device.pingSend (d : Device) (p t : Nat) : Device :=
  if !d.zhepinOn || !(d.port p).up then d
  else
    let d := d.at t
    let t1 := d.estimate t % stampMod
    (d.setPort p { d.port p with pingAt := some t1 }).sendLocal p ctPING [t1]

/-- PING: answered with ECHO. T3, the estimate at which the ECHO leaves, follows T2 by a turnaround that the spec does not give: a free
value (log 49). -/
def Device.pingCell (d : Device) (p : Nat) (c : Cell) (t : Nat) : Device :=
  d.receive p c t ctPING fun d =>
    let t2 := d.estimate t
    let (k, d) := d.free
    d.sendLocal p ctECHO [c.w 1, t2 % stampMod, (t2 + k) % stampMod]

/-- Offset and delay of an exchange in 1/32 tick unit (R331); `a` is the trim in 1/16. -/
def exchange (t1 t2 t3 t4 : Nat) (a : Int) : Int × Int :=
  let diff (x y : Nat) : Int := toSigned 64 ((x + stampMod - y % stampMod) % stampMod)
  (diff t2 t1 + diff t3 t4 - 2 * a, diff t4 t1 - diff t3 t2)

/-- ALIGNING ends when θ_f is formed over 4,096 exchanges with the time parent (R328, R332). -/
def Device.judgeAlign (d : Device) : Device :=
  match d.reg.state, d.reg.parent with
  | .aligning, some q =>
    let x := d.port q
    if x.theta.length < 4096 then d
    else
      let th := x.thetaF
      if ratAbs th ≤ 192 then
        let s := roundHalfUp th
        let d := d.stepTime ((d.time.now : Int) + s).toNat
        let d' : Device := { d with reg := { d.reg with frac := roundEven ((th - (s : Rat)) * 16) } }
        d'.becomeRegistered
      else (d.raiseErr (errAt 56 0 10 none) d.time.now).joinFailed stFAULT_ACTIVE []
  | _, _ => d

/-- ECHO: the exchange under way is completed. -/
def Device.echoCell (d : Device) (p : Nat) (c : Cell) (t : Nat) : Device :=
  d.receive p c t ctECHO fun d =>
    let x := d.port p
    if x.pingAt ≠ some (c.w 1) then d
    else
      let (th, de) := exchange (c.w 1) (c.w 2) (c.w 3) (d.estimate t % stampMod) x.trim
      let d := d.setPort p { x with pingAt := none, theta := (th :: x.theta).take 4096, delta := (de :: x.delta).take 4096 }
      d.judgeAlign.regNotice d.reg

/-- TIME_SLEW (R332): a registered device other than the timekeeper moves its timebase by one unit toward its parent's time when its grid is
half a unit or more away, at most once a millisecond. What the grid has not taken up is carried in estimates, so the grid's distance is θ_f
and that fraction together (DEDUCED, log 50). -/
def Device.timeSlew (d : Device) : Device :=
  match d.reg.parent with
  | none => d
  | some q =>
    let x := d.port q
    let off := x.thetaF + (d.reg.frac : Rat) / 16
    if d.reg.state ≠ .registered || d.reg.timekeeper || decide (x.theta.length < 4096) || decide (ratAbs off < 1 / 2) ||
        (d.reg.lastSlew ≠ 0 && decide (d.time.now < d.reg.lastSlew + msUnits)) then d
    else
      let s : Int := if off < 0 then -1 else 1
      let shift := roundEven (x.thetaF * 32)
      let ports : Tab ZPort := (d.reg.ports.map fun p => (p.1, { p.2 with theta := p.2.theta.map (· - shift) })).filter fun p => p.2 ≠ {}
      { d with
        time := { d.time with now := max d.time.tick ((d.time.now : Int) + s).toNat, slew := d.time.slew + s }
        reg := { d.reg with frac := roundEven ((off - (s : Rat)) * 16), lastSlew := max 1 d.time.now, ports := ports } }

/-- RESEND (R323): the named cell and every later one go out again. -/
def Device.resendCell (d : Device) (p : Nat) (c : Cell) : Device :=
  if !d.zhepinOn || !(d.port p).up || !c.crcOk || c.type ≠ ctRESEND || !c.words.isEmpty then d
  else
    let again := (d.port p).sent.dropWhile fun s => s.1 ≠ c.lseq
    { d with reg := { d.reg with sent := (again.map fun s => (p, s.2)).reverse ++ d.reg.sent } }

/-! ### Marks (R326, R328, R334, R335) -/

/-- EPOCH: the holdover timer restarts, a candidate gives way to a lower ID, and a joining member may have its mark. -/
def Device.epochCell (d : Device) (p : Nat) (c : Cell) (t : Nat) : Device :=
  d.receive p c t ctEPOCH fun d =>
    let r := d.reg
    let j := bits (c.w 1) 31 0
    let new := r.epochAt.isNone || j ≠ r.mark
    let lower : Bool := c.originValid && (match r.id with | some i => decide (c.origin < i) | none => true)
    let d := { d with reg := { r with
      epochAt := some d.time.now, mark := j, markTime := c.w 2, markAt := if new then some d.time.now else r.markAt
      tkId := if c.originValid && !r.isKeeper then some c.origin else r.tkId, candidate := if lower then 0 else r.candidate } }
    d.tryMark.regNotice r

/-- EPOCH_BROADCAST (R324, R335): by the timekeeper, or a candidate; a candidate that is left a millisecond after its first broadcast becomes
timekeeper (DESIGN CHOICE, log 51). -/
def Device.epochBroadcast (d : Device) : Device :=
  let r := d.reg
  if r.state ≠ .registered || !(r.timekeeper || decide (0 < r.candidate)) then d
  else
    let d : Device :=
      if r.timekeeper then d
      else if r.candidate = 1 then { d with reg := { r with candidate := 2 } }
      else { d with reg := { r with candidate := 0, timekeeper := true, tkId := r.id, path := 0, parent := none } }
    (d.broadcast ctEPOCH [d.lastMark % 2 ^ 32, 16 * (d.lastMark * d.reg.markStep) % stampMod]).regNotice r

/-- EPOCH_TIMEOUT (R332, R335): 5 ms without an EPOCH cell. -/
def Device.epochTimeout (d : Device) : Device :=
  let r := d.reg
  if r.state ≠ .registered || r.timekeeper then d
  else
    let d' : Device := { d with reg := { r with parent := none, path := 63, better := none, candidate := if r.deputy then max 1 r.candidate else 0 } }
    d'.regNotice r

/-- Distance of an instant from the nearest mark. -/
def markError (step t : Nat) : Nat := min (t % step) (step - t % step)

/-- REG_PULSE_EDGE (R326): an edge after at least 4 low samples. A joining timekeeper that does not generate takes mark 0 from it, a joining
member awaits its EPOCH cell, and a registered device checks it against its marks (R334). REG_OUT repeats it one period later. -/
def Device.pulseEdge (d : Device) (t low : Nat) : Device :=
  if !d.running || !d.blk bREG || low < 4 then d
  else
    let d := d.at t
    let r := d.reg
    let d : Device := if r.generate && r.timekeeper then d else { d with reg := { r with regOut := some (d.time.now + 160) } }
    match r.state with
    | .joining =>
      if r.timekeeper then (if r.generate then d else (d.markZero (r.lambda * 160)).regNotice r)
      else
        let d' : Device := { d with reg := { d.reg with edgeAt := some d.time.now } }
        d'.tryMark.regNotice r
    | .registered =>
      if decide (160 < markError r.markStep (d.time.now - r.lambda * 160)) then
        let d' : Device := { d with reg := { d.reg with markBad := true } }
        d'.raiseErr (errAt 56 0 10 none) d.time.now
      else d
    | _ => d

/-- MARK_DRIVE (R326, R328): the joining timekeeper drives mark 0; a generating timekeeper the next mark. -/
def Device.markDrive (d : Device) : Device :=
  let r := d.reg
  if !d.running || !d.blk bREG || !r.timekeeper || !r.generate then d
  else if r.state = .joining then
    let d := d.markZero 0
    let d' : Device := { d with reg := { d.reg with regOut := some 0 } }
    d'.regNotice r
  else if r.state = .registered then
    let j := d.lastMark + (if d.time.now % r.markStep = 0 then 0 else 1)
    { d.at (j * r.markStep) with reg := { r with regOut := some (j * r.markStep) } }
  else d

/-- MARK_WAIT_TIMEOUT (R328): the step from the parent's NEIGHBOR time. How far into its frame the parent's cell left is not known: a free
value within the frame (log 52). -/
def Device.markWaitTimeout (d : Device) : Device :=
  let r := d.reg
  if r.state ≠ .joining || r.timekeeper || r.neighborSince.isNone then d
  else
    match r.parent.orElse (fun _ => (bestParent (d.registeredPorts.map fun x => (x.1, x.2.path))).map (·.1)) with
    | none => d
    | some q =>
      match (d.port q).last with
      | none => d
      | some i =>
        let (k, d) := d.free
        (d.align (i.sysTime / 16 + (d.time.now - (d.port q).lastAt) + k % d.frameLen) true).regNotice r

/-! ### Cross-device events and arm-at-time (R336..R340) -/

/-- EVENT cells' mask words: bit i for event 640 + i (R324). -/
def eventMask (evs : List Nat) (word : Nat) : Nat :=
  (List.range 64).foldl (fun m i => m + flag (evs.contains (640 + 64 * word + i)) i) 0

/-- At most one EVENT cell for a frame's cross-device events (R336). -/
def Device.sendEvents (d : Device) : Device :=
  if d.reg.outEvents.isEmpty then d
  else
    let evs := d.reg.outEvents
    let d := d.broadcast ctEVENT (16 * d.reg.outStamp % stampMod :: (List.range 4).map (eventMask evs))
    { d with reg := { d.reg with outEvents := [] } }

/-- EVENT_CELL (R337, R338): visible from the next frame, in the window of the frame in which it becomes visible; late beyond 3 µs. -/
def Device.eventCell (d : Device) (p : Nat) (c : Cell) (t : Nat) : Device :=
  d.receive p c t ctEVENT fun d =>
    let stamp := c.w 1 / 16
    let evs := (List.range 256).filter fun i => bit (c.w (2 + i / 64)) (i % 64)
    let recs : List EvRec := evs.map fun i => { ev := 640 + i, stamp := stamp, visible := d.time.frame + 1, win := d.nextTick - 1 }
    let late := d.reg.state == .registered && decide (stamp + 48000 < d.time.now)
    { d with events := d.events ++ recs, reg := { d.reg with lateEvents := sat32 (d.reg.lateEvents + (if late then 1 else 0)) } }

def Device.arm? (d : Device) (slot : Nat) : Option ArmSlot := tabGet none d.arms slot
def Device.setArm (d : Device) (slot : Nat) (a : Option ArmSlot) : Device := { d with arms := tabSet none d.arms slot a }

/-- ARM_CELL (R340): loads the slot on a registered device, empties it with CANCEL, or is late: discarded, counted, told. -/
def Device.armCell (d : Device) (p : Nat) (c : Cell) (t : Nat) : Device :=
  d.receive p c t ctARM fun d =>
    let due := c.w 1 / 16
    let slot := bits (c.w 2) 3 0
    if d.reg.state ≠ .registered then d
    else if bit (c.w 2) 22 then d.setArm slot none
    else if due ≤ d.nextTick then
      let d' : Device := { d with reg := { d.reg with lateArms := sat32 (d.reg.lateArms + 1) } }
      d'.notice 0 6 0 d.time.now (le32 d.regWord ++ [BitVec.ofNat 8 (1 + 16 * slot)])
    else d.setArm slot (some { d := due, mask := bits (c.w 2) 19 4, release := bit (c.w 2) 20, event := bit (c.w 2) 21 })

/-- Arm slots act at the boundary just begun, the first at or after D (R339, R266). -/
def Device.armsDue (d : Device) : Device :=
  d.each (d.arms.map (·.1)) fun d slot =>
    match d.arm? slot with
    | none => d
    | some a =>
      if d.time.tick < a.d then d
      else
        let d := d.setArm slot none
        let d := d.each ((List.range 16).filter fun g => bit a.mask g) fun d g => d.setStrobe g { d.strobe g with fires := true }
        if a.event then d.event (1008 + slot) d.time.tick else d

/-! ### The REG_ opcodes (R327, R406..R408) -/

def regJoinStatic (c : Cmd) : List Check :=
  [bad (decide (2 < c.u8 0)) 0, bad (decide (8 ≤ c.u8 1)) 1, bad (decide (c.u8 2 < 1) || decide (32 < c.u8 2)) 2,
   bad (decide (c.u8 3 < 1) || decide (32 < c.u8 3)) 3, bad (decide (c.u32 4 < 25) || decide (10000 < c.u32 4)) 4,
   bad (decide (c.u8 8 < 20) || decide (30 < c.u8 8)) 8, bad (decide (63 < c.u8 9)) 9, resv c.par (offsets 10 31)]

/-- REG_JOIN LEAVE (R328): time runs on; a join under way is told NOT_READY (DESIGN CHOICE, log 53). -/
def Device.leave (d : Device) : Device :=
  let r := d.reg
  let d' : Device := { d with
    reg := { r with state := .unjoined, timekeeper := false, id := none, tkId := none, env := none, candidate := 0, parent := none, path := 63,
                    better := none, edgeAt := none, markAt := none, neighborSince := none, autoRejoin := false }
    time := { d.time with localTime := true } }
  (d'.final? r.env stNOT_READY []).regNotice r

/-- The join record in force (R327). -/
def RegUnit.ofJoin (r : RegUnit) (c : Cmd) : RegUnit :=
  { r with
    state := .joining, timekeeper := c.u8 0 == 1, generate := bit (c.u8 1) 0, deputy := bit (c.u8 1) 1, autoRejoin := bit (c.u8 1) 2
    n := c.u8 2, m := c.u8 3, nExpected := c.u32 4, e := c.u8 8, lambda := c.u8 9, id := if c.u8 0 = 1 then some 0 else none, tkId := none
    nMismatch := false, markMiss := false, markBad := false, cabling := false, candidate := 0, env := some c.env, joinedAt := c.stamp
    parent := none, path := 63, better := none, edgeAt := none, markAt := none, neighborSince := none }

/-- REG_JOIN (R327, R328). -/
def runRegJoin (c : Cmd) (d : Device) : Res :=
  let role := c.u8 0
  let r := d.reg
  checked d ([no d.inProof stWRONG_MODE] ++ regJoinStatic c ++
      (if role = 2 then []
       else [no d.anyArmed stBUSY, no (r.state ≠ .unjoined && r.state ≠ .failed) stBUSY, no (role == 1 && !d.registeredPorts.isEmpty) stBUSY]))
    (if role = 2 then
       let d := d.leave
       (.both [] stOK (le16 d.idWord ++ zeros 6 ++ le64 r.regAt), d)
     else
       let d' : Device := { d with reg := r.ofJoin c }
       (.interim stACCEPTED [], (d'.judgeJoin.chooseParent 0).regNotice r))

/-- REG_STATUS (R346, R408). -/
def runRegStatus (_c : Cmd) (d : Device) : Res :=
  let r := d.reg
  let id16 (i : Option Nat) := le16 (i.getD 0xFFFF)
  ok d (le32 d.regWord ++ id16 r.id ++ id16 r.tkId ++ [BitVec.ofNat 8 (r.parent.getD 0xFF), BitVec.ofNat 8 r.path, 0, 0] ++
    (ports6.map fun p => leF32 (ratToF32 (d.port p).thetaF)).flatten ++ (ports6.map fun p => leF32 (ratToF32 (d.port p).deltaF)).flatten ++
    le32 r.lateEvents ++ le32 r.lateArms ++ le32 r.dropped)

/-- A signed 32-bit trim of REG_SKEW. -/
def skewTrim (c : Cmd) (p : Nat) : Int := toSigned 32 (c.u32 (4 + 4 * p))

def regSkewStatic (c : Cmd) : List Check :=
  [bad (decide (63 < c.u8 0)) 0, resv c.par [1, 2, 3]] ++
  ports6.map fun p => bad (decide (skewTrim c p < -32) || decide (32 < skewTrim c p)) (4 + 4 * p)

/-- REG_SKEW (R331, R406): λ and the trims, from the next exchange. -/
def runRegSkew (c : Cmd) (d : Device) : Res :=
  checked d (regSkewStatic c)
    (let d := ports6.foldl (fun d p => d.setPort p { d.port p with trim := skewTrim c p }) d
     ok { d with reg := { d.reg with lambda := c.u8 0 } } [])

def regArmStatic (c : Cmd) : List Check := [bad (decide (65536 ≤ c.u32 8)) 8, bad (decide (16 ≤ c.u8 12)) 12, resv c.par [13, 14, 15]]

/-- REG_ARM_AT (R339, R340): the boundary is the first at or after D, and never before frame a + 2. -/
def runRegArmAt (c : Cmd) (d : Device) : Res :=
  let f := c.u8 12
  let due := max (c.u64 0) c.nb
  let cancel := bit f 3
  let wide := bit f 2
  let b := d.boundaryAt (c.frame + 1) due
  let foreign := (List.range 16).any fun g => bit (c.u32 8) g && (d.strobe g).owner ≠ 0
  checked d (regArmStatic c ++
      [no (wide && d.reg.state ≠ .registered) stNOT_READY, no (!cancel && foreign) stBAD_TARGET,
       bad (wide && !cancel && decide (c.u64 0 < c.stamp + 48000 + 2 * 160 * d.time.n)) 0])
    (let slot : Option ArmSlot := if cancel then none else some { d := b, mask := c.u32 8, release := bit f 0, event := bit f 1 }
     let d := d.setArm c.idx slot
     let d := if wide then d.broadcast ctARM [16 * c.u64 0 % stampMod, c.idx + c.u32 8 * 2 ^ 4 + flag (bit f 0) 20 + flag (bit f 1) 21 + flag cancel 22, 0] else d
     okBoundary d (if cancel then 0 else b))

end Sys2Proof.Machine
end

