-- ==== Sys2Proof/Machine/Shares.lean ====
section
/-! DEFINITION. Zones and rails across devices (R341..R344), and cross-device rings (R439): the cells that carry them, and the cells that
follow from a change of the device's own state. -/

namespace Sys2Proof.Machine

/-! ### Share keys (R324) -/

/-- The key of an owner's share index: zone or rail index in bits 5:0, bit 6 for a rail. -/
def keyOfShare (i : Nat) : Nat := if i < 256 then i else i - 256 + 64
def shareOfKey (k : Nat) : Nat := if bit k 6 then 256 + k % 64 else k % 64

/-- The key under which a contributor's share is known at its owner. -/
def contribKey (i : Nat) (s : Share) : Nat := s.ownerIdx + (if i < 256 then 0 else 64)

/-- The contributor share that an owner's key names. -/
def Device.shareAtOwner (d : Device) (dev key : Nat) : Option Nat :=
  (d.imp.shares.find? fun s => s.2.role == 2 && s.2.ownerDev == dev && contribKey s.1 s.2 == key).map (·.1)

/-- Silence that makes a share broken: 64 frames and 6 µs (R343). -/
def Device.silence (d : Device) : Nat := 64 * 160 * d.time.n + 96000

/-! ### LEDGER and STATE (R342, R343) -/

/-- The hottest valid sensor of a contributor's zone with its offset, if one is valid, and whether one is broken. -/
def Device.hottest (d : Device) (i : Nat) : Option Rat × Bool :=
  if 256 ≤ i then (none, false)
  else
    let z := d.zone i
    let l := (z.sensors.filter fun s => !s.broken).filterMap (d.sensorTemp z)
    (match l with | [] => none | t :: l => some (l.foldl ratMax t), d.sensorBad i)

/-- A contributor's LEDGER cell for the window just ended; where no sensor is valid its reading is a free value (log 54). -/
def Device.sendLedger (d : Device) (i : Nat) : Device :=
  let s := d.share i
  let (t, bad) := d.hottest i
  let (t, d) := match t with | some t => (t, d) | none => d.freeRat
  let mean (q : Rat) : Nat := (ratToF32 (if s.cnt = 0 then 0 else q / (s.cnt : Rat))).toNat
  let chans := if i < 256 then d.zoneChans i else d.railChans (i - 256)
  let from_ := (d.time.frame / 16) * 16 - 16
  let d := d.sendTo s.ownerDev ctLEDGER
    [contribKey i s + from_ * 2 ^ 7, mean s.sumQ + mean s.sumR * 2 ^ 32, (ratToF32 t).toNat + flag bad 32 + chans.length * 2 ^ 33]
  d.setShare i { d.share i with sumQ := 0, sumR := 0, cnt := 0 }

/-- An owner's STATE cell to each contributor of a share. -/
def Device.sendState (d : Device) (i : Nat) : Device :=
  let st := if i < 256 then (d.zone i).state else (d.rail (i - 256)).state
  (d.share i).contrib.foldl (fun d c => d.sendTo c.dev ctSTATE [keyOfShare i + st * 2 ^ 7]) d

/-- LEDGER_WINDOW_END (R342). -/
def Device.ledgerWindowEnd (d : Device) : Device :=
  if d.reg.state ≠ .registered then d
  else
    d.each (d.imp.shares.map (·.1)) fun d i =>
      match (d.share i).role with | 2 => d.sendLedger i | 1 => d.sendState i | _ => d

/-- LEDGER (R342, R343): the owner's terms of a contributor; one that was broken counts again after 10 s of valid cells (R292). -/
def Device.ledgerCell (d : Device) (p : Nat) (c : Cell) (t : Nat) : Device :=
  d.receive p c t ctLEDGER fun d =>
    let i := shareOfKey (bits (c.w 1) 6 0)
    let s := d.share i
    let f (w lo : Nat) : Rat := f32ToRat (BitVec.ofNat 32 (bits w (lo + 31) lo))
    let upd (x : Contrib) : Contrib :=
      if x.dev ≠ c.origin then x
      else
        let since := if x.broken then some (x.validSince.getD d.time.now) else none
        let healed : Bool := match since with | some t => decide (t + 10 * secUnits ≤ d.time.now) | none => true
        { x with q := f (c.w 2) 0, r := f (c.w 2) 32, temp := f (c.w 3) 0, bad := bit (c.w 3) 32, channels := bits (c.w 3) 42 33, at_ := d.time.now
                 broken := !healed, validSince := if healed then none else since }
    if s.role = 1 then d.setShare i { s with contrib := s.contrib.map upd } else d

/-- STATE_CELL (R342): taken up at the next boundary. -/
def Device.stateCell (d : Device) (p : Nat) (c : Cell) (t : Nat) : Device :=
  d.receive p c t ctSTATE fun d =>
    match d.shareAtOwner c.origin (bits (c.w 1) 6 0) with
    | some i => d.setShare i { d.share i with state := bits (c.w 1) 8 7, silent := false }
    | none => d

/-- SHARE_SILENCE_TIMEOUT (R343): an owner's silent contributors are broken; a contributor's share is treated as HOLD. -/
def Device.shareSilence (d : Device) (i : Nat) : Device :=
  let s := d.share i
  if s.role = 1 then
    d.setShare i { s with contrib := s.contrib.map fun x =>
      if x.at_ + d.silence ≤ d.time.now then { x with broken := true, validSince := none } else x }
  else if s.role = 2 then d.setShare i { s with silent := true }
  else d

/-! ### REQ, GRANT, CANCEL (R344) -/

/-- A request's profile as REQ carries it: the largest bin peaks and means, held flat. The direction bit is 1 for a sinking span
(DEDUCED, log 55). -/
def reqProfile (c : Cell) : Profile :=
  let f (w lo : Nat) : F32 := BitVec.ofNat 32 (bits w (lo + 31) lo)
  let len := bits (c.w 2) 31 0
  { binLen := max 1 len, len := len, load := if bit (c.w 2) 34 then -1 else 1
    bins := [{ peakR := f (c.w 3) 0, peakQ := f (c.w 3) 32, meanR := f (c.w 4) 0, meanQ := f (c.w 4) 32 }] }

/-- The largest of a term over the bins, as its pattern. -/
def Profile.largest (p : Profile) (f : Bin → F32) : Nat :=
  (ratToF32 (match p.bins.map fun b => f32ToRat (f b) with | [] => 0 | x :: l => l.foldl ratMax x)).toNat

/-- A contributor's request goes to its owner. -/
def Device.sendReq (d : Device) (q : Request) (owner : Nat) : Device :=
  let p := q.profile
  let d := d.setRequest { q with sent := true }
  d.sendTo owner ctREQ
    [d.tickOfFrame q.planned, p.len % 2 ^ 32 + q.cls * 2 ^ 32 + flag (decide (p.load < 0)) 34 + q.ch * 2 ^ 35 + q.id % 65536 * 2 ^ 44,
     p.largest (·.peakR) + p.largest (·.peakQ) * 2 ^ 32, p.largest (·.meanR) + p.largest (·.meanQ) * 2 ^ 32, 16 * q.latch % stampMod]

/-- Is a device listed as a contributor of an own share. -/
def Device.contributes (d : Device) (dev : Nat) : Bool := d.imp.shares.any fun s => s.2.role == 1 && s.2.contrib.any fun c => c.dev == dev

/-- REQ (R344): joins the owner's order from the first budget phase after arrival, with its own latch. -/
def Device.reqCell (d : Device) (p : Nat) (c : Cell) (t : Nat) : Device :=
  d.receive p c t ctREQ fun d =>
    if !d.contributes c.origin then d
    else
      let key := (c.origin, bits (c.w 2) 59 44)
      let id := d.imp.nextReq
      let q : Request := { id := id, ch := bits (c.w 2) 43 35, cls := bits (c.w 2) 33 32, latch := c.w 5 / 16, planned := d.frameOfTick (c.w 1),
                           eligible := d.time.frame, profile := reqProfile c, origin := some key }
      { d with imp := { d.imp with nextReq := id + 1, requests := (d.imp.requests.filter fun x => x.origin ≠ some key) ++ [q] } }

/-- GRANT_CELL (R344): starts the span at its tick when it becomes visible by the frame before, is cancelled and asked again when later;
WITHDRAW makes the request pending again. -/
def Device.grantCell (d : Device) (p : Nat) (c : Cell) (t : Nat) : Device :=
  d.receive p c t ctGRANT fun d =>
    let no := bits (c.w 1) 15 0
    match d.imp.requests.find? fun q => q.owner == some c.origin && q.id % 65536 == no with
    | none => d
    | some q =>
      if bit (c.w 1) 16 then
        let d := d.uncommit fun x => x.id == q.id && decide (d.time.frame < x.start)
        d.setRequest { q with granted := false, start := 0 }
      else
        let s := d.frameOfTick (c.w 2)
        if d.time.frame + 2 ≤ s then (d.uncommit fun x => x.id == q.id).grant q s
        else (d.sendTo c.origin ctCANCEL [no]).setRequest { q with sent := false, granted := false }

/-- CANCEL_CELL (R344): the owner withdraws the request and its span. -/
def Device.cancelCell (d : Device) (p : Nat) (c : Cell) (t : Nat) : Device :=
  d.receive p c t ctCANCEL fun d =>
    let key := (c.origin, bits (c.w 1) 15 0)
    let gone := (d.imp.requests.filter fun q => q.origin == some key).map (·.id)
    let d := d.uncommit fun x => gone.contains x.id
    { d with imp := { d.imp with requests := d.imp.requests.filter fun q => q.origin ≠ some key } }

/-! ### Cross-device rings (R439) -/

/-- Bytes as 64-bit words, least significant byte first. -/
def wordsOf : Nat → List Byte → List Nat
  | 0, _ => []
  | k + 1, l => if l.isEmpty then [] else leNat (l.take 8) :: wordsOf k (l.drop 8)

/-- The cells of a packet: up to 40 bytes each, START, END, and HALF where the last word carries 4 bytes. -/
def packetCells (dq sq pnum kind : Nat) : Nat → Bool → List Byte → List (List Nat)
  | 0, _, _ => []
  | k + 1, first, l =>
    let now := l.take 40
    let rest := l.drop 40
    let w := dq + sq * 2 ^ 20 + pnum % 65536 * 2 ^ 40 + flag first 56 + flag rest.isEmpty 57 + kind * 2 ^ 60 + flag (now.length % 8 == 4) 63
    (w :: wordsOf 5 now) :: (if rest.isEmpty then [] else packetCells dq sq pnum kind k false rest)

/-- The kind of ring that a CROSS_DEVICE ring feeds: CAPTURE where Q_BIND names it as a capture ring, else RESULT. -/
def Device.peerKind (d : Device) (q : Nat) : Nat := if d.chans.any fun c => c.2.captureRing == some q then 3 else 2

/-- A packet goes out, or goes out again. -/
def Device.sendPacket (d : Device) (q : Nat) (r : Ring) (pnum : Nat) (bytes : List Byte) : Device :=
  (packetCells r.peerQ q pnum (d.peerKind q) (bytes.length / 40 + 1) true bytes).foldl (fun d w => d.sendTo r.peerDev ctMSG w) d

/-- Entries of a packet: slugs of 32 bytes, or the frame count of a capture packet (R82, R83). -/
def packetEntries (kind : Nat) (bytes : List Byte) : Nat := if kind = 2 then u32At bytes 0 / 32 else u32At bytes 12

/-- Packets of a ring that are complete and not yet sent, while at most 8 await answers and the device is REGISTERED. -/
def Device.pumpRing (d : Device) (q : Nat) : Nat → Device
  | 0 => d
  | k + 1 =>
    match d.ring? q with
    | none => d
    | some r =>
      let mine := d.queue.awaiting.filter fun a => a.qid == q
      let off := mine.foldl (fun s a => s + a.bytes.length) 0
      if r.kind ≠ 6 || d.reg.state ≠ .registered || decide (8 ≤ (mine.filter fun a => !a.answered).length) || decide (r.level ≤ off) then d
      else
        let pos := (r.tailA + off) % 2 ^ 32
        let n := 4 + padded (u32At (d.ringGet r pos 4) 0)
        let bytes := d.ringGet r pos n
        let a : Awaiting := { qid := q, pnum := r.pnum, bytes := bytes, entries := packetEntries (d.peerKind q) bytes, sends := 1, sentAt := d.time.now }
        let d := d.sendPacket q r r.pnum bytes
        let d := d.setRing q { r with pnum := (r.pnum + 1) % 65536 }
        let d : Device := { d with queue := { d.queue with awaiting := d.queue.awaiting ++ [a] } }
        d.pumpRing q k

def Device.pumpRings (d : Device) : Device :=
  d.each ((d.queue.rings.filter fun r => r.2.kind == 6).map (·.1)) fun d q => d.pumpRing q 8

/-- The space of answered packets at the front of a ring is freed. -/
def Device.freeAnswered (d : Device) (q : Nat) : Nat → Device
  | 0 => d
  | k + 1 =>
    match d.queue.awaiting.find? fun a => a.qid == q with
    | some a =>
      if a.answered then
        let d : Device := { d with queue := { d.queue with awaiting := d.queue.awaiting.erase a } }
        let d := d.onRing q fun r =>
          let t := (r.tailA + a.bytes.length) % 2 ^ 32
          { r with tailA := t, tailB := t, full := false }
        d.freeAnswered q k
      else d
    | none => d

/-- An answer for a packet, or its being given up, with the entries lost. -/
def Device.settlePacket (d : Device) (q pnum : Nat) (lost : Bool) : Device :=
  let hit (a : Awaiting) : Bool := a.qid == q && a.pnum == pnum && !a.answered
  match d.queue.awaiting.find? hit with
  | none => d
  | some a =>
    let d : Device := { d with queue := { d.queue with awaiting := d.queue.awaiting.map fun x => if hit x then { x with answered := true } else x } }
    let d := if lost then d.onRing q fun r => { r with lost := r.lost + a.entries } else d
    d.freeAnswered q 9

/-- A whole packet from another device is written as a local producer would, or refused with its entries counted lost. -/
def Device.deliver (d : Device) (a : Arriving) : Device :=
  let answer (d : Device) (ok : Bool) : Device :=
    d.sendTo a.dev ctMSG [a.sq + a.dq * 2 ^ 20 + a.pnum * 2 ^ 40 + flag ok 58 + flag (!ok) 59 + a.pkind * 2 ^ 60]
  match d.ring? a.dq with
  | some r =>
    if r.kind ≠ a.pkind then answer (d.onRing a.dq fun r => { r with lost := r.lost + packetEntries a.pkind a.bytes }) false
    else
      let n := u32At a.bytes 0
      let (d, ok) := d.produce a.dq ((a.bytes.drop 4).take n) (packetEntries a.pkind a.bytes) true
      answer d ok
  | none => answer d false

/-- Bytes that an MSG cell carries (R439). -/
def msgBytes (c : Cell) : List Byte :=
  let l := (c.words.drop 1).flatMap fun w => leBytes 8 w.toNat
  if bit (c.w 1) 63 then l.take (l.length - 4) else l

/-- MSG (R439). In an answer DQ names the sending ring, which lies on the answer's destination (DEDUCED, log 56). -/
def Device.msgCell (d : Device) (p : Nat) (c : Cell) (t : Nat) : Device :=
  d.receive p c t ctMSG fun d =>
    let w := c.w 1
    let dq := bits w 19 0
    let sq := bits w 39 20
    let pnum := bits w 55 40
    if bit w 58 then (d.settlePacket dq pnum false).pumpRings
    else if bit w 59 then ((d.settlePacket dq pnum true).queueNotice dq 7).pumpRings
    else
      let same (a : Arriving) : Bool := a.dev == c.origin && a.sq == sq
      let old := d.queue.arriving.find? fun a => same a && a.pnum == pnum && a.dq == dq
      let rest := d.queue.arriving.filter fun a => !same a
      let start := bit w 56
      match (if start then some [] else old.map (·.bytes)) with
      | none => d
      | some bs =>
        let a : Arriving := { dev := c.origin, sq := sq, dq := dq, pnum := pnum, pkind := bits w 62 60, bytes := bs ++ msgBytes c }
        if bit w 57 then
          let d' : Device := { d with queue := { d.queue with arriving := rest } }
          d'.deliver a
        else { d with queue := { d.queue with arriving := rest ++ [a] } }

/-- MSG_ANSWER_TIMEOUT (R439): the oldest unanswered packet of the ring is sent again, or dropped after three sendings. -/
def Device.msgTimeout (d : Device) (q : Nat) : Device :=
  match d.queue.awaiting.find? fun a => a.qid == q && !a.answered, d.ring? q with
  | some a, some r =>
    if a.sends < 3 then
      let hit (x : Awaiting) : Bool := x.qid == q && x.pnum == a.pnum && !x.answered
      let l := d.queue.awaiting.map fun x => if hit x then { x with sends := x.sends + 1, sentAt := d.time.now } else x
      let d : Device := { d with queue := { d.queue with awaiting := l } }
      d.sendPacket q r a.pnum a.bytes
    else (d.settlePacket q a.pnum true).pumpRings
  | _, _ => d

/-! ### Cells that follow from the device's own changes (R298, R305, R342, R344) -/

/-- Requests and spans of this device's channels that an owner judged and that are gone without having run their course: CANCEL is due. -/
def Device.cancelled (old d : Device) : List (Nat × Nat) :=
  let kept (id : Nat) : Bool := (d.imp.requests.any fun q => q.id == id) || d.imp.committed.any fun c => c.id == id
  let reqs := old.imp.requests.filterMap fun q => match q.owner with
    | some o => if q.sent && !kept q.id then some (q.id, o) else none
    | none => none
  let spans := old.imp.committed.filterMap fun c =>
    let past := !c.profile.endless && decide (c.start + c.profile.len ≤ d.time.frame)
    match c.ch.bind old.remoteOwner with
    | some o => if kept c.id || past then none else some (c.id, o)
    | none => none
  dedup (reqs ++ spans)

/-- Grants and withdrawals of contributors' requests since `old`: device, request number, start or none. -/
def Device.granted (old d : Device) : List (Nat × Nat × Option Nat) :=
  d.imp.requests.filterMap fun q =>
    match q.origin, old.request? q.id with
    | some (dev, no), some o =>
      if q.granted && !o.granted then some (dev, no, some q.start) else if o.granted && !q.granted then some (dev, no, none) else none
    | _, _ => none

/-- Own shares whose zone or rail has changed state since `old`. -/
def Device.statesChanged (old d : Device) : List Nat :=
  (d.imp.shares.filter fun s => s.2.role == 1 &&
    (if s.1 < 256 then (d.zone s.1).state ≠ (old.zone s.1).state else (d.rail (s.1 - 256)).state ≠ (old.rail (s.1 - 256)).state)).map (·.1)

/-- The cells due after a step from `old`, while the device is REGISTERED. -/
def Device.pump (old d : Device) : Device :=
  if d.reg.state ≠ .registered then d
  else
    let e := d
    let d := (old.cancelled e).foldl (fun d x => d.sendTo x.2 ctCANCEL [x.1 % 65536]) d
    let d := (old.granted e).foldl (fun d x => d.sendTo x.1 ctGRANT (match x.2.2 with
      | some s => [x.2.1, d.tickOfFrame s]
      | none => [x.2.1 + 2 ^ 16, 0])) d
    let d := (e.imp.requests.filter fun q => q.owner.isSome && !q.sent).foldl (fun d q => match q.owner with | some o => d.sendReq q o | none => d) d
    let d := (old.statesChanged e).foldl (fun d i => d.sendState i) d
    d.pumpRings

end Sys2Proof.Machine
end

