-- ==== Sys2Proof/Machine/Perform.lean ====
section
/-! DEFINITION. How a command comes to be carried out: the checks of R362 in order, the reply, NOT_BEFORE (R559), what holds commands
back (R33, R365, R367), and the fast slots (R368..R371). -/

namespace Sys2Proof.Machine

/-! ### The opcodes' own checks and effects -/

/-- A queue ID of the parameters, as far as the packet alone tells (R398). -/
def idCheck (c : Cmd) (o : Nat) : Check := bad (decide (2 ^ 20 ≤ c.u32 o) || decide (c.u32 o < 256)) o

/-- The opcode's checks that depend on the packet alone (R559). -/
def Op.packetChecks (op : Op) (c : Cmd) : List Check :=
  match op with
  | .setMode => setModeStatic c
  | .setFrame => setFrameStatic c
  | .resetBlock => resetBlockStatic c
  | .chConfig => chConfigStatic c
  | .chFunction => chFunctionStatic c
  | .chSetpoint => chSetpointStatic c
  | .chLimits => chLimitsStatic c
  | .chRange => chRangeStatic c
  | .chAutorange => chAutorangeStatic c
  | .chPark => chParkStatic c
  | .chMeasure => chMeasureStatic c
  | .chAperture => chApertureStatic c
  | .chStrobe => chStrobeStatic c
  | .chMigrate => chMigrateStatic c
  | .fmLoad => fmLoadStatic c
  | .fmSegment => fmSegmentStatic c
  | .fmJump => fmJumpStatic c
  | .fmStreamBind => fmStreamBindStatic c
  | .qCreate => qCreateStatic c
  | .qNotify => qNotifyStatic c
  | .imZone => imZoneStatic c
  | .imRail => imRailStatic c
  | .imSensor => imSensorStatic c
  | .imPolicy => imPolicyStatic c
  | .calMode => calModeStatic c
  | .calWrite => calWriteStatic c
  | .tsWrite => tsWriteStatic c
  | .tsSelect => tsSelectStatic c
  | .mkRoute => mkRouteStatic c
  | .trigConfig => trigConfigStatic c
  | .regJoin => regJoinStatic c
  | .regSkew => regSkewStatic c
  | .regArmAt => regArmStatic c
  | .monConfig => monConfigStatic c
  | .axdWrite => axdWriteStatic c
  | .axdStrobe => axdStrobeStatic c
  | .fltReaction => fltReactionStatic c
  | .memDelays => memDelaysStatic c
  | .memScan => memScanStatic c
  | .memFreq => memFreqStatic c
  | .memRetire => memRetireStatic c
  | .memRead => memReadStatic c
  | .memWrite => memWriteStatic c
  | .lcAdvance => lcAdvanceStatic c
  | .updStage => updStageStatic c
  | .updSwitch => updSwitchStatic c
  | .prfEnter => prfEnterStatic c
  | .prfInject => prfInjectStatic c
  | .prfPerturb => prfPerturbStatic c
  | .elDescriptor => elDescriptorStatic c
  | .elSkew => elSkewStatic c
  | .fmStatus => if c.scope = 1 then [] else [resv c.par [2, 3]]
  | .qDestroy => [idCheck c 0]
  | .qReset => [idCheck c 0]
  | .qStatus => [idCheck c 0]
  | .calCommit => [badAny (c.opf == 3)]
  | .calRead => if c.scope = 0 then [] else [bad (decide (1 < c.u8 0)) 0, resv c.par [1, 2, 3]]
  | .fltLog => [bad (decide (c.u32 4 < 1) || decide (64 < c.u32 4)) 4]
  | .retRecord => [idCheck c 0]
  | .elPair => [badAny (c.opf == 3), badAny (c.idx % 2 == 1)]
  | .elReset => [badAny (c.opf ≠ 1 && c.opf ≠ 2)]
  | .imModel => [match modelRecordBad c.par true with | some o => bad true o | none => bad false 0, bad (c.u16 0 ≠ c.idx) 0]
  | .nop | .identify | .getMode | .getReady | .getTime | .chArm | .chStatus | .fmLockup | .fmStart | .fmStop | .fmRelease
  | .qBind | .imStatus | .calStatus | .calPersist | .regStatus | .monStatus | .fltStatus | .fltClear | .memStatus |
  .lcStatus | .prfExit | .elStatus => []

/-- The checks of ASSIGN that depend on the packet alone (R350). -/
def assignChecks (c : Cmd) : List Check := [bad (decide (64 ≤ c.u32 0)) 0]

/-- The opcode carried out: its own checks (step 9 of R362) and its effect. -/
def Op.run (op : Op) (c : Cmd) (d : Device) : Res :=
  match op with
  | .nop => runNop c d
  | .identify => runIdentify c d
  | .getMode => runGetMode c d
  | .setMode => runSetMode c d
  | .getReady => runGetReady c d
  | .setFrame => runSetFrame c d
  | .getTime => runGetTime c d
  | .resetBlock => runResetBlock c d
  | .chConfig => runChConfig c d
  | .chFunction => runChFunction c d
  | .chSetpoint => runChSetpoint c d
  | .chLimits => runChLimits c d
  | .chRange => runChRange c d
  | .chAutorange => runChAutorange c d
  | .chArm => runChArm c d
  | .chPark => runChPark c d
  | .chMeasure => runChMeasure c d
  | .chAperture => runChAperture c d
  | .chStatus => runChStatus c d
  | .chStrobe => runChStrobe c d
  | .chMigrate => runChMigrate c d
  | .fmLoad => runFmLoad c d
  | .fmSegment => runFmSegment c d
  | .fmLockup => runFmLockup c d
  | .fmStart => runFmStart c d
  | .fmStop => runFmStop c d
  | .fmJump => runFmJump c d
  | .fmStreamBind => runFmStreamBind c d
  | .fmStatus => runFmStatus c d
  | .fmRelease => runFmRelease c d
  | .qCreate => runQCreate c d
  | .qDestroy => runQDestroy c d
  | .qReset => runQReset c d
  | .qStatus => runQStatus c d
  | .qNotify => runQNotify c d
  | .qBind => runQBind c d
  | .imZone => runImZone c d
  | .imRail => runImRail c d
  | .imModel => runImModel c d
  | .imSensor => runImSensor c d
  | .imStatus => runImStatus c d
  | .imPolicy => runImPolicy c d
  | .calMode => runCalMode c d
  | .calStatus => runCalStatus c d
  | .calCommit => runCalCommit c d
  | .calRead => runCalRead c d
  | .calWrite => runCalWrite c d
  | .calPersist => runCalPersist c d
  | .tsWrite => runTsWrite c d
  | .tsSelect => runTsSelect c d
  | .mkRoute => runMkRoute c d
  | .trigConfig => runTrigConfig c d
  | .regJoin => runRegJoin c d
  | .regStatus => runRegStatus c d
  | .regSkew => runRegSkew c d
  | .regArmAt => runRegArmAt c d
  | .monConfig => runMonConfig c d
  | .monStatus => runMonStatus c d
  | .axdWrite => runAxdWrite c d
  | .axdStrobe => runAxdStrobe c d
  | .fltStatus => runFltStatus c d
  | .fltClear => runFltClear c d
  | .fltReaction => runFltReaction c d
  | .fltLog => runFltLog c d
  | .memStatus => runMemStatus c d
  | .memDelays => runMemDelays c d
  | .memScan => runMemScan c d
  | .memFreq => runMemFreq c d
  | .memRetire => runMemRetire c d
  | .memRead => runMemRead c d
  | .memWrite => runMemWrite c d
  | .lcStatus => runLcStatus c d
  | .lcAdvance => runLcAdvance c d
  | .updStage => runUpdStage c d
  | .updSwitch => runUpdSwitch c d
  | .retRecord => runRetRecord c d
  | .prfEnter => runPrfEnter c d
  | .prfInject => runPrfInject c d
  | .prfPerturb => runPrfPerturb c d
  | .prfExit => runPrfExit c d
  | .elStatus => runElStatus c d
  | .elDescriptor => runElDescriptor c d
  | .elPair => runElPair c d
  | .elSkew => runElSkew c d
  | .elReset => runElReset c d

/-- The part of an accepted command's effect that waited for its boundary (R60). -/
def applyCmd (op : Op) (c : Cmd) (d : Device) : Device :=
  match op with
  | .chConfig => applyChConfig c d
  | .chFunction => applyChFunction c d
  | .chSetpoint => applyChSetpoint c d
  | .chLimits => applyChLimits c d
  | .chAutorange => applyChAutorange c d
  | .chAperture => applyChAperture c d
  | .calMode => applyCalMode c d
  | .calCommit => applyCalCommit c d
  | .mkRoute => applyMkRoute c d
  | .trigConfig => applyTrigConfig c d
  | .monConfig => applyMonConfig c d
  | .tsSelect => applyTsSelect c d
  | .fmStop => applyFmStop c d
  | .qNotify => applyQNotify c d
  | .fltReaction => applyFltReaction c d
  | .imZone => applyImZone c d
  | .imRail => applyImRail c d
  | .elPair => applyElPair c d
  | .prfInject => applyPrfInject c d
  | .prfPerturb => applyPrfPerturb c d
  | _ => d

/-- An action at the boundary it waited for (R60, R92, R352). -/
def Device.applyAct (d : Device) (a : Act) : Device :=
  match a with
  | .cmd op c => applyCmd op c d
  | .flr f => d.applyFlr f
  | .numVFs n => d.applyNumVFs n
  | .spareSwap e => d.applySwap e

/-! ### From packet to command (R360) -/

/-- The fields of a packet body. -/
def parseCmd (env : Env) (body : List Byte) (fast : Bool) (frame stamp : Nat) : Cmd :=
  let fl := Packet.flags body
  let tg := Packet.target body
  { env := env, opf := bits fl 7 4, assign := bit fl 3, fence := bit fl 1, scope := bits tg 11 10, idx := bits tg 20 12,
    nb := Packet.notBefore body, par := body.drop 32, fast := fast, frame := frame, stamp := stamp, acc := env.acc, atNow := false }

/-- The envelope of a packet: `q` is the SOURCE word's low part (R364). Replies go to the reply ring named, or to the function's
admin reply ring where it is none of the function's reply rings (step 4 of R362). -/
def Device.envelope (d : Device) (f source : Nat) (gap : Bool) (seq : Nat) (body : List Byte) : Env :=
  let fl := Packet.flags body
  let rq := match d.ring? (Packet.replyQ body) with
    | some r => if r.kind = 1 ∧ r.fn = f then Packet.replyQ body else 4 * f + 1
    | none => 4 * f + 1
  { fn := f, rq := rq, opcode := Packet.opcode body, folio := Packet.folio body, target := Packet.target body, source := source, gap := gap,
    seq := seq, noreply := bit fl 0, irq := bit fl 2, acc := d.cmd.nextAcc }

/-- REPLY names a reply ring of the sending function (step 4 of R362). -/
def Device.replyRingOk (d : Device) (f : Nat) (body : List Byte) : Bool :=
  match d.ring? (Packet.replyQ body) with
  | some r => r.kind == 1 && r.fn == f
  | none => false

/-- The command is for this device: 0x3FF or its own ID (R360). -/
def Device.ownId (d : Device) (body : List Byte) : Bool :=
  let i := bits (Packet.target body) 9 0
  i == 0x3FF || d.reg.id == some i

/-- Reserved header bytes and bits are 0, and the flags are the opcode's (step 3 of R362, R384). -/
def headerOk (op : Op) (body : List Byte) : Bool :=
  let fl := Packet.flags body
  let f := bits fl 7 4
  u32At body 20 == 0 && bits (Packet.target body) 31 21 == 0 && bits (Packet.replyQ body) 31 20 == 0 && f &&& op.flagMask == f &&
  !op.flagReserved f && (!bit fl 3 || (op.assignable && f == 0))

/-- BAD_LENGTH and header faults name no parameter (R383). -/
def noField : List Byte := le32 0xFFFFFFFF

/-- The target is the function's own, and does not lie on the second channel of a pair (step 7 of R362, R184, R351). -/
def Device.targetOk (d : Device) (op : Op) (c : Cmd) : Bool :=
  let link := match op with | .elStatus | .elDescriptor | .elPair | .elSkew | .elReset => true | _ => false
  d.ownsTarget op c && (c.scope ≠ 1 || link || !((d.link c.idx).dual && c.idx % 2 == 1))

/-- Opcodes whose effect must be asked for ahead of its boundary: they are carried out when taken, with NOT_BEFORE in their boundary
(R244, R252, R266, R268, R339; DEDUCED). -/
def Op.leads : Op → Bool
  | .fmStart | .chStrobe | .tsSelect | .chArm | .axdStrobe | .regArmAt => true
  | _ => false

/-- The command is to wait for its NOT_BEFORE (R559). -/
def Op.waitsFor (op : Op) (c : Cmd) : Bool := !c.fast && decide (c.stamp < c.nb) && !op.leads

/-- Steps 1 to 8 of R362; a command that is to wait for its NOT_BEFORE makes step 7 there (R559). -/
def Device.headChecks (d : Device) (op : Op) (c : Cmd) (body : List Byte) (lengthOk : Bool) : List Check :=
  [(!lengthOk, stBAD_LENGTH, noField), no (Packet.version body ≠ 1 || Packet.opcode body ≠ op.code) stBAD_OPCODE,
   (!headerOk op body, stBAD_PARAM, noField), no (!d.replyRingOk c.env.fn body) stBAD_TARGET,
   no (!(d.ownId body && op.scopeOk c)) stBAD_TARGET, no (op.pfOnly c && c.env.fn ≠ 0) stDENIED,
   no (!op.waitsFor c && !d.targetOk op c) stBAD_TARGET, (!op.lengthOk c, stBAD_LENGTH, noField)]

/-- The checks made where the command is carried out, ahead of the opcode's own (R381, R558; step 7 of R362 for one that waited). -/
def Device.stateChecks (d : Device) (op : Op) (c : Cmd) : List Check :=
  [no (!d.targetOk op c) stBAD_TARGET, (match d.modeCheck op with | some s => no true s | none => no false 0),
   no (op.needsLink && !c.assign && (d.desc? c.idx).isNone) stNOT_READY]

/-! ### Carrying out and answering -/

/-- The reply that an answer asks for. -/
def Device.answer (d : Device) (c : Cmd) (a : Ans) : Device :=
  match a with
  | .done s p => d.final c.env s p
  | .interim s p => d.reply c.env s p true
  | .both p s f => (d.reply c.env stACCEPTED p true).final c.env s f
  | .later => d

/-- Step 7 and the checks after it, the effect and the answer. -/
def Device.carryOut (d : Device) (op : Op) (c : Cmd) : Device :=
  let r := checked d (d.stateChecks op c) (if c.assign then runAssign op c d else op.run c d)
  r.2.answer c r.1

/-- A command with its NOT_BEFORE ahead waits for it, its packet checks made (R559). -/
def Device.schedule (d : Device) (op : Op) (c : Cmd) : Device :=
  match firstFail (if c.assign then assignChecks c else op.packetChecks c) with
  | some r => d.final c.env r.1 r.2
  | none => { d with cmd := { d.cmd with waiting := d.cmd.waiting ++ [{ op := op, cmd := c }] } }

/-- Space that a command reserves in its reply ring (R365): its largest interim and final replies and the slot after them. -/
def Op.replySpace (op : Op) (body : List Byte) : Nat :=
  let most := match op with
    | .memRead => min 4096 (u32At body 40)
    | .fltLog => 8 + 64 * min 64 (u32At body 36)
    | o => o.replyMax
  40 + padded most + 36 * (if op.isLong then 1 else 0)

/-- A command packet is taken from its ring (R364..R367): numbered, its bytes freed, space for its replies reserved. -/
def Device.taken (d : Device) (op : Op) (f q : Nat) (r : Ring) (body : List Byte) : Device × Env :=
  let gap := match r.lastFolio with | some k => Packet.folio body ≠ (k + 1) % 2 ^ 32 | none => false
  let env := d.envelope f q gap r.nextSeq body
  let here := decide (4 + padded body.length ≤ r.level) && leNat (d.ringGet r r.tailA 4) % 2 ^ 24 == body.length
  let d := d.setRing q { r with nextSeq := (r.nextSeq + 1) % 2 ^ 32, lastFolio := some (Packet.folio body) }
  let d := if here then d.freeBytes q (4 + padded body.length) true else d
  let need := op.replySpace body
  let d := d.onRing env.rq fun x => { x with reserved := x.reserved + need }
  ({ d with cmd := { d.cmd with nextAcc := d.cmd.nextAcc + 1, outstanding := d.cmd.outstanding ++ [(env, need)] } }, env)

/-- LENGTH is a multiple of 4, 32..131,072, and the packet's length in its ring (step 1 of R362). -/
def bodyLengthOk (body : List Byte) : Bool :=
  let len := Packet.length body
  len % 4 == 0 && decide (32 ≤ len) && decide (len ≤ 131072) && len == body.length

/-- A taken command is checked, carried out or set to wait. -/
def Device.proceed (d : Device) (op : Op) (c : Cmd) (t : Nat) (body : List Byte) : Device :=
  match firstFail (d.headChecks op c body (bodyLengthOk body)) with
  | some x => d.final c.env x.1 x.2
  | none => if t < c.nb ∧ !op.leads then d.schedule op c else d.carryOut op c

/-- A firmware command is started. -/
def Device.start (d : Device) (op : Op) (f q t : Nat) (body : List Byte) : Device :=
  match d.ring? q with
  | none => d
  | some r =>
    let x := d.taken op f q r body
    x.1.proceed op (parseCmd x.2 body false d.time.frame t) t body

/-! ### What holds a command back (R33, R365, R367, R485) -/

/-- Why a command of a ring does not start yet; `before` are the held commands ahead of it. -/
def Device.holds (d : Device) (op : Op) (f q : Nat) (body : List Byte) (before : List Held) : Option HoldReason :=
  let rq := (d.envelope f q false 0 body).rq
  if d.mode.updActive then some .update
  else if !d.press.active then some .press
  else if before.any fun h => h.pkt.qid.toNat == q then some .order
  else if bit (Packet.flags body) 1 && d.cmd.outstanding.any (fun e => e.1.source == q) then some .fence
  else
    match d.ring? rq with
    | some r => if r.level + r.reserved + op.replySpace body ≤ r.z then none else some .replySpace
    | none => none

/-- The held commands that may start, each with its queue ID. -/
def Device.startable (d : Device) : List Held → List Held → List Held
  | _, [] => []
  | before, h :: l =>
    let rest := d.startable (before ++ [h]) l
    if (d.holds h.op h.pkt.fn.val h.pkt.qid.toNat h.pkt.body before).isNone then h :: rest else rest

/-- Held commands start as what held them ends, the lowest queue ID first (R367); those of a halted or destroyed ring are gone (R440). -/
def Device.releaseHeld (d : Device) : Nat → Device
  | 0 => d
  | k + 1 =>
    let alive := d.cmd.held.filter fun h => match d.ring? h.pkt.qid.toNat with | some r => !r.halt | none => false
    let d : Device := { d with cmd := { d.cmd with held := alive } }
    match (d.startable [] alive).foldl (fun b h => match b with
        | none => some h
        | some x => if h.pkt.qid.toNat < x.pkt.qid.toNat then some h else b) none with
    | none => d
    | some h =>
      let d' : Device := { d with cmd := { d.cmd with held := d.cmd.held.erase h } }
      (d'.start h.op h.pkt.fn.val h.pkt.qid.toNat d.time.now h.pkt.body).releaseHeld k

/-- Every held command gets its chance. -/
def Device.release (d : Device) : Device := d.releaseHeld (d.cmd.held.length + 1)

/-- A command packet of a ring reaches the Press (R367, R372): its ring must be the function's own command ring and in service. -/
def Device.submit (d : Device) (op : Op) (p : Packet) : Device :=
  let d := d.at p.at_
  let q := p.qid.toNat
  let d := if d.running then d.checkPtr q else d
  match d.ring? q with
  | none => d
  | some r =>
    if r.kind ≠ 0 || r.fn ≠ p.fn.val || r.halt || !d.running then d
    else
      let d := d.touch q
      match d.holds op p.fn.val q p.body d.cmd.held with
      | some w => { d with cmd := { d.cmd with held := d.cmd.held ++ [{ op := op, pkt := p, why := w }] } }
      | none => d.start op p.fn.val q d.time.now p.body

/-- A packet with ASSIGN: its opcode is that of the resource's class (R350). -/
def Device.submitAssign (d : Device) (p : Packet) : Device := d.submit ((opOfCode (Packet.opcode p.body)).getD .nop) p

/-- The waiting commands whose boundary is the one just begun, carried out in their order of acceptance (R559). -/
def Device.runWaiting (d : Device) : Device :=
  let due := d.cmd.waiting.filter fun w => decide (w.cmd.nb ≤ d.time.tick)
  let d : Device := { d with cmd := { d.cmd with waiting := d.cmd.waiting.filter fun w => !decide (w.cmd.nb ≤ d.time.tick) } }
  due.foldl (fun d w => d.carryOut w.op { w.cmd with atNow := true }) d

/-! ### Fast slots (R368..R371) -/

/-- A fast-slot write that is dropped (R368). -/
def Device.dropFast (d : Device) (f : Nat) : Device :=
  (d.onFn f fun x => { x with fpDrop := min (2 ^ 32 - 1) (x.fpDrop + 1) }).cause f 2

/-- What BRING-UP asks of a fast command's channel (R371). -/
def Device.fastReady (d : Device) (op : Op) (c : Cmd) : Bool :=
  d.mode.phase ≠ .bringUp ||
  match op with
  | .chSetpoint | .fmJump =>
    (d.desc? c.idx).isSome && (match d.engineOf (c.idx / 8) with | some e => bit d.ready.eng e | none => false) && d.blk bSEQ && d.blk bIMPOS
  | _ => true

/-- The modes in which a fast command is served (R37). -/
def Device.fastMode (d : Device) : List Check := [no (d.mode.phase == .wipe || d.mode.phase == .returned) stWRONG_MODE]

/-- A taken fast slot: the checks of R362 with those of R368, the effect, and the reply without a wait for space (R365). -/
def Device.takeFast (d : Device) (f slot taken stamp frame : Nat) (body : List Byte) : Device :=
  let x := d.fn f
  let gap := match x.fastFolio with | some k => Packet.folio body ≠ (k + 1) % 2 ^ 32 | none => false
  let env := d.envelope f (0xFFFFF + 2 ^ 22 + slot * 2 ^ 23) gap taken body
  let d := { d with cmd := { d.cmd with nextAcc := d.cmd.nextAcc + 1 } }
  let d := d.setFn f { x with fastFolio := some (Packet.folio body), fpTaken := (taken + 1) % 2 ^ 32 }
  let len := Packet.length body
  let c := parseCmd env (body.take len) true frame stamp
  let lengthOk := len % 4 == 0 && decide (32 ≤ len) && decide (len ≤ 64) && decide (len ≤ body.length)
  match opOfCode (Packet.opcode body) with
  | none => d.final env (if lengthOk then stBAD_OPCODE else stBAD_LENGTH) (if lengthOk then [] else noField)
  | some op =>
    let l := [(!lengthOk, stBAD_LENGTH, noField), no (!op.fastAllowed || c.assign) stBAD_OPCODE] ++ d.headChecks op c body true ++
      d.fastMode ++ [no (!d.fastReady op c) stNOT_READY]
    match firstFail l with
    | some r => d.final env r.1 r.2
    | none => d.carryOut op c

/-- FAST_SLOT_WRITE (R368, R369): dropped while the slot's command is untaken, else stamped and taken in order of arrival, at one slot
per 10 ns. Without the endpoint or the state machine in service no write reaches it. -/
def Device.fastSlotWrite (d : Device) (f slot t : Nat) (body : List Byte) : Device :=
  let d := d.at t
  let t := d.time.now
  if !d.pcieUp || !d.blk bHCSM || !d.running then d
  else if d.fast.any fun p => p.fn == f && p.slot == slot && decide (t < p.takeAt) then d.dropFast f
  else
    let at_ := max t d.fastLast + 160
    let inTime := decide (at_ ≤ d.nextTick + linkAllowance d.time.n)
    let w : FastPending := { fn := f, slot := slot, takeAt := at_ }
    let d : Device := { d with fast := (d.fast.filter fun p => decide (t < p.takeAt)) ++ [w], fastLast := at_ }
    let d := if inTime then d else d.onFn f fun x => { x with late := true }
    let taken := { d with time := { d.time with now := at_ } }.takeFast f slot (d.fn f).fpTaken t (if inTime then d.time.frame else d.frameOfTick at_) body
    { taken with time := { taken.time with now := t } }

end Sys2Proof.Machine
end

