-- ==== Sys2Proof/Machine/Frame.lean ====
section
/-! DEFINITION. The frame boundary: the tick, the actions that wait for it, the downstream blocks (R42, R60, R88..R91, R159..R161). -/

namespace Sys2Proof.Machine

/-! ### Downstream blocks (R153, R159..R161, R176, R185) -/

/-- Code, forcing path and relay of a channel's block in the frame just begun (R62, R76, R88, R89). -/
def Device.blockState (d : Device) (ch : Nat) : Nat × Nat × Bool :=
  let c := d.chan ch
  let f := c.cfg.func
  let path (g : Nat) : Nat := (fnPath g).getD 0
  let open_ : Nat × Nat × Bool := (0x20000, path f, false)
  match c.arm with
  | .parked => open_
  | .arming => if f = fnOFF then open_ else (c.zero f, path f, true)
  | _ =>
    match c.fnChange with
    | some g =>
      if g.b ≠ d.time.frame then (if f = fnOFF then open_ else (c.loop.code, path f, true))
      else if g.old = fnOFF then (c.zero g.new, path g.new, true)
      else if g.new = fnOFF then (0x20000, path g.old, false)
      else if g.across then (c.zero g.old, path g.old, true)
      else (c.loop.code, path f, true)
    | none => if f = fnOFF then open_ else (c.loop.code, path f, true)

/-- A number signed in 12 bits, held within the field. -/
def clamp12 (v : Int) : Nat := ofSigned 12 (max (-2048) (min 2047 v))

/-- TYPE (R159): HOLDOFF unless the link is UP (R176), STANDBY on the link of a pair that is not the active one (R185). -/
def Link.blockType (x : Link) : Nat := if x.state = .up then (if x.active then 9 else 11) else 13

/-- D0 (R159). -/
def Device.blockD0 (d : Device) (l : Nat) (apply : Bool) : Nat :=
  let x := d.link l
  let c := d.chan (d.chanOfLink l)
  let cls := if d.time.n < 50 then 1 else if d.time.n < 100 then 2 else 3
  let (q, r, p, n) : Nat × Nat × Int × Int := match x.desc with
    | some s => c.loop.clamp.getD (c.clamps s)
    | none => (0, 0, 0, 0)
  x.blockType + c.cfg.tset * 16 + d.time.frame % 128 * 256 + flag (decide (d.time.n % 2 = 1 ∧ d.time.frame % 2 = 1)) 15 + d.strobeMask * 2 ^ 16 +
  cls * 2 ^ 32 + flag apply 34 + q * 2 ^ 35 + r * 2 ^ 36 + clamp12 p * 2 ^ 40 + clamp12 n * 2 ^ 52

/-- D1 without its CRC (R160, R161); a link that is not UP carries the park pattern (R175, R176). -/
def Device.blockD1 (d : Device) (l mgmt : Nat) : Nat :=
  let ch := d.chanOfLink l
  let c := d.chan ch
  let (code, path, relay) := if d.linkUp l then d.blockState ch else (0x20000, 0, false)
  let (sq, sr) := match c.range.change with | some g => if c.secv then (g.want.quantity, g.new) else (0, 0) | none => (0, 0)
  let (rk, rs) := match c.cal.ask with | some (s, k) => if d.linkUp l then (k, s) else (0, 0) | none => (0, 0)
  code + path * 2 ^ 18 + flag relay 19 + c.range.v * 2 ^ 20 + c.range.i * 2 ^ 23 + flag (c.secv && c.range.change.isSome) 27 + sq * 2 ^ 28 + sr * 2 ^ 29 +
  rk * 2 ^ 33 + rs * 2 ^ 36 + mgmt * 2 ^ 41

/-- The CRC-8 of a word pair (R153). -/
def pairCrc (a b : Nat) : Nat := (crc8From 0x2F 0xFF ((leBytes 8 a).reverse ++ (leBytes 7 b).reverse)) ^^^ 0xFF

/-- The block of a link for the frame just begun, with a management byte and TAPPLY. -/
def Device.putBlock (d : Device) (l mgmt : Nat) (apply : Bool) : Device :=
  let a := d.blockD0 l apply
  let b := d.blockD1 l mgmt
  d.onLink l fun x => { x with d0 := BitVec.ofNat 64 a, d1 := BitVec.ofNat 64 (b + pairCrc a b * 2 ^ 56) }

/-- Links that are driven: every one that is not DISABLED. -/
def Device.drivenLinks (d : Device) : List Nat := (d.links.filter fun l => l.2.state ≠ .disabled).map (·.1)

/-- The downstream link phase of a link (R42): the next management byte and TAPPLY go; TAPPLY of a block that was lost goes again (R177). The
upstream block of the frame is not held yet. -/
def Device.sendBlock (d : Device) (l : Nat) : Device :=
  let x := d.link l
  let again := x.blkErr && bit x.d0.toNat 34
  let d := d.putBlock l (x.tx.headD 0) (x.tapply || again)
  d.onLink l fun x => { x with tx := x.tx.drop 1, tapply := false, held := false, blkErr := false }

/-- The block is put together anew after commands that were carried out at this boundary. -/
def Device.resendBlock (d : Device) (l : Nat) : Device :=
  let x := d.link l
  let d := d.putBlock l (bits x.d1.toNat 50 41) (x.tapply || bit x.d0.toNat 34)
  d.onLink l fun x => { x with tapply := false }

/-- Channels that the frame concerns: those in use and those of an UP link. -/
def Device.frameChans (d : Device) : List Nat :=
  d.usedChans ++ ((d.links.filter fun l => l.2.state == .up).map fun l => d.chanOfLink l.1).filter fun ch => !d.usedChans.contains ch

/-- The codes sent in this frame. -/
def Device.noteSent (d : Device) : Device :=
  d.each d.frameChans fun d ch => let code := (d.blockState ch).1; d.onChan ch fun c => { c with loop := { c.loop with sent := code } }

/-! ### What waits for the boundary (R60, R88..R91, R118) -/

/-- Scheduled actions due at the boundary just begun, in their order of acceptance (R60). -/
def insertAcc (x : Sched) : List Sched → List Sched
  | [] => [x]
  | y :: l => if x.acc < y.acc then x :: y :: l else y :: insertAcc x l

def Device.dueActs (d : Device) : Device :=
  let due := d.sched.filter fun s => decide (s.tick ≤ d.time.tick)
  let d : Device := { d with sched := d.sched.filter fun s => !decide (s.tick ≤ d.time.tick) }
  (due.foldl (fun l s => insertAcc s l) []).foldl (fun d s => d.applyAct s.act) d

/-- A function that waited for the end of a range change takes effect (R118). -/
def Device.waitedFunction (d : Device) (ch : Nat) : Device :=
  let c := d.chan ch
  match c.fnWait with
  | some f => if c.range.change.isNone && c.range.cont.isNone && c.range.tail.isNone then d.setFunction ch f else d
  | none => d

/-- Frame a of a CH_ARM (R87, R88): the relay closes at the calibrated zero code, and the command is answered with tick a and S. A mode
that has come into force at this boundary and arms no channel refuses it (R37). Recovery from SAFE ends (R31). -/
def Device.startArming (d : Device) (ch : Nat) : Device :=
  let c := d.chan ch
  match c.armReq with
  | none => d
  | some (t, env) =>
    if d.time.tick < t || c.range.change.isSome then d
    else if !d.armMode ch then (d.setChan ch { c with armReq := none }).final env stWRONG_MODE []
    else
      let s := d.settleOf ch
      let c' : Chan := { c with arm := .arming, armReq := none, armFrame := d.time.frame, settle := s, fnChange := none, closing := none, softReq := none,
                                loop := c.loop.fresh, aper := { c.aper with cut := true } }
      let d : Device := { d.setChan ch c' with mode := { d.mode with recovery := false } }
      d.final env stOK (le64 d.time.tick ++ le32 s)

/-- Frame p of a hard park (R89). -/
def Device.parkNow (d : Device) (ch : Nat) : Device :=
  let c := d.chan ch
  match c.parkPend with
  | none => d
  | some (cause, t) =>
    if d.time.tick < t then d
    else if !c.armed then (if c.armReq.isSome then d.setChan ch { c with parkPend := none } else d)
    else
      let d := d.abortRange ch
      let d := d.onChan ch fun c =>
        { c with arm := .parked, parkCause := cause, parkPend := none, softReq := none, fnChange := none, closing := none,
                 loop := { c.loop.fresh with code := 0x20000 }, aper := { c.aper with cut := true } }
      (d.stopContext ch (if cause = 5 then 3 else 2)).axdSafe ch cause

/-- The first frame of a soft park (R90); for a channel that runs no loop any more it is a hard park. -/
def Device.startSoftPark (d : Device) (ch : Nat) : Device :=
  let c := d.chan ch
  match c.softReq with
  | none => d
  | some (t, p) =>
    if d.time.tick < t then d
    else if c.arm == .armed && fnClosed c.cfg.func then
      d.setChan ch { c with arm := .softPark, softReq := none, rampP := p, rampJ := 0, rampTick := d.time.tick }
    else (d.setChan ch { c with softReq := none }).park ch 1 d.time.tick

/-- Modes, arming and parks at the boundary just begun. -/
def Device.boundaryWork (d : Device) : Device :=
  let d := d.dueModes
  let d := d.each d.usedChans Device.flushChange
  let d := d.each d.usedChans Device.waitedFunction
  let d := d.each d.usedChans Device.startArming
  let d := d.haltTicks
  let d := d.each d.usedChans Device.startSoftPark
  d.each d.usedChans Device.parkNow

/-- ARMING_COMPLETE (R88): frame a + S - 1 has begun; the law decides its first code with the integrator at 0. -/
def Device.armingComplete (d : Device) (ch : Nat) : Device :=
  let c := d.chan ch
  if c.arm = .arming ∧ c.armFrame + c.settle ≤ d.time.frame + 1 then d.setChan ch { c with arm := .armed, loop := c.loop.fresh } else d

/-- SOFT_PARK_RAMP_COMPLETE (R90, R91): the hard park follows at the next boundary. -/
def Device.rampComplete (d : Device) (ch : Nat) : Device :=
  let c := d.chan ch
  if c.arm = .softPark ∧ c.rampP ≤ c.rampJ then d.park ch 1 d.nextTick else d

/-! ### The tick (R11, R42) -/

/-- The next frame begins; the first tick after the timebase runs is the epoch and begins frame 0 (R11). -/
def Device.nextFrame (d : Device) : Device :=
  if d.time.started then
    let t := d.nextTick
    { d with time := { d.time with frame := d.time.frame + 1, tick := t, now := max t d.time.now, slew := 0 } }
  else { d with time := { d.time with started := true, frame := 0, tick := 0, now := 0, slew := 0 } }

/-- Strobes, arm slots, AXDs, MK pins and comparators in the frame just begun (R257, R266..R268, R274, R339). -/
def Device.edgeFrame (d : Device) : Device :=
  let d := ((d.strobeFrame).armsDue).axdFrame
  let d := d.each (d.edge.pins.map (·.1)) fun d m => d.pinFrame m
  d.each (List.range 64) fun d m => d.monFrame m

/-- The calibration engine at a boundary (R126, R136, R144). -/
def Device.calFrame (d : Device) (ch : Nat) : Device := ((d.commitFrame ch).persistFrame ch).calFrameBegin ch

/-- FRAME_TICK (R42): the boundary's actions and the downstream link phase of the frame that begins. Without ticks nothing happens. -/
def Device.frameTick (d : Device) : Device :=
  if !d.time.running then d
  else
    let d := d.nextFrame
    let d := d.dueSetFrame
    let d : Device := { d with ready := d.ready.tick }
    let d := (d.dueMigrations.dueActs).boundaryWork
    let d := (d.imposeStates).seqTicks
    let d := d.tsCommit
    let d := d.each d.frameChans Device.calFrame
    let d := ((d.endBringUp).flushTriggers).flushLate
    let d := ((d.edgeFrame).sendEvents).perturbTick
    let d := d.each d.frameChans fun d ch => d.onChan ch fun c => { c with loop := { c.loop with last := c.loop.sent, done := false } }
    let d := d.noteSent.each d.drivenLinks Device.sendBlock
    d.reportMode

/-- NOT_BEFORE_BOUNDARY (R559): the commands due at the boundary just begun are carried out there; blocks and pins of the frame follow. -/
def Device.notBefore (d : Device) : Device :=
  if !d.time.started || (d.cmd.waiting.all fun w => decide (d.time.tick < w.cmd.nb)) then d
  else
    let old := d
    let d := (d.runWaiting).boundaryWork
    let d := d.noteSent.each d.drivenLinks Device.resendBlock
    let d := d.each (d.edge.pins.map (·.1)) fun d m => if (d.pin m).route = (old.pin m).route then d else d.pinFrame m
    d.reportMode

end Sys2Proof.Machine
end

