-- ==== Sys2Proof/Machine/Meaning.lean ====
section
/-! DEFINITION. How a command acts on the state: what follows every command (held commands, cells that fall due, outputs), the host's
port, and the few commands whose effect is not a unit's own. -/

namespace Sys2Proof.Machine

/-- What follows a command that may end a wait: commands that were held start (R33, R367), a REGISTERED device sends the cells that its
changes call for (R298, R305, R342, R344), and the outputs follow. -/
def Device.follow (old d : Device) : Device :=
  let d := if old.cmd.held.isEmpty then d else d.release
  let d := if old.reg.state == .registered then old.pump d else d
  d.settle

/-- A meaning with what follows it; the queue is not touched. -/
def State.onDevX (s : State) (f : Device → Device) : State := { s with dev := s.dev.follow (f s.dev) }

/-- A write of the host through BAR0: it reaches the device only while the endpoint serves and the device is out of HELD (R353, R537). -/
def State.onHost (s : State) (f : Device → Device) : State := s.onDevX fun d => if d.pcieUp && d.running then f d else d

/-- MEMCTL ready: kept delay blocks have been written and verified (R460). -/
def Device.keptVerified (d : Device) (u : ReadyUnit) (ok : Bool) : Device :=
  if ok && d.running && u == .blk 12 then d.verifyKept else d

/-- FLR (R352): it waits for the first frame boundary after the device receives it. -/
def Device.flrRequest (d : Device) (f : Nat) : Device := if d.running && d.pcieUp then d.waitBoundary (.flr f) else d

/-- VF_REMOVAL (R352): a lower NumVFs waits for the boundary; a NumVFs that is no lower removes nothing. -/
def Device.vfRemoval (d : Device) (n : Nat) : Device :=
  if !d.running || !d.pcieUp then d else if n < d.numVFs then d.waitBoundary (.numVFs n) else { d with numVFs := n }

/-- SMB_WRITE_FAULTN (R376, R377): bit 0 sets or clears FORCE; a write with a wrong PEC is ignored. -/
def Device.smbFaultn (d : Device) (v : Nat) (pecOk : Bool) : Device :=
  if d.aon.vddAon && pecOk then { d with aon := { d.aon with force := bit v 0 } } else d

/-- SMB_ALERT_RESPONSE (R538): while the device drives SMB_ALERT_N it answers with its own address, in bits 7:1 of the byte. -/
def Device.smbAlert (d : Device) : Device := if d.pinsOf.smbAlertN then d.smb [BitVec.ofNat 8 (d.aon.smbAddr * 2)] else d

end Sys2Proof.Machine
end

