-- ==== Sys2Proof/Machine/Commands.lean ====
section
/-! DEFINITION. Meanings of the firmware commands: a packet of the row's opcode reaches the Press from a command ring (R360..R367, R386..R422). -/

namespace Sys2Proof.Machine

/-- NOP: NOP does nothing and replies OK. (R386) -/
def execNop (p : Packet) (s : State) : Host.Outcome State Fault Refusal :=
  .next (s.onDevX fun d => d.submit .nop p)

/-- IDENTIFY: IDENTIFY returns identity, version, device ID and ownership data. (R387) -/
def execIdentify (p : Packet) (s : State) : Host.Outcome State Fault Refusal :=
  .next (s.onDevX fun d => d.submit .identify p)

/-- GET_MODE: GET_MODE returns MODE_STATUS and the boundary of its last change. (R386) -/
def execGetMode (p : Packet) (s : State) : Host.Outcome State Fault Refusal :=
  .next (s.onDevX fun d => d.submit .getMode p)

/-- SET_MODE_RUN: SET_MODE RUN moves STANDBY or SAFE to the RUN family at a boundary. (R36) -/
def execSetModeRun (p : Packet) (s : State) : Host.Outcome State Fault Refusal :=
  .next (s.onDevX fun d => d.submit .setMode p)

/-- SET_MODE_STANDBY: SET_MODE STANDBY moves the RUN family or SAFE to STANDBY with no channel armed. (R36) -/
def execSetModeStandby (p : Packet) (s : State) : Host.Outcome State Fault Refusal :=
  .next (s.onDevX fun d => d.submit .setMode p)

/-- SET_MODE_SAFE: SET_MODE SAFE enters SAFE, parking every channel, or sets SAFE_PEND in BRING-UP. (R36) -/
def execSetModeSafe (p : Packet) (s : State) : Host.Outcome State Fault Refusal :=
  .next (s.onDevX fun d => d.submit .setMode p)

/-- GET_READY: GET_READY returns the function-ready words. (R386) -/
def execGetReady (p : Packet) (s : State) : Host.Outcome State Fault Refusal :=
  .next (s.onDevX fun d => d.submit .getReady p)

/-- SET_FRAME: SET_FRAME checks and changes the frame count N at a boundary. (R40) -/
def execSetFrame (p : Packet) (s : State) : Host.Outcome State Fault Refusal :=
  .next (s.onDevX fun d => d.submit .setFrame p)

/-- GET_TIME: GET_TIME returns the tick and number of the current frame and N. (R386) -/
def execGetTime (p : Packet) (s : State) : Host.Outcome State Fault Refusal :=
  .next (s.onDevX fun d => d.submit .getTime p)

/-- RESET_BLOCK: RESET_BLOCK resets a listed block, which restarts and reports ready. (R388) -/
def execResetBlock (p : Packet) (s : State) : Host.Outcome State Fault Refusal :=
  .next (s.onDevX fun d => d.submit .resetBlock p)

/-- ASSIGN: A PF command with ASSIGN moves a resource, or a queue quota, to another function. (R350) -/
def execAssign (p : Packet) (s : State) : Host.Outcome State Fault Refusal :=
  .next (s.onDevX fun d => d.submitAssign p)

/-- CH_CONFIG: CH_CONFIG writes a channel's loop section or plant section. (R390) -/
def execChConfig (p : Packet) (s : State) : Host.Outcome State Fault Refusal :=
  .next (s.onDevX fun d => d.submit .chConfig p)

/-- CH_FUNCTION: CH_FUNCTION changes a channel's function at a boundary. (R76) -/
def execChFunction (p : Packet) (s : State) : Host.Outcome State Fault Refusal :=
  .next (s.onDevX fun d => d.submit .chFunction p)

/-- CH_SETPOINT: CH_SETPOINT sets Vset, Iset, Rset or Pset from the next boundary. (R64) -/
def execChSetpoint (p : Packet) (s : State) : Host.Outcome State Fault Refusal :=
  .next (s.onDevX fun d => d.submit .chSetpoint p)

/-- CH_LIMITS: CH_LIMITS sets V± and I± and the analogue clamps. (R64) -/
def execChLimits (p : Packet) (s : State) : Host.Outcome State Fault Refusal :=
  .next (s.onDevX fun d => d.submit .chLimits p)

/-- CH_RANGE: CH_RANGE commands a range change and disables autorange for that quantity. (R116) -/
def execChRange (p : Packet) (s : State) : Host.Outcome State Fault Refusal :=
  .next (s.onDevX fun d => d.submit .chRange p)

/-- CH_AUTORANGE: CH_AUTORANGE enables or disables autorange with bounds, overlap and fade length. (R113) -/
def execChAutorange (p : Packet) (s : State) : Host.Outcome State Fault Refusal :=
  .next (s.onDevX fun d => d.submit .chAutorange p)

/-- CH_ARM: CH_ARM checks a channel and starts arming from frame a. (R87) -/
def execChArm (p : Packet) (s : State) : Host.Outcome State Fault Refusal :=
  .next (s.onDevX fun d => d.submit .chArm p)

/-- CH_PARK: CH_PARK without SOFT hard-parks a channel, or every channel of the function at device scope. (R89) -/
def execChPark (p : Packet) (s : State) : Host.Outcome State Fault Refusal :=
  .next (s.onDevX fun d => d.submit .chPark p)

/-- CH_PARK_SOFT: CH_PARK with SOFT ramps the target over P frames and then hard-parks. (R90) -/
def execChParkSoft (p : Packet) (s : State) : Host.Outcome State Fault Refusal :=
  .next (s.onDevX fun d => d.submit .chPark p)

/-- CH_MEASURE: CH_MEASURE starts taking K frame values of a channel. (R392) -/
def execChMeasure (p : Packet) (s : State) : Host.Outcome State Fault Refusal :=
  .next (s.onDevX fun d => d.submit .chMeasure p)

/-- CH_APERTURE: CH_APERTURE sets aperture length and alignment. (R78) -/
def execChAperture (p : Packet) (s : State) : Host.Outcome State Fault Refusal :=
  .next (s.onDevX fun d => d.submit .chAperture p)

/-- CH_STATUS: CH_STATUS returns the channel status word and values. (R393) -/
def execChStatus (p : Packet) (s : State) : Host.Outcome State Fault Refusal :=
  .next (s.onDevX fun d => d.submit .chStatus p)

/-- CH_STROBE: CH_STROBE requests strobe groups to fire in frame k + 2. (R266) -/
def execChStrobe (p : Packet) (s : State) : Host.Outcome State Fault Refusal :=
  .next (s.onDevX fun d => d.submit .chStrobe p)

/-- CH_MIGRATE: CH_MIGRATE starts moving a slot to a named physical engine after its self-test. (R94) -/
def execChMigrate (p : Packet) (s : State) : Host.Outcome State Fault Refusal :=
  .next (s.onDevX fun d => d.submit .chMigrate p)

/-- FM_LOAD: FM_LOAD writes a chunk of a forme image into a context. (R395) -/
def execFmLoad (p : Packet) (s : State) : Host.Outcome State Fault Refusal :=
  .next (s.onDevX fun d => d.submit .fmLoad p)

/-- FM_SEGMENT_DEFINE: FM_SEGMENT DEFINE creates a segment from its record and allocates galley blocks. (R196) -/
def execFmSegmentDefine (p : Packet) (s : State) : Host.Outcome State Fault Refusal :=
  .next (s.onDevX fun d => d.submit .fmSegment p)

/-- FM_SEGMENT_WRITE: FM_SEGMENT WRITE stores checked galley lines of a stored segment. (R200) -/
def execFmSegmentWrite (p : Packet) (s : State) : Host.Outcome State Fault Refusal :=
  .next (s.onDevX fun d => d.submit .fmSegment p)

/-- FM_SEGMENT_DELETE: FM_SEGMENT DELETE frees a segment and its blocks. (R193) -/
def execFmSegmentDelete (p : Packet) (s : State) : Host.Outcome State Fault Refusal :=
  .next (s.onDevX fun d => d.submit .fmSegment p)

/-- FM_LOCKUP: FM_LOCKUP checks a loaded forme, pre-stages targets and places and locks it. (R246) -/
def execFmLockup (p : Packet) (s : State) : Host.Outcome State Fault Refusal :=
  .next (s.onDevX fun d => d.submit .fmLockup p)

/-- FM_START: FM_START makes the walk from the entry and sets the context RUNNING. (R244) -/
def execFmStart (p : Packet) (s : State) : Host.Outcome State Fault Refusal :=
  .next (s.onDevX fun d => d.submit .fmStart p)

/-- FM_STOP: FM_STOP stops a running context at the next boundary with the channel still armed. (R245) -/
def execFmStop (p : Packet) (s : State) : Host.Outcome State Fault Refusal :=
  .next (s.onDevX fun d => d.submit .fmStop p)

/-- FM_JUMP: FM_JUMP latches an asynchronous jump request to a target. (R238) -/
def execFmJump (p : Packet) (s : State) : Host.Outcome State Fault Refusal :=
  .next (s.onDevX fun d => d.submit .fmJump p)

/-- FM_STREAM_BIND: FM_STREAM_BIND binds or unbinds a streamed segment to a channel and stream ring. (R211) -/
def execFmStreamBind (p : Packet) (s : State) : Host.Outcome State Fault Refusal :=
  .next (s.onDevX fun d => d.submit .fmStreamBind p)

/-- FM_STATUS: FM_STATUS returns a context's status word, program counter and loop counters. (R397) -/
def execFmStatus (p : Packet) (s : State) : Host.Outcome State Fault Refusal :=
  .next (s.onDevX fun d => d.submit .fmStatus p)

/-- FM_STATUS_SEGMENT: FM_STATUS with SEGMENT returns a segment record and its counts. (R397) -/
def execFmStatusSegment (p : Packet) (s : State) : Host.Outcome State Fault Refusal :=
  .next (s.onDevX fun d => d.submit .fmStatus p)

/-- FM_RELEASE: FM_RELEASE unlocks a forme and returns the context to LOADED. (R221) -/
def execFmRelease (p : Packet) (s : State) : Host.Outcome State Fault Refusal :=
  .next (s.onDevX fun d => d.submit .fmRelease p)

/-- Q_CREATE: Q_CREATE creates a ring and binds it to a doorbell. (R399) -/
def execQCreate (p : Packet) (s : State) : Host.Outcome State Fault Refusal :=
  .next (s.onDevX fun d => d.submit .qCreate p)

/-- Q_DESTROY: Q_DESTROY destroys an unbound ring. (R398) -/
def execQDestroy (p : Packet) (s : State) : Host.Outcome State Fault Refusal :=
  .next (s.onDevX fun d => d.submit .qDestroy p)

/-- Q_RESET: Q_RESET empties a ring, zeroes its pointers and clears its flags. (R435) -/
def execQReset (p : Packet) (s : State) : Host.Outcome State Fault Refusal :=
  .next (s.onDevX fun d => d.submit .qReset p)

/-- Q_STATUS: Q_STATUS returns a queue descriptor and counts. (R398) -/
def execQStatus (p : Packet) (s : State) : Host.Outcome State Fault Refusal :=
  .next (s.onDevX fun d => d.submit .qStatus p)

/-- Q_STATUS_CLEAR: Q_STATUS with CLEAR reports and then clears the ring's latched flags and counts. (R398) -/
def execQStatusClear (p : Packet) (s : State) : Host.Outcome State Fault Refusal :=
  .next (s.onDevX fun d => d.submit .qStatus p)

/-- Q_NOTIFY: Q_NOTIFY sets notice, watermark and interrupt options of a ring. (R430) -/
def execQNotify (p : Packet) (s : State) : Host.Outcome State Fault Refusal :=
  .next (s.onDevX fun d => d.submit .qNotify p)

/-- Q_BIND: Q_BIND binds result and capture rings to a channel and restarts its folio. (R398) -/
def execQBind (p : Packet) (s : State) : Host.Outcome State Fault Refusal :=
  .next (s.onDevX fun d => d.submit .qBind p)

/-- IM_ZONE: IM_ZONE writes a zone record at a boundary. (R286) -/
def execImZone (p : Packet) (s : State) : Host.Outcome State Fault Refusal :=
  .next (s.onDevX fun d => d.submit .imZone p)

/-- IM_RAIL: IM_RAIL writes a rail record at a boundary. (R296) -/
def execImRail (p : Packet) (s : State) : Host.Outcome State Fault Refusal :=
  .next (s.onDevX fun d => d.submit .imRail p)

/-- IM_MODEL: IM_MODEL binds a channel to a zone and rail with a load model. (R299) -/
def execImModel (p : Packet) (s : State) : Host.Outcome State Fault Refusal :=
  .next (s.onDevX fun d => d.submit .imModel p)

/-- IM_SENSOR: IM_SENSOR attaches or detaches a sensor to a zone. (R401) -/
def execImSensor (p : Packet) (s : State) : Host.Outcome State Fault Refusal :=
  .next (s.onDevX fun d => d.submit .imSensor p)

/-- IM_STATUS: IM_STATUS returns a zone, rail or die status and values. (R402) -/
def execImStatus (p : Packet) (s : State) : Host.Outcome State Fault Refusal :=
  .next (s.onDevX fun d => d.submit .imStatus p)

/-- IM_POLICY: IM_POLICY sets maximum deferral, die and pairing policy, or a share record. (R400) -/
def execImPolicy (p : Packet) (s : State) : Host.Outcome State Fault Refusal :=
  .next (s.onDevX fun d => d.submit .imPolicy p)

/-- CAL_MODE: CAL_MODE sets a channel's calibration mode, K, step limit, group and source fitting. (R147) -/
def execCalMode (p : Packet) (s : State) : Host.Outcome State Fault Refusal :=
  .next (s.onDevX fun d => d.submit .calMode p)

/-- CAL_STATUS: CAL_STATUS returns a channel's calibration state and counts. (R404) -/
def execCalStatus (p : Packet) (s : State) : Host.Outcome State Fault Refusal :=
  .next (s.onDevX fun d => d.submit .calStatus p)

/-- CAL_COMMIT: CAL_COMMIT without flags makes the step test and commits or withholds. (R140) -/
def execCalCommit (p : Packet) (s : State) : Host.Outcome State Fault Refusal :=
  .next (s.onDevX fun d => d.submit .calCommit p)

/-- CAL_COMMIT_FORCE: CAL_COMMIT with FORCE applies the staged bank without a step test. (R139) -/
def execCalCommitForce (p : Packet) (s : State) : Host.Outcome State Fault Refusal :=
  .next (s.onDevX fun d => d.submit .calCommit p)

/-- CAL_COMMIT_DISCARD: CAL_COMMIT with DISCARD copies the active bank into the staged bank. (R139) -/
def execCalCommitDiscard (p : Packet) (s : State) : Host.Outcome State Fault Refusal :=
  .next (s.onDevX fun d => d.submit .calCommit p)

/-- CAL_READ: CAL_READ returns a channel's bank or the device trims. (R403) -/
def execCalRead (p : Packet) (s : State) : Host.Outcome State Fault Refusal :=
  .next (s.onDevX fun d => d.submit .calRead p)

/-- CAL_WRITE: CAL_WRITE writes one coefficient set into the staged bank. (R147) -/
def execCalWrite (p : Packet) (s : State) : Host.Outcome State Fault Refusal :=
  .next (s.onDevX fun d => d.submit .calWrite p)

/-- CAL_PERSIST: CAL_PERSIST snapshots the active bank and writes it to the front-end's memory. (R144) -/
def execCalPersist (p : Packet) (s : State) : Host.Outcome State Fault Refusal :=
  .next (s.onDevX fun d => d.submit .calPersist p)

/-- TS_WRITE: TS_WRITE stages timing-set entries and sends TABLE_WRITE to affected links. (R255) -/
def execTsWrite (p : Packet) (s : State) : Host.Outcome State Fault Refusal :=
  .next (s.onDevX fun d => d.submit .tsWrite p)

/-- TS_SELECT: TS_SELECT changes a channel's or the device's selected timing set. (R252) -/
def execTsSelect (p : Packet) (s : State) : Host.Outcome State Fault Refusal :=
  .next (s.onDevX fun d => d.submit .tsSelect p)

/-- MK_ROUTE: MK_ROUTE writes an MK pin's routing entry. (R258) -/
def execMkRoute (p : Packet) (s : State) : Host.Outcome State Fault Refusal :=
  .next (s.onDevX fun d => d.submit .mkRoute p)

/-- TRIG_CONFIG: TRIG_CONFIG sets a trigger input's settings. (R407) -/
def execTrigConfig (p : Packet) (s : State) : Host.Outcome State Fault Refusal :=
  .next (s.onDevX fun d => d.submit .trigConfig p)

/-- TRIG_CONFIG_CLEAR: TRIG_CONFIG with CLEAR clears STUCK and sets UNMASK_PEND. (R264) -/
def execTrigConfigClear (p : Packet) (s : State) : Host.Outcome State Fault Refusal :=
  .next (s.onDevX fun d => d.submit .trigConfig p)

/-- TRIG_CONFIG_QUERY: TRIG_CONFIG with QUERY returns the pin status word and counts. (R265) -/
def execTrigConfigQuery (p : Packet) (s : State) : Host.Outcome State Fault Refusal :=
  .next (s.onDevX fun d => d.submit .trigConfig p)

/-- REG_JOIN_MEMBER: REG_JOIN MEMBER starts joining the system as a member. (R328) -/
def execRegJoinMember (p : Packet) (s : State) : Host.Outcome State Fault Refusal :=
  .next (s.onDevX fun d => d.submit .regJoin p)

/-- REG_JOIN_TIMEKEEPER: REG_JOIN TIMEKEEPER starts the system epoch as timekeeper. (R328) -/
def execRegJoinTimekeeper (p : Packet) (s : State) : Host.Outcome State Fault Refusal :=
  .next (s.onDevX fun d => d.submit .regJoin p)

/-- REG_JOIN_LEAVE: REG_JOIN LEAVE makes the device UNJOINED with local time. (R328) -/
def execRegJoinLeave (p : Packet) (s : State) : Host.Outcome State Fault Refusal :=
  .next (s.onDevX fun d => d.submit .regJoin p)

/-- REG_STATUS: REG_STATUS returns the registration status and counts. (R408) -/
def execRegStatus (p : Packet) (s : State) : Host.Outcome State Fault Refusal :=
  .next (s.onDevX fun d => d.submit .regStatus p)

/-- REG_SKEW: REG_SKEW loads λ and the port asymmetry trims. (R406) -/
def execRegSkew (p : Packet) (s : State) : Host.Outcome State Fault Refusal :=
  .next (s.onDevX fun d => d.submit .regSkew p)

/-- REG_ARM_AT: REG_ARM_AT loads, broadcasts or cancels an arm slot. (R339) -/
def execRegArmAt (p : Packet) (s : State) : Host.Outcome State Fault Refusal :=
  .next (s.onDevX fun d => d.submit .regArmAt p)

/-- MON_CONFIG: MON_CONFIG configures a comparator's mode, thresholds, blanking and protection set. (R410) -/
def execMonConfig (p : Packet) (s : State) : Host.Outcome State Fault Refusal :=
  .next (s.onDevX fun d => d.submit .monConfig p)

/-- MON_STATUS: MON_STATUS returns a comparator's status word and trip timestamps. (R409) -/
def execMonStatus (p : Packet) (s : State) : Host.Outcome State Fault Refusal :=
  .next (s.onDevX fun d => d.submit .monStatus p)

/-- MON_STATUS_CLEAR: MON_STATUS with CLEAR reports and then clears flags, timestamps and the latch. (R409) -/
def execMonStatusClear (p : Packet) (s : State) : Host.Outcome State Fault Refusal :=
  .next (s.onDevX fun d => d.submit .monStatus p)

/-- AXD_WRITE: AXD_WRITE stages a code, group or binding for auxiliary DACs. (R411) -/
def execAxdWrite (p : Packet) (s : State) : Host.Outcome State Fault Refusal :=
  .next (s.onDevX fun d => d.submit .axdWrite p)

/-- AXD_STROBE: AXD_STROBE applies staged AXD codes in frame k + 2. (R268) -/
def execAxdStrobe (p : Packet) (s : State) : Host.Outcome State Fault Refusal :=
  .next (s.onDevX fun d => d.submit .axdStrobe p)

/-- FLT_STATUS: FLT_STATUS returns PF_WORD, INJ_ONLY, SHADOW and journal counts. (R412) -/
def execFltStatus (p : Packet) (s : State) : Host.Outcome State Fault Refusal :=
  .next (s.onDevX fun d => d.submit .fltStatus p)

/-- FLT_CLEAR: FLT_CLEAR clears named PF_WORD bits whose causes have ended. (R414) -/
def execFltClear (p : Packet) (s : State) : Host.Outcome State Fault Refusal :=
  .next (s.onDevX fun d => d.submit .fltClear p)

/-- FLT_REACTION: FLT_REACTION sets the reaction of a PF_WORD bit. (R479) -/
def execFltReaction (p : Packet) (s : State) : Host.Outcome State Fault Refusal :=
  .next (s.onDevX fun d => d.submit .fltReaction p)

/-- FLT_LOG: FLT_LOG returns fault journal records. (R412) -/
def execFltLog (p : Packet) (s : State) : Host.Outcome State Fault Refusal :=
  .next (s.onDevX fun d => d.submit .fltLog p)

/-- MEM_STATUS: MEM_STATUS returns memory readiness, rate and device records. (R416) -/
def execMemStatus (p : Packet) (s : State) : Host.Outcome State Fault Refusal :=
  .next (s.onDevX fun d => d.submit .memStatus p)

/-- MEM_DELAYS: MEM_DELAYS returns a memory device's delay block. (R458) -/
def execMemDelays (p : Packet) (s : State) : Host.Outcome State Fault Refusal :=
  .next (s.onDevX fun d => d.submit .memDelays p)

/-- MEM_DELAYS_WRITE: MEM_DELAYS with WRITE writes a delay block to a device not in service. (R460) -/
def execMemDelaysWrite (p : Packet) (s : State) : Host.Outcome State Fault Refusal :=
  .next (s.onDevX fun d => d.submit .memDelays p)

/-- MEM_SCAN: MEM_SCAN starts delay scans of the named memory devices. (R459) -/
def execMemScan (p : Packet) (s : State) : Host.Outcome State Fault Refusal :=
  .next (s.onDevX fun d => d.submit .memScan p)

/-- MEM_FREQ: MEM_FREQ requests a change of memory data rate, waiting for any scan. (R417) -/
def execMemFreq (p : Packet) (s : State) : Host.Outcome State Fault Refusal :=
  .next (s.onDevX fun d => d.submit .memFreq p)

/-- MEM_RETIRE_DEVICE: MEM_RETIRE RETIRE takes a memory device out of service. (R465) -/
def execMemRetireDevice (p : Packet) (s : State) : Host.Outcome State Fault Refusal :=
  .next (s.onDevX fun d => d.submit .memRetire p)

/-- MEM_RESTORE: MEM_RETIRE RESTORE scans a retired device and starts its rebuild. (R466) -/
def execMemRestore (p : Packet) (s : State) : Host.Outcome State Fault Refusal :=
  .next (s.onDevX fun d => d.submit .memRetire p)

/-- MEM_RETIRE_ROW: MEM_RETIRE RETIRE_ROW starts retiring a row to a spare row. (R464) -/
def execMemRetireRow (p : Packet) (s : State) : Host.Outcome State Fault Refusal :=
  .next (s.onDevX fun d => d.submit .memRetire p)

/-- MEM_READ: MEM_READ returns data from the data space. (R415) -/
def execMemRead (p : Packet) (s : State) : Host.Outcome State Fault Refusal :=
  .next (s.onDevX fun d => d.submit .memRead p)

/-- MEM_WRITE: MEM_WRITE writes data into free data space. (R415) -/
def execMemWrite (p : Packet) (s : State) : Host.Outcome State Fault Refusal :=
  .next (s.onDevX fun d => d.submit .memWrite p)

/-- LC_STATUS: LC_STATUS returns lifecycle state and firmware bank versions. (R419) -/
def execLcStatus (p : Packet) (s : State) : Host.Outcome State Fault Refusal :=
  .next (s.onDevX fun d => d.submit .lcStatus p)

/-- LC_ADVANCE: LC_ADVANCE enters WIPE, programs the new lifecycle state and wipes. (R517) -/
def execLcAdvance (p : Packet) (s : State) : Host.Outcome State Fault Refusal :=
  .next (s.onDevX fun d => d.submit .lcAdvance p)

/-- UPD_STAGE: UPD_STAGE writes a chunk of an image into the bank not running. (R518) -/
def execUpdStage (p : Packet) (s : State) : Host.Outcome State Fault Refusal :=
  .next (s.onDevX fun d => d.submit .updStage p)

/-- UPD_SWITCH: UPD_SWITCH hands over to the staged pair at a boundary and enters UPDATE. (R519) -/
def execUpdSwitch (p : Packet) (s : State) : Host.Outcome State Fault Refusal :=
  .next (s.onDevX fun d => d.submit .updSwitch p)

/-- RET_RECORD: RET_RECORD starts writing the return record into a CAPTURE ring. (R526) -/
def execRetRecord (p : Packet) (s : State) : Host.Outcome State Fault Refusal :=
  .next (s.onDevX fun d => d.submit .retRecord p)

/-- PRF_ENTER: PRF_ENTER designates units and enters PROOF. (R492) -/
def execPrfEnter (p : Packet) (s : State) : Host.Outcome State Fault Refusal :=
  .next (s.onDevX fun d => d.submit .prfEnter p)

/-- PRF_INJECT: PRF_INJECT sets a check-bit injection mask on a designated unit. (R493) -/
def execPrfInject (p : Packet) (s : State) : Host.Outcome State Fault Refusal :=
  .next (s.onDevX fun d => d.submit .prfInject p)

/-- PRF_PERTURB: PRF_PERTURB sets a perturbation on a designated unit. (R497) -/
def execPrfPerturb (p : Packet) (s : State) : Host.Outcome State Fault Refusal :=
  .next (s.onDevX fun d => d.submit .prfPerturb p)

/-- PRF_EXIT: PRF_EXIT ends PROOF and removes injection and perturbation. (R498) -/
def execPrfExit (p : Packet) (s : State) : Host.Outcome State Fault Refusal :=
  .next (s.onDevX fun d => d.submit .prfExit p)

/-- EL_STATUS: EL_STATUS returns a link's status word and skew values. (R178) -/
def execElStatus (p : Packet) (s : State) : Host.Outcome State Fault Refusal :=
  .next (s.onDevX fun d => d.submit .elStatus p)

/-- EL_STATUS_CLEAR: EL_STATUS with CLEAR reports and then clears the link's sticky bits and misses. (R178) -/
def execElStatusClear (p : Packet) (s : State) : Host.Outcome State Fault Refusal :=
  .next (s.onDevX fun d => d.submit .elStatus p)

/-- EL_DESCRIPTOR: EL_DESCRIPTOR returns one descriptor page. (R422) -/
def execElDescriptor (p : Packet) (s : State) : Host.Outcome State Fault Refusal :=
  .next (s.onDevX fun d => d.submit .elDescriptor p)

/-- EL_PAIR: EL_PAIR joins two links into a dual-homed channel. (R184) -/
def execElPair (p : Packet) (s : State) : Host.Outcome State Fault Refusal :=
  .next (s.onDevX fun d => d.submit .elPair p)

/-- EL_PAIR_SPLIT: EL_PAIR with SPLIT undoes a pairing on a parked channel. (R184) -/
def execElPairSplit (p : Packet) (s : State) : Host.Outcome State Fault Refusal :=
  .next (s.onDevX fun d => d.submit .elPair p)

/-- EL_PAIR_SWAP: EL_PAIR with SWAP moves the active role to the other link. (R187) -/
def execElPairSwap (p : Packet) (s : State) : Host.Outcome State Fault Refusal :=
  .next (s.onDevX fun d => d.submit .elPair p)

/-- EL_SKEW: EL_SKEW sets a link's skew trim added to t_f. (R422) -/
def execElSkew (p : Packet) (s : State) : Host.Outcome State Fault Refusal :=
  .next (s.onDevX fun d => d.submit .elSkew p)

/-- EL_RESET_DISABLE: EL_RESET with DISABLE parks the channel and disables the link. (R175) -/
def execElResetDisable (p : Packet) (s : State) : Host.Outcome State Fault Refusal :=
  .next (s.onDevX fun d => d.submit .elReset p)

/-- EL_RESET_ENABLE: EL_RESET with ENABLE returns the link to SEARCH. (R175) -/
def execElResetEnable (p : Packet) (s : State) : Host.Outcome State Fault Refusal :=
  .next (s.onDevX fun d => d.submit .elReset p)

end Sys2Proof.Machine
end

