-- ==== Sys2Proof/Machine/Events.lean ====
section
/-! DEFINITION. Meanings of the rows that are not packets of a command ring: pins and power, the phases of a frame, front-ends and
neighbours, the host's registers and SMBus, and events whose instant the environment fixes. -/

namespace Sys2Proof.Machine

/-- POWER_LOSS: VDD_AON goes absent and the device enters OFF with its pins as unpowered. (R35) -/
def execPowerLoss (t : Nat) (s : State) : Host.Outcome State Fault Refusal :=
  .next (s.onDev fun d => d.powerLoss t)

/-- PORST_N_ASSERT: PORST_N is held low for 10 µs and the device enters HELD; frame ticks and links stop. (R501) -/
def execPorstNAssert (t : Nat) (s : State) : Host.Outcome State Fault Refusal :=
  .next (s.onDev fun d => d.porstAssert t)

/-- WARM_RST_N_ASSERT: WARM_RST_N is held low for 10 µs and the device enters HELD, keeping the always-on domain. (R501) -/
def execWarmRstNAssert (t : Nat) (s : State) : Host.Outcome State Fault Refusal :=
  .next (s.onDev fun d => d.warmAssert t)

/-- PG_FALL: A power-good input PG0..PG3 falls and the device enters HELD within 1 µs. (R501) -/
def execPgFall (pg : Fin 4) (t : Nat) (s : State) : Host.Outcome State Fault Refusal :=
  .next (s.onDev fun d => d.pgFall pg.val t)

/-- HELD_RELEASE: Resets and power-good inputs return high; the release is judged cold or warm and BRING-UP starts. (R502) -/
def execHeldRelease (bootSel : BitVec 2) (s : State) : Host.Outcome State Fault Refusal :=
  .next (s.onDev fun d => d.heldRelease bootSel.toNat)

/-- BLOCK_READY: A block or unit becomes able to serve and its ready bit sets at the next frame boundary. (R508) -/
def execBlockReady (u : ReadyUnit) (ok : Bool) (s : State) : Host.Outcome State Fault Refusal :=
  .next (s.onDevX fun d => (d.blockReady u ok).keptVerified u ok)

/-- REGION_WIPE_COMPLETE: The wipe of one main-memory region ends and its ready bit sets. (R468) -/
def execRegionWipeComplete (r : Fin 64) (s : State) : Host.Outcome State Fault Refusal :=
  .next (s.onDevX fun d => d.regionWiped r.val)

/-- DELAY_SCAN_COMPLETE: A delay scan of a memory device ends; the device enters service with a valid delay block, or it is retired. (R459) -/
def execDelayScanComplete (dev : Fin 5) (found : Option (List Byte)) (s : State) : Host.Outcome State Fault Refusal :=
  .next (s.onDevX fun d => d.scanComplete dev.val found)

/-- REFCLK_LOSS: REFCLK_IN shows no rising edge for 50 ns; bit 60 rises and the PLLs hold their frequency. (R556) -/
def execRefclkLoss (t : Nat) (s : State) : Host.Outcome State Fault Refusal :=
  .next (s.onDev fun d => d.refclkLoss t)

/-- REFCLK_RETURN: REFCLK_IN returns and the PLLs relock within 100 µs without a step of the frame tick. (R556) -/
def execRefclkReturn (t : Nat) (s : State) : Host.Outcome State Fault Refusal :=
  .next (s.onDev fun d => d.refclkReturn t)

/-- PCIE_PERST_N_FALL: PCIE_PERST_N falls; the endpoint enters fundamental reset and every function takes FLR actions. (R537) -/
def execPciePerstNFall (t : Nat) (s : State) : Host.Outcome State Fault Refusal :=
  .next (s.onDev fun d => d.perstFall t)

/-- PCIE_PERST_N_RISE: PCIE_PERST_N rises and the endpoint becomes ready for configuration within 100 ms. (R537) -/
def execPciePerstNRise (t : Nat) (s : State) : Host.Outcome State Fault Refusal :=
  .next (s.onDev fun d => d.perstRise t)

/-- FLR: A function-level reset parks the function's armed channels, discards its fast slots and resets its admin rings at the next boundary. (R352) -/
def execFlr (fn : Fin 64) (s : State) : Host.Outcome State Fault Refusal :=
  .next (s.onDev fun d => d.flrRequest fn.val)

/-- VF_REMOVAL: NumVFs is lowered; each removed VF is reset, its rings are destroyed and its resources return to the PF. (R352) -/
def execVfRemoval (numVFs : Fin 64) (s : State) : Host.Outcome State Fault Refusal :=
  .next (s.onDev fun d => d.vfRemoval numVFs.val)

/-- DIE_SHUTDOWN: An on-die 125 °C comparator trips; bit 59 rises with SAFE, and every channel parks with engines gated. (R312) -/
def execDieShutdown (sensor : Fin 48) (t : Nat) (s : State) : Host.Outcome State Fault Refusal :=
  .next (s.onDev fun d => d.dieShutdown sensor.val t)

/-- JTAG_DEBUG_ATTEMPT: A debug instruction outside FIELD-OPEN is ignored, raises bit 63 and is journalled. (R515) -/
def execJtagDebugAttempt (t : Nat) (s : State) : Host.Outcome State Fault Refusal :=
  .next (s.onDev fun d => d.jtagAttempt t)

/-- FRAME_TICK: The frame tick begins frame n and the downstream link phase sends each front-end its sync block and code. (R42) -/
def execFrameTick (s : State) : Host.Outcome State Fault Refusal :=
  .next (s.onDevX fun d => d.frameTick)

/-- UPSTREAM_BLOCK: A front-end's U0/U1 and DZ words arrive and are held for the engines, and the round trip is measured. (R162) -/
def execUpstreamBlock (link : Fin 512) (u0 u1 : Word64) (dz : List Word64) (crcOk : Bool) (t16 : Nat) (s : State) : Host.Outcome State Fault Refusal :=
  .next (s.onDevX fun d => d.upstreamBlock link.val u0 u1 dz crcOk t16)

/-- COMPUTE_PHASE: From L each engine calibrates, runs the control law, checks compliance, runs ranging, takes setpoints and writes codes for its channels. (R43) -/
def execComputePhase (slot : Fin 64) (s : State) : Host.Outcome State Fault Refusal :=
  .next (s.onDevX fun d => d.computePhase slot.val)

/-- APERTURE_END: An aperture's last frame is processed and the engine makes one slug of the means. (R79) -/
def execApertureEnd (ch : Fin 512) (s : State) : Host.Outcome State Fault Refusal :=
  .next (s.onDevX fun d => d.apertureEnd ch.val)

/-- COLLECTION_PHASE: When an engine ends its compute phase the slug collector drains its result bank into rings. (R54) -/
def execCollectionPhase (slot : Fin 64) (s : State) : Host.Outcome State Fault Refusal :=
  .next (s.onDevX fun d => d.collect slot.val)

/-- BUDGET_PHASE: At T − 10 ns the Impositor folds in frame data and evaluates pending admission requests in order. (R307) -/
def execBudgetPhase (s : State) : Host.Outcome State Fault Refusal :=
  .next (s.onDevX fun d => d.budgetPhase)

/-- ENGINE_DEADLINE_MISS: An engine has not ended its compute phase by T − 10 ns; codes are resent and its slugs are INVALID. (R51) -/
def execEngineDeadlineMiss (slot : Fin 64) (done : Fin 8) (s : State) : Host.Outcome State Fault Refusal :=
  .next (s.onDevX fun d => d.engineMiss slot.val done.val)

/-- UPSTREAM_DEADLINE_MISS: A channel's upstream data are not held by L; the control law is skipped and LINKMISS is set. (R51) -/
def execUpstreamDeadlineMiss (link : Fin 512) (s : State) : Host.Outcome State Fault Refusal :=
  .next (s.onDevX fun d => d.upstreamMiss link.val)

/-- COLLECTOR_DRAIN_MISS: A result bank is not drained by 0.3 × T after the next tick; undrained entries are dropped as lost. (R51) -/
def execCollectorDrainMiss (slot : Fin 64) (s : State) : Host.Outcome State Fault Refusal :=
  .next (s.onDevX fun d => d.drainMiss slot.val)

/-- BUDGET_PHASE_MISS: The budget phase has not ended by tick n + 2, so no segment is admitted for its boundaries. (R51) -/
def execBudgetPhaseMiss (s : State) : Host.Outcome State Fault Refusal :=
  .next (s.onDevX fun d => d.budgetMiss)

/-- NOT_BEFORE_BOUNDARY: A firmware command waiting for its NOT_BEFORE boundary reaches it and is checked and carried out there. (R559) -/
def execNotBeforeBoundary (s : State) : Host.Outcome State Fault Refusal :=
  .next (s.onDevX fun d => d.notBefore)

/-- ARMING_COMPLETE: Frame a + S − 1 begins, the channel becomes ARMED and the control law decides its first code. (R88) -/
def execArmingComplete (ch : Fin 512) (s : State) : Host.Outcome State Fault Refusal :=
  .next (s.onDev fun d => d.armingComplete ch.val)

/-- SOFT_PARK_RAMP_COMPLETE: A soft-park ramp ends and the channel takes a hard park with cause 0x1. (R91) -/
def execSoftParkRampComplete (ch : Fin 512) (s : State) : Host.Outcome State Fault Refusal :=
  .next (s.onDev fun d => d.rampComplete ch.val)

/-- OV_MAKE_END: The compute phase of frame b + Mk ends and the overlap change enters the compare of its two paths. (R117) -/
def execOvMakeEnd (ch : Fin 512) (s : State) : Host.Outcome State Fault Refusal :=
  .next (s.onDevX fun d => d.ovMakeEnd ch.val)

/-- OV_FADE_END: The fade index reaches M, path k is released and range k′ becomes present from frame e. (R107) -/
def execOvFadeEnd (ch : Fin 512) (s : State) : Host.Outcome State Fault Refusal :=
  .next (s.onDevX fun d => d.ovFadeEnd ch.val)

/-- HS_HOLD_END: Frame b + W + 1 begins and a hold-and-switch change completes with the loop resumed. (R111) -/
def execHsHoldEnd (ch : Fin 512) (s : State) : Host.Outcome State Fault Refusal :=
  .next (s.onDevX fun d => d.hsHoldEnd ch.val)

/-- SEQ_WALK: At a span's commit point the sequence unit walks the program to decide the next span. (R227) -/
def execSeqWalk (ch : Fin 512) (s : State) : Host.Outcome State Fault Refusal :=
  .next (s.onDevX fun d => d.seqWalk ch.val)

/-- CONTINUATION_WALK: After a WAIT, SYNC BARRIER or timeout a continuation walk decides the next span. (R236) -/
def execContinuationWalk (ch : Fin 512) (s : State) : Host.Outcome State Fault Refusal :=
  .next (s.onDevX fun d => d.continuationWalk ch.val)

/-- WAIT_TIMEOUT: A WAIT's timeout passes without its event and the walk continues at TADDR. (R234) -/
def execWaitTimeout (ch : Fin 512) (s : State) : Host.Outcome State Fault Refusal :=
  .next (s.onDevX fun d => d.waitTimeout ch.val)

/-- DEFERRAL_TIMEOUT: A request's maximum deferral runs out; it is withdrawn, DEFTO is set and the walk continues. (R237) -/
def execDeferralTimeout (ch : Fin 512) (s : State) : Host.Outcome State Fault Refusal :=
  .next (s.onDevX fun d => d.deferralTimeout ch.val)

/-- GALLEY_LINE_ARRIVAL: A galley line read arrives; its tag and CRC-8 are checked and it is retried or counted bad. (R210) -/
def execGalleyLineArrival (ch : Fin 512) (ok : Bool) (s : State) : Host.Outcome State Fault Refusal :=
  .next (s.onDevX fun d => d.galleyLine ch.val ok)

/-- CAL_FIT_COMPLETE: The fit of one range completes and is written into the staged set or discarded. (R130) -/
def execCalFitComplete (ch : Fin 512) (s : State) : Host.Outcome State Fault Refusal :=
  .next (s.onDevX fun d => d.calFitComplete ch.val)

/-- CAL_PERSIST_TIMER: 24 hours after the last persist the active bank is persisted to the front-end. (R144) -/
def execCalPersistTimer (ch : Fin 512) (s : State) : Host.Outcome State Fault Refusal :=
  .next (s.onDevX fun d => d.persistTimer ch.val)

/-- SENSOR_REVALIDATED: A broken sensor that has read validly for 10 s becomes valid again. (R292) -/
def execSensorRevalidated (zone : Fin 64) (pos : Fin 8) (s : State) : Host.Outcome State Fault Refusal :=
  .next (s.onDev fun d => d.sensorRevalidated zone.val pos.val)

/-- SYNC_BLOCKS_FOUND: A link in SEARCH receives 16 consecutive valid upstream blocks and enters DESCRIBE. (R175) -/
def execSyncBlocksFound (link : Fin 512) (s : State) : Host.Outcome State Fault Refusal :=
  .next (s.onDevX fun d => d.syncFound link.val)

/-- LINK_LOSS: Upstream is missed in 8 consecutive frames or 64 of 1,024; the channel parks and the link returns to SEARCH. (R176) -/
def execLinkLoss (link : Fin 512) (s : State) : Host.Outcome State Fault Refusal :=
  .next (s.onDevX fun d => d.linkLossEvent link.val)

/-- PAGE_DATA: A descriptor page arrives from the front-end; the descriptor is checked once all pages are read. (R167) -/
def execPageData (link : Fin 512) (page : Fin 6) (data : List Byte) (s : State) : Host.Outcome State Fault Refusal :=
  .next (s.onDevX fun d => d.pageData link.val page.val data)

/-- ACK: A front-end ACK of a management request arrives and the request is done. (R167) -/
def execAck (link : Fin 512) (code : Byte) (s : State) : Host.Outcome State Fault Refusal :=
  .next (s.onDevX fun d => d.ackEvent link.val code.toNat)

/-- NVM_DATA: Coefficient-memory bytes requested by NVM_READ arrive from the front-end. (R167) -/
def execNvmData (link : Fin 512) (slot : Fin 2) (offset : Nat) (data : List Byte) (s : State) : Host.Outcome State Fault Refusal :=
  .next (s.onDevX fun d => d.nvmData link.val slot.val offset data)

/-- MGMT_REPLY_TIMEOUT: A management request has no valid reply within 256 frames and is repeated or fails. (R168) -/
def execMgmtReplyTimeout (link : Fin 512) (s : State) : Host.Outcome State Fault Refusal :=
  .next (s.onDevX fun d => d.mgmtTimeout link.val)

/-- TRIGGER_EDGE: An edge on an INPUT MK pin is captured, stamped and may raise its event. (R261) -/
def execTriggerEdge (pin : Fin 64) (rising : Bool) (t : Nat) (s : State) : Host.Outcome State Fault Refusal :=
  .next (s.onDev fun d => d.triggerEdge pin.val rising t)

/-- TRIGGER_RESAMPLE: At t + 64 after a captured edge the pin is sampled and a synthetic edge may be captured. (R261) -/
def execTriggerResample (pin : Fin 64) (t : Nat) (s : State) : Host.Outcome State Fault Refusal :=
  .next (s.onDev fun d => d.triggerResample pin.val t)

/-- TRIGGER_STUCK: An input active beyond its stuck time is masked, sets STUCK and writes a trigger notice. (R264) -/
def execTriggerStuck (pin : Fin 64) (s : State) : Host.Outcome State Fault Refusal :=
  .next (s.onDev fun d => d.triggerStuck pin.val)

/-- MONITOR_TRIP: A comparator enters its tripped state and raises its event, notice, wake and protection route. (R276) -/
def execMonitorTrip (mon : Fin 64) (t : Nat) (s : State) : Host.Outcome State Fault Refusal :=
  .next (s.onDev fun d => d.monitorTrip mon.val t)

/-- MONITOR_RELEASE: A comparator input passes the release level and the comparator leaves its tripped state. (R272) -/
def execMonitorRelease (mon : Fin 64) (t : Nat) (s : State) : Host.Outcome State Fault Refusal :=
  .next (s.onDev fun d => d.monitorRelease mon.val t)

/-- BLANKING_WINDOW_END: A selected blanking window ends and the comparator input is judged afresh. (R273) -/
def execBlankingWindowEnd (mon : Fin 64) (tripped : Bool) (t : Nat) (s : State) : Host.Outcome State Fault Refusal :=
  .next (s.onDev fun d => d.blankingEnd mon.val tripped t)

/-- MONITOR_PERIOD_CLEAR: At a boundary with k mod P = 0 the latch takes the live state. (R274) -/
def execMonitorPeriodClear (mon : Fin 64) (s : State) : Host.Outcome State Fault Refusal :=
  .next (s.onDev fun d => d.monitorPeriod mon.val)

/-- ZONE_EVALUATION: Every 1 ms each enabled zone is judged on θ, ρ and F and changes state. (R293) -/
def execZoneEvaluation (zone : Fin 64) (s : State) : Host.Outcome State Fault Refusal :=
  .next (s.onDevX fun d => d.zoneEvaluation zone.val)

/-- RAIL_EVALUATION: Every 1 ms each rail is judged on its measured draw and changes state. (R298) -/
def execRailEvaluation (rail : Fin 32) (s : State) : Host.Outcome State Fault Refusal :=
  .next (s.onDevX fun d => d.railEvaluation rail.val)

/-- DIE_EVALUATION: The die budget is judged on the die rate of rise and on-die sensor health. (R310) -/
def execDieEvaluation (sensors : List Reading) (s : State) : Host.Outcome State Fault Refusal :=
  .next (s.onDevX fun d => d.dieEvaluation sensors)

/-- NEIGHBOR: A NEIGHBOR cell arrives and updates the port state, ID derivation and time parent choice. (R324) -/
def execNeighbor (port : Port) (c : Cell) (t : Nat) (s : State) : Host.Outcome State Fault Refusal :=
  .next (s.onDevX fun d => d.neighborCell port.val c t)

/-- NEIGHBOR_SEND: Every 10 µs the device sends a NEIGHBOR cell on each port. (R324) -/
def execNeighborSend (port : Port) (s : State) : Host.Outcome State Fault Refusal :=
  .next (s.onDev fun d => d.neighborSend port.val)

/-- NEIGHBOR_TIMEOUT: 50 µs pass without a NEIGHBOR cell on a port and the port goes DOWN. (R323) -/
def execNeighborTimeout (port : Port) (s : State) : Host.Outcome State Fault Refusal :=
  .next (s.onDevX fun d => d.neighborTimeout port.val)

/-- PING: A PING cell arrives and is answered with ECHO. (R331) -/
def execPing (port : Port) (c : Cell) (t : Nat) (s : State) : Host.Outcome State Fault Refusal :=
  .next (s.onDev fun d => d.pingCell port.val c t)

/-- PING_SEND: Every 1 µs the device sends a PING cell on each UP port. (R331) -/
def execPingSend (port : Port) (t : Nat) (s : State) : Host.Outcome State Fault Refusal :=
  .next (s.onDev fun d => d.pingSend port.val t)

/-- ECHO: An ECHO cell arrives and the offset and delay of the port are updated. (R331) -/
def execEcho (port : Port) (c : Cell) (t : Nat) (s : State) : Host.Outcome State Fault Refusal :=
  .next (s.onDev fun d => d.echoCell port.val c t)

/-- RESEND: A RESEND cell arrives and the named cell and all after it are sent again. (R323) -/
def execResend (port : Port) (c : Cell) (s : State) : Host.Outcome State Fault Refusal :=
  .next (s.onDev fun d => d.resendCell port.val c)

/-- EPOCH: An EPOCH cell arrives, resetting the holdover timer and aligning a joining member at its mark. (R328) -/
def execEpoch (port : Port) (c : Cell) (t : Nat) (s : State) : Host.Outcome State Fault Refusal :=
  .next (s.onDevX fun d => d.epochCell port.val c t)

/-- EPOCH_BROADCAST: The timekeeper broadcasts an EPOCH cell every 1 ms and after each mark. (R324) -/
def execEpochBroadcast (s : State) : Host.Outcome State Fault Refusal :=
  .next (s.onDevX fun d => d.epochBroadcast)

/-- EPOCH_TIMEOUT: No EPOCH cell arrives for 5 ms; the device holds over and deputies become candidates. (R335) -/
def execEpochTimeout (s : State) : Host.Outcome State Fault Refusal :=
  .next (s.onDevX fun d => d.epochTimeout)

/-- REG_PULSE_EDGE: A pulse edge is found at REG_IN and compared with the mark's system time. (R326) -/
def execRegPulseEdge (t : Nat) (low : Nat) (s : State) : Host.Outcome State Fault Refusal :=
  .next (s.onDevX fun d => d.pulseEdge t low)

/-- MARK_DRIVE: A generating device drives REG_OUT high at a mark instant. (R326) -/
def execMarkDrive (s : State) : Host.Outcome State Fault Refusal :=
  .next (s.onDev fun d => d.markDrive)

/-- MARK_WAIT_TIMEOUT: No usable mark arrives within 2 × 2^e periods and the member steps from its parent's time with MARK_MISS. (R328) -/
def execMarkWaitTimeout (s : State) : Host.Outcome State Fault Refusal :=
  .next (s.onDevX fun d => d.markWaitTimeout)

/-- TIME_SLEW: At most once per 1 ms a registered device moves its timebase one tick unit toward θ_f. (R332) -/
def execTimeSlew (s : State) : Host.Outcome State Fault Refusal :=
  .next (s.onDev fun d => d.timeSlew)

/-- EVENT_CELL: An EVENT cell arrives and its cross-device events become visible in the next frame. (R337) -/
def execEventCell (port : Port) (c : Cell) (t : Nat) (s : State) : Host.Outcome State Fault Refusal :=
  .next (s.onDev fun d => d.eventCell port.val c t)

/-- ARM_CELL: An ARM cell arrives and loads an arm slot, or is discarded as late. (R340) -/
def execArmCell (port : Port) (c : Cell) (t : Nat) (s : State) : Host.Outcome State Fault Refusal :=
  .next (s.onDev fun d => d.armCell port.val c t)

/-- LEDGER: A LEDGER cell arrives at the owner and supplies a contributor's terms for a share. (R342) -/
def execLedger (port : Port) (c : Cell) (t : Nat) (s : State) : Host.Outcome State Fault Refusal :=
  .next (s.onDevX fun d => d.ledgerCell port.val c t)

/-- LEDGER_WINDOW_END: A 16-frame window ends and a contributor sends one LEDGER cell per share. (R342) -/
def execLedgerWindowEnd (s : State) : Host.Outcome State Fault Refusal :=
  .next (s.onDevX fun d => d.ledgerWindowEnd)

/-- STATE_CELL: A STATE cell arrives and the contributor applies the share's state from the next frame. (R342) -/
def execStateCell (port : Port) (c : Cell) (t : Nat) (s : State) : Host.Outcome State Fault Refusal :=
  .next (s.onDevX fun d => d.stateCell port.val c t)

/-- SHARE_SILENCE_TIMEOUT: No LEDGER or STATE cell arrives for 64 frames plus 6 µs and the share is treated as broken or HOLD. (R343) -/
def execShareSilenceTimeout (index : Nat) (s : State) : Host.Outcome State Fault Refusal :=
  .next (s.onDevX fun d => d.shareSilence index)

/-- REQ: A REQ cell arrives at the owner and joins its admission order. (R344) -/
def execReq (port : Port) (c : Cell) (t : Nat) (s : State) : Host.Outcome State Fault Refusal :=
  .next (s.onDevX fun d => d.reqCell port.val c t)

/-- GRANT_CELL: A GRANT or WITHDRAW cell arrives and starts, cancels or re-pends the contributor's span. (R344) -/
def execGrantCell (port : Port) (c : Cell) (t : Nat) (s : State) : Host.Outcome State Fault Refusal :=
  .next (s.onDevX fun d => d.grantCell port.val c t)

/-- CANCEL_CELL: A CANCEL cell arrives and the owner withdraws the request. (R344) -/
def execCancelCell (port : Port) (c : Cell) (t : Nat) (s : State) : Host.Outcome State Fault Refusal :=
  .next (s.onDevX fun d => d.cancelCell port.val c t)

/-- MSG: An MSG cell arrives, carrying cross-device packet data or an ACK or REFUSE answer. (R439) -/
def execMsg (port : Port) (c : Cell) (t : Nat) (s : State) : Host.Outcome State Fault Refusal :=
  .next (s.onDevX fun d => d.msgCell port.val c t)

/-- MSG_ANSWER_TIMEOUT: A cross-device packet has no answer within 100 µs and is sent again or dropped. (R439) -/
def execMsgAnswerTimeout (qid : BitVec 20) (s : State) : Host.Outcome State Fault Refusal :=
  .next (s.onDevX fun d => d.msgTimeout qid.toNat)

/-- DOORBELL: A doorbell write is checked and moves a ring's HEAD or TAIL. (R359) -/
def execDoorbell (fn : Fin 64) (index : Nat) (value : Word64) (single : Bool) (bytes : List Byte) (t : Nat) (s : State) : Host.Outcome State Fault Refusal :=
  .next (s.onHost fun d => d.doorbellWrite fn.val index value.toNat single bytes t)

/-- FAST_SLOT_WRITE: A fast slot is written, stamped and taken for the hardware command state machine, or dropped. (R368) -/
def execFastSlotWrite (fn : Fin 64) (slot : Fin 64) (bytes : List Byte) (t : Nat) (s : State) : Host.Outcome State Fault Refusal :=
  .next (s.onDevX fun d => d.fastSlotWrite fn.val slot.val t bytes)

/-- ADMIN_ENABLE: ADMIN_CTRL.EN is written to 1 with valid sizes and addresses. (R356) -/
def execAdminEnable (fn : Fin 64) (value : BitVec 32) (s : State) : Host.Outcome State Fault Refusal :=
  .next (s.onHost fun d => d.adminEnable fn.val value.toNat)

/-- ADMIN_DISABLE: ADMIN_CTRL.EN is cleared, emptying the three admin rings and clearing READY. (R356) -/
def execAdminDisable (fn : Fin 64) (value : BitVec 32) (s : State) : Host.Outcome State Fault Refusal :=
  .next (s.onHost fun d => d.adminDisable fn.val value.toNat)

/-- ADMIN_RINGS_READY: The admin rings enter service and READY sets. (R356) -/
def execAdminRingsReady (fn : Fin 64) (s : State) : Host.Outcome State Fault Refusal :=
  .next (s.onDevX fun d => d.adminReady fn.val)

/-- INT_STATUS_CLEAR: Writing 1 to INT_STATUS bits clears the matching interrupt causes. (R355) -/
def execIntStatusClear (fn : Fin 64) (value : BitVec 32) (s : State) : Host.Outcome State Fault Refusal :=
  .next (s.onHost fun d => d.intClear fn.val value.toNat)

/-- FP_LATE_CLEAR: Writing 1 to FP_STATUS.LATE clears it. (R355) -/
def execFpLateClear (fn : Fin 64) (value : BitVec 32) (s : State) : Host.Outcome State Fault Refusal :=
  .next (s.onHost fun d => d.lateClear fn.val value.toNat)

/-- FAULTN_CTRL_WRITE: A PF write to FAULTN_CTRL sets or clears FORCE, driving FAULT_N. (R354) -/
def execFaultnCtrlWrite (fn : Fin 64) (value : BitVec 32) (s : State) : Host.Outcome State Fault Refusal :=
  .next (s.onHost fun d => d.faultnWrite fn.val value.toNat)

/-- REGISTER_WRITE: A write to a register without behaviour of its own stores its value or is ignored. (R353) -/
def execRegisterWrite (fn : Fin 64) (offset : Nat) (value : BitVec 32) (s : State) : Host.Outcome State Fault Refusal :=
  .next (s.onHost fun d => d.registerWrite fn.val offset value.toNat)

/-- SMB_IDENT: SMBus Block Read IDENT returns part, stepping, firmware version and lifecycle state. (R377) -/
def execSmbIdent (s : State) : Host.Outcome State Fault Refusal :=
  .next (s.onDev fun d => d.smb d.smbIdent)

/-- SMB_MODE: SMBus Block Read MODE returns MODE_STATUS. (R377) -/
def execSmbMode (s : State) : Host.Outcome State Fault Refusal :=
  .next (s.onDev fun d => d.smb d.smbMode)

/-- SMB_PF_WORD: SMBus Block Read PF_WORD returns PF_WORD. (R377) -/
def execSmbPfWord (s : State) : Host.Outcome State Fault Refusal :=
  .next (s.onDev fun d => d.smb (le64 d.flt.pf))

/-- SMB_DIE: SMBus Block Read DIE returns the die temperature and die budget state. (R377) -/
def execSmbDie (s : State) : Host.Outcome State Fault Refusal :=
  .next (s.onDev fun d => d.smb d.smbDie)

/-- SMB_DIODES: SMBus Block Read DIODES returns the four remote-diode temperatures. (R377) -/
def execSmbDiodes (s : State) : Host.Outcome State Fault Refusal :=
  .next (s.onDev fun d => d.smb d.smbDiodes)

/-- SMB_SENSORS: SMBus Block Read SENSORS returns the 48 on-die sensors. (R377) -/
def execSmbSensors (s : State) : Host.Outcome State Fault Refusal :=
  .next (s.onDev fun d => d.smb d.smbSensors)

/-- SMB_SERIAL: SMBus Block Read SERIAL returns the colophon serial number. (R377) -/
def execSmbSerial (s : State) : Host.Outcome State Fault Refusal :=
  .next (s.onDev fun d => d.smb serial)

/-- SMB_READ_FAULTN: SMBus Read Byte FAULTN returns FAULTN_CTRL bits 2:0. (R377) -/
def execSmbReadFaultn (s : State) : Host.Outcome State Fault Refusal :=
  .next (s.onDev fun d => d.smb [BitVec.ofNat 8 (d.faultnCtrl % 8)])

/-- SMB_WRITE_FAULTN: SMBus Write Byte FAULTN sets or clears FORCE. (R377) -/
def execSmbWriteFaultn (value : Byte) (pecOk : Bool) (s : State) : Host.Outcome State Fault Refusal :=
  .next (s.onDev fun d => d.smbFaultn value.toNat pecOk)

/-- SMB_ALERT_RESPONSE: The device answers the SMBus Alert Response Address with its own address. (R538) -/
def execSmbAlertResponse (s : State) : Host.Outcome State Fault Refusal :=
  .next (s.onDev fun d => d.smbAlert)

/-- CH_MEASURE_COMPLETE: The K frame values are taken and the means are returned in the completion. (R392) -/
def execChMeasureComplete (ch : Fin 512) (s : State) : Host.Outcome State Fault Refusal :=
  .next (s.onDevX fun d => d.measureComplete ch.val)

/-- MIGRATE_SELFTEST_DONE: The target engine's self-test ends; the slot moves at the next boundary or the target is marked faulty. (R94) -/
def execMigrateSelftestDone (slot : Fin 64) (ok : Bool) (s : State) : Host.Outcome State Fault Refusal :=
  .next (s.onDevX fun d => d.migrateTested slot.val ok)

/-- MEM_FREQ_COMPLETE: The rate change completes with ports released and devices rescanned. (R461) -/
def execMemFreqComplete (s : State) : Host.Outcome State Fault Refusal :=
  .next (s.onDevX fun d => d.freqComplete)

/-- REBUILD_COMPLETE: The last region is rebuilt and the device enters service. (R466) -/
def execRebuildComplete (dev : Fin 5) (s : State) : Host.Outcome State Fault Refusal :=
  .next (s.onDevX fun d => d.rebuildComplete dev.val)

/-- ROW_COPY_COMPLETE: A row copy ends and the remapping is entered. (R464) -/
def execRowCopyComplete (dev : Fin 5) (s : State) : Host.Outcome State Fault Refusal :=
  .next (s.onDevX fun d => d.rowCopied dev.val)

/-- REFRESH_DEADLINE: A bank's refresh debt reaches +8 and a per-bank refresh is issued ahead of all requests. (R456) -/
def execRefreshDeadline (dev : Fin 5) (bank : Nat) (s : State) : Host.Outcome State Fault Refusal :=
  .next (s.onDev fun d => d.refresh dev.val bank)

/-- WRITE_COMBINE_TIMEOUT: 1 µs after a stripe's first write the combined write goes out as a full or partial write. (R450) -/
def execWriteCombineTimeout (s : State) : Host.Outcome State Fault Refusal :=
  .next (s.onDev fun d => d.combineTimeout)

/-- PAGE_IDLE_TIMEOUT: No request reaches a bank within 100 ns and its page counter falls. (R457) -/
def execPageIdleTimeout (dev : Fin 5) (bank : Nat) (s : State) : Host.Outcome State Fault Refusal :=
  .next (s.onDev fun d => d.pageIdle dev.val bank)

/-- SCRUB: Scrub reads a stripe, handles errors and rewrites mismatched parity. (R469) -/
def execScrub (row : Nat) (s : State) : Host.Outcome State Fault Refusal :=
  .next (s.onDev fun d => d.scrub row)

/-- WIPE_COMPLETE: The lifecycle wipe ends and the device restarts into BRING-UP in the new state. (R517) -/
def execWipeComplete (s : State) : Host.Outcome State Fault Refusal :=
  .next (s.onDevX fun d => d.wipeComplete)

/-- UPD_STAGE_COMPLETE: The last chunk is authenticated and loaded into the standby pair, setting UPD_STAGED. (R518) -/
def execUpdStageComplete (authentic : Bool) (s : State) : Host.Outcome State Fault Refusal :=
  .next (s.onDevX fun d => d.updStageComplete authentic)

/-- UPDATE_END: The new image reports ready, UPDATE ends and held commands are served. (R33) -/
def execUpdateEnd (ok : Bool) (s : State) : Host.Outcome State Fault Refusal :=
  .next (s.onDevX fun d => d.updateEnd ok)

/-- RET_RECORD_COMPLETE: The return record is written and its length and CRC-32 are returned. (R526) -/
def execRetRecordComplete (s : State) : Host.Outcome State Fault Refusal :=
  .next (s.onDevX fun d => d.retComplete)

/-- ERROR_LINE_RISE: A block's error line rises; the Proofreader latches an event, sets PF_WORD and logs it. (R474) -/
def execErrorLineRise (e : ErrEvent) (t : Nat) (s : State) : Host.Outcome State Fault Refusal :=
  .next (s.onDevX fun d => d.errorLine e t)

/-- FAULT_REACTION: The reactions of events latched in a frame are carried out together. (R480) -/
def execFaultReaction (s : State) : Host.Outcome State Fault Refusal :=
  .next (s.onDevX fun d => d.faultReaction)

/-- SHADOW_END: A reaction shadow ends and persisting consequential events become new events. (R490) -/
def execShadowEnd (b : ShadowBlock) (persists : List ErrEvent) (s : State) : Host.Outcome State Fault Refusal :=
  .next (s.onDevX fun d => d.shadowEnd b persists)

/-- PRESS_LOCKSTEP_MISMATCH: A Press pair's lockstep compare fails; the active pair hands over or the standby pair reloads. (R485) -/
def execPressLockstepMismatch (standby : Bool) (t : Nat) (s : State) : Host.Outcome State Fault Refusal :=
  .next (s.onDevX fun d => d.pressMismatch standby t)

/-- PRESS_RELOAD_COMPLETE: A reset Press pair passes self-test and reload and becomes standby, clearing PRESS_ALT. (R485) -/
def execPressReloadComplete (ok : Bool) (s : State) : Host.Outcome State Fault Refusal :=
  .next (s.onDevX fun d => d.pressReload ok)

/-- PROOFREADER_MISMATCH: The two Proofreader copies differ; bit 63 is set and SAFE is carried out. (R487) -/
def execProofreaderMismatch (t : Nat) (s : State) : Host.Outcome State Fault Refusal :=
  .next (s.onDevX fun d => d.proofreaderMismatch t)

/-- SPARE_SELFTEST: Every 10 s a spare engine runs its self-test at a stepped clock. (R484) -/
def execSpareSelftest (e : Fin 72) (ok : Bool) (s : State) : Host.Outcome State Fault Refusal :=
  .next (s.onDev fun d => d.spareSelftest e.val ok)

/-- JOURNAL_PROGRAM: Buffered journal records are programmed to flash a page at a time. (R524) -/
def execJournalProgram (s : State) : Host.Outcome State Fault Refusal :=
  .next (s.onDev fun d => d.journalProgram)

/-- HOURLY_HISTORY: Each hour a history record of temperatures and operating hours is journalled. (R523) -/
def execHourlyHistory (s : State) : Host.Outcome State Fault Refusal :=
  .next (s.onDev fun d => d.hourlyHistory)

/-- SECTOR_ERASE_START: A waiting sector erase starts once the die is below 115 °C and not in HOLD. (R313) -/
def execSectorEraseStart (s : State) : Host.Outcome State Fault Refusal :=
  .next (s.onDev fun d => d.eraseStart)

/-- POWER_ON: VDD_AON returns, the always-on domain starts and serves SMBus, and the device leaves OFF into HELD while PORST_N is held low. (R35) -/
def execPowerOn (bootSel : BitVec 2) (s : State) : Host.Outcome State Fault Refusal :=
  .next (s.onDev fun d => d.powerOn bootSel.toNat)

/-- INVALID_HEADERS: A Zhepin port receives 16 invalid headers within 64 words and goes DOWN, raising bit 55 when its far end was REGISTERED. (R323) -/
def execInvalidHeaders (port : Port) (t : Nat) (s : State) : Host.Outcome State Fault Refusal :=
  .next (s.onDevX fun d => d.invalidHeaders port.val t)

/-- UNSETTLED_CLEARS: A comparator's input first leaves the band of every threshold in use, so UNSETTLED clears and the state is kept or cleared by the side the input lies on. (R279) -/
def execUnsettledClears (mon : Fin 64) (tripSide : Bool) (s : State) : Host.Outcome State Fault Refusal :=
  .next (s.onDev fun d => d.unsettledClears mon.val tripSide)

/-- SECTOR_ERASE_COMPLETE: A boot-flash sector erase ends, so the journal, update or lifecycle wipe can write into that sector. (R313) -/
def execSectorEraseComplete (s : State) : Host.Outcome State Fault Refusal :=
  .next (s.onDev fun d => d.eraseComplete)

end Sys2Proof.Machine
end

