-- ==== Sys2Proof/Machine/Dispatch.lean ====
section
/-! DEFINITION. Dispatch: one arm per command of the table, each a direct call of the command's meaning. -/

namespace Sys2Proof.Machine

def exec (i : Instr) (s : State) : Host.Outcome State Fault Refusal :=
  match i with
  | .powerLoss t => Sys2Proof.Machine.execPowerLoss t s
  | .porstNAssert t => Sys2Proof.Machine.execPorstNAssert t s
  | .warmRstNAssert t => Sys2Proof.Machine.execWarmRstNAssert t s
  | .pgFall pg t => Sys2Proof.Machine.execPgFall pg t s
  | .heldRelease bootSel => Sys2Proof.Machine.execHeldRelease bootSel s
  | .blockReady u ok => Sys2Proof.Machine.execBlockReady u ok s
  | .regionWipeComplete r => Sys2Proof.Machine.execRegionWipeComplete r s
  | .delayScanComplete dev found => Sys2Proof.Machine.execDelayScanComplete dev found s
  | .refclkLoss t => Sys2Proof.Machine.execRefclkLoss t s
  | .refclkReturn t => Sys2Proof.Machine.execRefclkReturn t s
  | .pciePerstNFall t => Sys2Proof.Machine.execPciePerstNFall t s
  | .pciePerstNRise t => Sys2Proof.Machine.execPciePerstNRise t s
  | .flr fn => Sys2Proof.Machine.execFlr fn s
  | .vfRemoval numVFs => Sys2Proof.Machine.execVfRemoval numVFs s
  | .dieShutdown sensor t => Sys2Proof.Machine.execDieShutdown sensor t s
  | .jtagDebugAttempt t => Sys2Proof.Machine.execJtagDebugAttempt t s
  | .frameTick => Sys2Proof.Machine.execFrameTick s
  | .upstreamBlock link u0 u1 dz crcOk t16 => Sys2Proof.Machine.execUpstreamBlock link u0 u1 dz crcOk t16 s
  | .computePhase slot => Sys2Proof.Machine.execComputePhase slot s
  | .apertureEnd ch => Sys2Proof.Machine.execApertureEnd ch s
  | .collectionPhase slot => Sys2Proof.Machine.execCollectionPhase slot s
  | .budgetPhase => Sys2Proof.Machine.execBudgetPhase s
  | .engineDeadlineMiss slot done => Sys2Proof.Machine.execEngineDeadlineMiss slot done s
  | .upstreamDeadlineMiss link => Sys2Proof.Machine.execUpstreamDeadlineMiss link s
  | .collectorDrainMiss slot => Sys2Proof.Machine.execCollectorDrainMiss slot s
  | .budgetPhaseMiss => Sys2Proof.Machine.execBudgetPhaseMiss s
  | .notBeforeBoundary => Sys2Proof.Machine.execNotBeforeBoundary s
  | .armingComplete ch => Sys2Proof.Machine.execArmingComplete ch s
  | .softParkRampComplete ch => Sys2Proof.Machine.execSoftParkRampComplete ch s
  | .ovMakeEnd ch => Sys2Proof.Machine.execOvMakeEnd ch s
  | .ovFadeEnd ch => Sys2Proof.Machine.execOvFadeEnd ch s
  | .hsHoldEnd ch => Sys2Proof.Machine.execHsHoldEnd ch s
  | .seqWalk ch => Sys2Proof.Machine.execSeqWalk ch s
  | .continuationWalk ch => Sys2Proof.Machine.execContinuationWalk ch s
  | .waitTimeout ch => Sys2Proof.Machine.execWaitTimeout ch s
  | .deferralTimeout ch => Sys2Proof.Machine.execDeferralTimeout ch s
  | .galleyLineArrival ch ok => Sys2Proof.Machine.execGalleyLineArrival ch ok s
  | .calFitComplete ch => Sys2Proof.Machine.execCalFitComplete ch s
  | .calPersistTimer ch => Sys2Proof.Machine.execCalPersistTimer ch s
  | .sensorRevalidated zone pos => Sys2Proof.Machine.execSensorRevalidated zone pos s
  | .syncBlocksFound link => Sys2Proof.Machine.execSyncBlocksFound link s
  | .linkLoss link => Sys2Proof.Machine.execLinkLoss link s
  | .pageData link page data => Sys2Proof.Machine.execPageData link page data s
  | .ack link code => Sys2Proof.Machine.execAck link code s
  | .nvmData link slot offset data => Sys2Proof.Machine.execNvmData link slot offset data s
  | .mgmtReplyTimeout link => Sys2Proof.Machine.execMgmtReplyTimeout link s
  | .triggerEdge pin rising t => Sys2Proof.Machine.execTriggerEdge pin rising t s
  | .triggerResample pin t => Sys2Proof.Machine.execTriggerResample pin t s
  | .triggerStuck pin => Sys2Proof.Machine.execTriggerStuck pin s
  | .monitorTrip mon t => Sys2Proof.Machine.execMonitorTrip mon t s
  | .monitorRelease mon t => Sys2Proof.Machine.execMonitorRelease mon t s
  | .blankingWindowEnd mon tripped t => Sys2Proof.Machine.execBlankingWindowEnd mon tripped t s
  | .monitorPeriodClear mon => Sys2Proof.Machine.execMonitorPeriodClear mon s
  | .zoneEvaluation zone => Sys2Proof.Machine.execZoneEvaluation zone s
  | .railEvaluation rail => Sys2Proof.Machine.execRailEvaluation rail s
  | .dieEvaluation sensors => Sys2Proof.Machine.execDieEvaluation sensors s
  | .neighbor port c t => Sys2Proof.Machine.execNeighbor port c t s
  | .neighborSend port => Sys2Proof.Machine.execNeighborSend port s
  | .neighborTimeout port => Sys2Proof.Machine.execNeighborTimeout port s
  | .ping port c t => Sys2Proof.Machine.execPing port c t s
  | .pingSend port t => Sys2Proof.Machine.execPingSend port t s
  | .echo port c t => Sys2Proof.Machine.execEcho port c t s
  | .resend port c => Sys2Proof.Machine.execResend port c s
  | .epoch port c t => Sys2Proof.Machine.execEpoch port c t s
  | .epochBroadcast => Sys2Proof.Machine.execEpochBroadcast s
  | .epochTimeout => Sys2Proof.Machine.execEpochTimeout s
  | .regPulseEdge t low => Sys2Proof.Machine.execRegPulseEdge t low s
  | .markDrive => Sys2Proof.Machine.execMarkDrive s
  | .markWaitTimeout => Sys2Proof.Machine.execMarkWaitTimeout s
  | .timeSlew => Sys2Proof.Machine.execTimeSlew s
  | .eventCell port c t => Sys2Proof.Machine.execEventCell port c t s
  | .armCell port c t => Sys2Proof.Machine.execArmCell port c t s
  | .ledger port c t => Sys2Proof.Machine.execLedger port c t s
  | .ledgerWindowEnd => Sys2Proof.Machine.execLedgerWindowEnd s
  | .stateCell port c t => Sys2Proof.Machine.execStateCell port c t s
  | .shareSilenceTimeout index => Sys2Proof.Machine.execShareSilenceTimeout index s
  | .req port c t => Sys2Proof.Machine.execReq port c t s
  | .grantCell port c t => Sys2Proof.Machine.execGrantCell port c t s
  | .cancelCell port c t => Sys2Proof.Machine.execCancelCell port c t s
  | .msg port c t => Sys2Proof.Machine.execMsg port c t s
  | .msgAnswerTimeout qid => Sys2Proof.Machine.execMsgAnswerTimeout qid s
  | .doorbell fn index value single bytes t => Sys2Proof.Machine.execDoorbell fn index value single bytes t s
  | .fastSlotWrite fn slot bytes t => Sys2Proof.Machine.execFastSlotWrite fn slot bytes t s
  | .adminEnable fn value => Sys2Proof.Machine.execAdminEnable fn value s
  | .adminDisable fn value => Sys2Proof.Machine.execAdminDisable fn value s
  | .adminRingsReady fn => Sys2Proof.Machine.execAdminRingsReady fn s
  | .intStatusClear fn value => Sys2Proof.Machine.execIntStatusClear fn value s
  | .fpLateClear fn value => Sys2Proof.Machine.execFpLateClear fn value s
  | .faultnCtrlWrite fn value => Sys2Proof.Machine.execFaultnCtrlWrite fn value s
  | .registerWrite fn offset value => Sys2Proof.Machine.execRegisterWrite fn offset value s
  | .smbIdent => Sys2Proof.Machine.execSmbIdent s
  | .smbMode => Sys2Proof.Machine.execSmbMode s
  | .smbPfWord => Sys2Proof.Machine.execSmbPfWord s
  | .smbDie => Sys2Proof.Machine.execSmbDie s
  | .smbDiodes => Sys2Proof.Machine.execSmbDiodes s
  | .smbSensors => Sys2Proof.Machine.execSmbSensors s
  | .smbSerial => Sys2Proof.Machine.execSmbSerial s
  | .smbReadFaultn => Sys2Proof.Machine.execSmbReadFaultn s
  | .smbWriteFaultn value pecOk => Sys2Proof.Machine.execSmbWriteFaultn value pecOk s
  | .smbAlertResponse => Sys2Proof.Machine.execSmbAlertResponse s
  | .nop p => Sys2Proof.Machine.execNop p s
  | .identify p => Sys2Proof.Machine.execIdentify p s
  | .getMode p => Sys2Proof.Machine.execGetMode p s
  | .setModeRun p => Sys2Proof.Machine.execSetModeRun p s
  | .setModeStandby p => Sys2Proof.Machine.execSetModeStandby p s
  | .setModeSafe p => Sys2Proof.Machine.execSetModeSafe p s
  | .getReady p => Sys2Proof.Machine.execGetReady p s
  | .setFrame p => Sys2Proof.Machine.execSetFrame p s
  | .getTime p => Sys2Proof.Machine.execGetTime p s
  | .resetBlock p => Sys2Proof.Machine.execResetBlock p s
  | .assign p => Sys2Proof.Machine.execAssign p s
  | .chConfig p => Sys2Proof.Machine.execChConfig p s
  | .chFunction p => Sys2Proof.Machine.execChFunction p s
  | .chSetpoint p => Sys2Proof.Machine.execChSetpoint p s
  | .chLimits p => Sys2Proof.Machine.execChLimits p s
  | .chRange p => Sys2Proof.Machine.execChRange p s
  | .chAutorange p => Sys2Proof.Machine.execChAutorange p s
  | .chArm p => Sys2Proof.Machine.execChArm p s
  | .chPark p => Sys2Proof.Machine.execChPark p s
  | .chParkSoft p => Sys2Proof.Machine.execChParkSoft p s
  | .chMeasure p => Sys2Proof.Machine.execChMeasure p s
  | .chMeasureComplete ch => Sys2Proof.Machine.execChMeasureComplete ch s
  | .chAperture p => Sys2Proof.Machine.execChAperture p s
  | .chStatus p => Sys2Proof.Machine.execChStatus p s
  | .chStrobe p => Sys2Proof.Machine.execChStrobe p s
  | .chMigrate p => Sys2Proof.Machine.execChMigrate p s
  | .migrateSelftestDone slot ok => Sys2Proof.Machine.execMigrateSelftestDone slot ok s
  | .fmLoad p => Sys2Proof.Machine.execFmLoad p s
  | .fmSegmentDefine p => Sys2Proof.Machine.execFmSegmentDefine p s
  | .fmSegmentWrite p => Sys2Proof.Machine.execFmSegmentWrite p s
  | .fmSegmentDelete p => Sys2Proof.Machine.execFmSegmentDelete p s
  | .fmLockup p => Sys2Proof.Machine.execFmLockup p s
  | .fmStart p => Sys2Proof.Machine.execFmStart p s
  | .fmStop p => Sys2Proof.Machine.execFmStop p s
  | .fmJump p => Sys2Proof.Machine.execFmJump p s
  | .fmStreamBind p => Sys2Proof.Machine.execFmStreamBind p s
  | .fmStatus p => Sys2Proof.Machine.execFmStatus p s
  | .fmStatusSegment p => Sys2Proof.Machine.execFmStatusSegment p s
  | .fmRelease p => Sys2Proof.Machine.execFmRelease p s
  | .qCreate p => Sys2Proof.Machine.execQCreate p s
  | .qDestroy p => Sys2Proof.Machine.execQDestroy p s
  | .qReset p => Sys2Proof.Machine.execQReset p s
  | .qStatus p => Sys2Proof.Machine.execQStatus p s
  | .qStatusClear p => Sys2Proof.Machine.execQStatusClear p s
  | .qNotify p => Sys2Proof.Machine.execQNotify p s
  | .qBind p => Sys2Proof.Machine.execQBind p s
  | .imZone p => Sys2Proof.Machine.execImZone p s
  | .imRail p => Sys2Proof.Machine.execImRail p s
  | .imModel p => Sys2Proof.Machine.execImModel p s
  | .imSensor p => Sys2Proof.Machine.execImSensor p s
  | .imStatus p => Sys2Proof.Machine.execImStatus p s
  | .imPolicy p => Sys2Proof.Machine.execImPolicy p s
  | .calMode p => Sys2Proof.Machine.execCalMode p s
  | .calStatus p => Sys2Proof.Machine.execCalStatus p s
  | .calCommit p => Sys2Proof.Machine.execCalCommit p s
  | .calCommitForce p => Sys2Proof.Machine.execCalCommitForce p s
  | .calCommitDiscard p => Sys2Proof.Machine.execCalCommitDiscard p s
  | .calRead p => Sys2Proof.Machine.execCalRead p s
  | .calWrite p => Sys2Proof.Machine.execCalWrite p s
  | .calPersist p => Sys2Proof.Machine.execCalPersist p s
  | .tsWrite p => Sys2Proof.Machine.execTsWrite p s
  | .tsSelect p => Sys2Proof.Machine.execTsSelect p s
  | .mkRoute p => Sys2Proof.Machine.execMkRoute p s
  | .trigConfig p => Sys2Proof.Machine.execTrigConfig p s
  | .trigConfigClear p => Sys2Proof.Machine.execTrigConfigClear p s
  | .trigConfigQuery p => Sys2Proof.Machine.execTrigConfigQuery p s
  | .regJoinMember p => Sys2Proof.Machine.execRegJoinMember p s
  | .regJoinTimekeeper p => Sys2Proof.Machine.execRegJoinTimekeeper p s
  | .regJoinLeave p => Sys2Proof.Machine.execRegJoinLeave p s
  | .regStatus p => Sys2Proof.Machine.execRegStatus p s
  | .regSkew p => Sys2Proof.Machine.execRegSkew p s
  | .regArmAt p => Sys2Proof.Machine.execRegArmAt p s
  | .monConfig p => Sys2Proof.Machine.execMonConfig p s
  | .monStatus p => Sys2Proof.Machine.execMonStatus p s
  | .monStatusClear p => Sys2Proof.Machine.execMonStatusClear p s
  | .axdWrite p => Sys2Proof.Machine.execAxdWrite p s
  | .axdStrobe p => Sys2Proof.Machine.execAxdStrobe p s
  | .fltStatus p => Sys2Proof.Machine.execFltStatus p s
  | .fltClear p => Sys2Proof.Machine.execFltClear p s
  | .fltReaction p => Sys2Proof.Machine.execFltReaction p s
  | .fltLog p => Sys2Proof.Machine.execFltLog p s
  | .memStatus p => Sys2Proof.Machine.execMemStatus p s
  | .memDelays p => Sys2Proof.Machine.execMemDelays p s
  | .memDelaysWrite p => Sys2Proof.Machine.execMemDelaysWrite p s
  | .memScan p => Sys2Proof.Machine.execMemScan p s
  | .memFreq p => Sys2Proof.Machine.execMemFreq p s
  | .memFreqComplete => Sys2Proof.Machine.execMemFreqComplete s
  | .memRetireDevice p => Sys2Proof.Machine.execMemRetireDevice p s
  | .memRestore p => Sys2Proof.Machine.execMemRestore p s
  | .rebuildComplete dev => Sys2Proof.Machine.execRebuildComplete dev s
  | .memRetireRow p => Sys2Proof.Machine.execMemRetireRow p s
  | .rowCopyComplete dev => Sys2Proof.Machine.execRowCopyComplete dev s
  | .memRead p => Sys2Proof.Machine.execMemRead p s
  | .memWrite p => Sys2Proof.Machine.execMemWrite p s
  | .refreshDeadline dev bank => Sys2Proof.Machine.execRefreshDeadline dev bank s
  | .writeCombineTimeout => Sys2Proof.Machine.execWriteCombineTimeout s
  | .pageIdleTimeout dev bank => Sys2Proof.Machine.execPageIdleTimeout dev bank s
  | .scrub row => Sys2Proof.Machine.execScrub row s
  | .lcStatus p => Sys2Proof.Machine.execLcStatus p s
  | .lcAdvance p => Sys2Proof.Machine.execLcAdvance p s
  | .wipeComplete => Sys2Proof.Machine.execWipeComplete s
  | .updStage p => Sys2Proof.Machine.execUpdStage p s
  | .updStageComplete authentic => Sys2Proof.Machine.execUpdStageComplete authentic s
  | .updSwitch p => Sys2Proof.Machine.execUpdSwitch p s
  | .updateEnd ok => Sys2Proof.Machine.execUpdateEnd ok s
  | .retRecord p => Sys2Proof.Machine.execRetRecord p s
  | .retRecordComplete => Sys2Proof.Machine.execRetRecordComplete s
  | .prfEnter p => Sys2Proof.Machine.execPrfEnter p s
  | .prfInject p => Sys2Proof.Machine.execPrfInject p s
  | .prfPerturb p => Sys2Proof.Machine.execPrfPerturb p s
  | .prfExit p => Sys2Proof.Machine.execPrfExit p s
  | .elStatus p => Sys2Proof.Machine.execElStatus p s
  | .elStatusClear p => Sys2Proof.Machine.execElStatusClear p s
  | .elDescriptor p => Sys2Proof.Machine.execElDescriptor p s
  | .elPair p => Sys2Proof.Machine.execElPair p s
  | .elPairSplit p => Sys2Proof.Machine.execElPairSplit p s
  | .elPairSwap p => Sys2Proof.Machine.execElPairSwap p s
  | .elSkew p => Sys2Proof.Machine.execElSkew p s
  | .elResetDisable p => Sys2Proof.Machine.execElResetDisable p s
  | .elResetEnable p => Sys2Proof.Machine.execElResetEnable p s
  | .errorLineRise e t => Sys2Proof.Machine.execErrorLineRise e t s
  | .faultReaction => Sys2Proof.Machine.execFaultReaction s
  | .shadowEnd b persists => Sys2Proof.Machine.execShadowEnd b persists s
  | .pressLockstepMismatch standby t => Sys2Proof.Machine.execPressLockstepMismatch standby t s
  | .pressReloadComplete ok => Sys2Proof.Machine.execPressReloadComplete ok s
  | .proofreaderMismatch t => Sys2Proof.Machine.execProofreaderMismatch t s
  | .spareSelftest e ok => Sys2Proof.Machine.execSpareSelftest e ok s
  | .journalProgram => Sys2Proof.Machine.execJournalProgram s
  | .hourlyHistory => Sys2Proof.Machine.execHourlyHistory s
  | .sectorEraseStart => Sys2Proof.Machine.execSectorEraseStart s
  | .powerOn bootSel => Sys2Proof.Machine.execPowerOn bootSel s
  | .invalidHeaders port t => Sys2Proof.Machine.execInvalidHeaders port t s
  | .unsettledClears mon tripSide => Sys2Proof.Machine.execUnsettledClears mon tripSide s
  | .sectorEraseComplete => Sys2Proof.Machine.execSectorEraseComplete s

end Sys2Proof.Machine
end

