-- ==== Sys2Proof/Safety.lean ====
section
/-! DEFINITION. What the statements say of a device: which parts a reply leaves alone, when a firmware command starts at once and is
accepted, when no held command and no cell follows a command, and what a sound ring is. -/

namespace Sys2Proof.Machine

/-- No command is held and the device is not REGISTERED, so that nothing but the outputs follows a command (`Device.follow`). -/
def Device.Calm (d : Device) : Prop := d.cmd.held = [] ∧ d.reg.state ≠ .registered

/-- The two copies of the pointers agree and no injection bears on them (R440, R493). -/
def Device.ringSound (d : Device) (q : Nat) : Bool :=
  match d.ring? q with
  | none => true
  | some r => !(r.mismatch || d.proof.injections.any (d.ptrInjected q))

/-- What the Proofreader's latch and the journal leave alone of the Proofreader (R472, R474). -/
def Proofreader.settings (p : Proofreader) : Proofreader :=
  { p with pf := 0, words := [], nextId := 1, events := [], shadowFlags := 0, latched := [], conseq := [], rate := [], rateFrom := 0,
           earliest := 0, records := 0 }

/-- What replies, notices and interrupts leave alone of a function's page (R355, R374). -/
def HostFn.settings (f : HostFn) : HostFn := { f with evtFolio := 0, intStatus := 0, pba := 0, msixSent := [] }

/-- The parts of a device that carrying out a command may change and that taking and answering it never do: all but the rings and what
is stored in them, the functions' pages, the outputs, the journal buffer, the latch of the Proofreader, injections' cycles, the order of
acceptance and the counter of free values. -/
def Device.body (d : Device) : Device :=
  { d with
    aon := { d.aon with jbuf := [], jlost := 0 }
    fns := []
    cmd := { d.cmd with nextAcc := 0, outstanding := [] }
    queue := { d.queue with rings := [], cache := [], resets := 0 }
    store := {}
    flt := d.flt.settings
    proof := { d.proof with injections := [] }
    pins := {}
    freeCtr := 0 }

/-- The device as a packet finds it: time has come to its instant and its ring's descriptor is in use (R436). -/
def Device.arrived (d : Device) (p : Packet) : Device := (d.at p.at_).touch p.qid.toNat

/-- The device that has taken a packet's command (R364..R367). -/
def Device.takenBy (d : Device) (op : Op) (p : Packet) (r : Ring) : Device :=
  ((d.arrived p).taken op p.fn.val p.qid.toNat r p.body).1

/-- The command of a packet that is taken. -/
def Device.commandOf (d : Device) (op : Op) (p : Packet) (r : Ring) : Cmd :=
  parseCmd ((d.arrived p).taken op p.fn.val p.qid.toNat r p.body).2 p.body false (d.arrived p).time.frame (d.arrived p).time.now

/-- An answer that accepts: OK or JUMP_DEFERRED at once, ACCEPTED or BUSY_TRAINING with a completion owed, both in one step with OK, or
a reply after the effect (R363, R382, R385). -/
def Ans.good : Ans → Bool
  | .done s _ => s == stOK || s == stJUMP_DEFERRED
  | .interim s _ => s == stACCEPTED || s == stBUSY_TRAINING
  | .both _ s _ => s == stOK
  | .later => true

/-- A packet's command starts at once: the device runs and holds no command, the ring is the function's own sound command ring in service (R367,
R372), and nothing holds the command back (R33, R365, R367). -/
structure Device.Starts (d : Device) (op : Op) (p : Packet) (r : Ring) : Prop where
  running : d.running = true
  unheld : d.cmd.held = []
  ring : d.ring? p.qid.toNat = some r
  mine : r.kind = 0 ∧ r.fn = p.fn.val ∧ r.halt = false
  sound : d.ringSound p.qid.toNat = true
  free : (d.arrived p).holds op p.fn.val p.qid.toNat p.body [] = none

/-- A packet's command starts at once and every check of R362 passes; it carries no ASSIGN, and its NOT_BEFORE is not ahead unless the
opcode acts on it itself. What is left is the opcode's own effect. -/
structure Device.Accepted (d : Device) (op : Op) (p : Packet) (r : Ring) : Prop extends d.Starts op p r where
  header : firstFail ((d.takenBy op p r).headChecks op (d.commandOf op p r) p.body (bodyLengthOk p.body)) = none
  now : ¬((d.arrived p).time.now < (d.commandOf op p r).nb ∧ (!op.leads) = true)
  plain : (d.commandOf op p r).assign = false
  allowed : firstFail ((d.takenBy op p r).stateChecks op (d.commandOf op p r)) = none
  good : (op.run (d.commandOf op p r) (d.takenBy op p r)).1.good = true

/-- The same of a packet with ASSIGN (R350). -/
structure Device.AssignAccepted (d : Device) (op : Op) (p : Packet) (r : Ring) : Prop extends d.Starts op p r where
  header : firstFail ((d.takenBy op p r).headChecks op (d.commandOf op p r) p.body (bodyLengthOk p.body)) = none
  now : ¬((d.arrived p).time.now < (d.commandOf op p r).nb ∧ (!op.leads) = true)
  assigns : (d.commandOf op p r).assign = true
  allowed : firstFail ((d.takenBy op p r).stateChecks op (d.commandOf op p r)) = none
  good : (runAssign op (d.commandOf op p r) (d.takenBy op p r)).1.good = true

/-- The cells that a REGISTERED device sends for its changes, or nothing (R298, R305, R342, R344). -/
def Device.afterwards (old d : Device) : Device := if old.reg.state = .registered then old.pump d else d

/-- A row of the firmware commands completes: whenever a packet of the row is accepted and its command has the form, `exec` answers the
next state in which the effect has taken place on the device that took the command, the answer is given, the cells that a REGISTERED
device owes are sent, and the outputs follow. The queue stays, and off the REGISTERED state the device's body is that of the effect. -/
def Completes (row : Packet → Instr) (op : Op) (form : Cmd → Device → Prop) (effect : Cmd → Device → Device) (answer : Cmd → Device → Ans) :
    Prop :=
  ∀ (s : State) (p : Packet) (r : Ring), s.dev.Accepted op p r →
    form (s.dev.commandOf op p r) (s.dev.takenBy op p r) →
    ∃ t, exec (row p) s = .next t ∧ t.pending = s.pending ∧
      t.dev = (s.dev.afterwards ((effect (s.dev.commandOf op p r) (s.dev.takenBy op p r)).answer (s.dev.commandOf op p r)
        (answer (s.dev.commandOf op p r) (s.dev.takenBy op p r)))).settle ∧
      (s.dev.reg.state ≠ .registered → t.dev.body = (effect (s.dev.commandOf op p r) (s.dev.takenBy op p r)).body)

/-- Every form of a row's command. -/
def anyForm (_c : Cmd) (_d : Device) : Prop := True

/-- The device with what is left of an accepted command's effect waiting for a boundary (R60). -/
def Device.waits (d : Device) (op : Op) (c : Cmd) (tick : Nat) : Device :=
  { d with sched := d.sched ++ [{ tick := tick, acc := c.acc, act := .cmd op c }] }

/-- The first boundary after a command's frame, at or after its NOT_BEFORE (R60). -/
def Device.nextBoundary (d : Device) (c : Cmd) : Nat := d.boundaryAt c.frame c.nb

/-- `exec` of a row that is no packet answers a next state whose device is one of `p`, with its outputs in step (R353..R355, R538); the
queue stays. -/
def Yields (i : Instr) (s : State) (p : Device → Prop) : Prop := ∃ d, exec i s = .next { s with dev := d.settle } ∧ p d

/-- The same where the cells that a REGISTERED device owes for its changes follow. -/
def YieldsCells (i : Instr) (s : State) (p : Device → Prop) : Prop :=
  ∃ d, exec i s = .next { s with dev := (s.dev.afterwards d).settle } ∧ p d

/-- An error event that no open shadow covers, recorded: its PF_WORD bit, its place among the uncleared events, the block error word
with its count, and its reaction waiting (R472, R474, R476, R481). -/
structure Device.Records (old d : Device) (b unit check t : Nat) : Prop where
  pf : d.flt.pf = setBit old.flt.pf b
  event : d.flt.events = old.flt.events ++ [{ id := old.flt.nextId, bit := b, stamp := t, injected := false }]
  word : tabGet {} d.flt.words (errIndex b unit) =
    { check := check, err := true, real := true, unit := unit, count := min 65535 ((tabGet {} old.flt.words (errIndex b unit)).count + 1) }
  reaction : ∃ l, d.flt.latched = old.flt.latched ++ [l] ∧ l.ev.bit.val = b ∧ l.id = old.flt.nextId ∧ l.stamp = t

/-- A cell of a type reaches the device whole on a port, with no cell of the port awaiting its second copy (R323, R324). -/
structure Device.Receives (d : Device) (p : Port) (c : Cell) (ty : Nat) : Prop where
  on : d.zhepinOn = true
  whole : c.crcOk = true
  type : c.isType ty = true
  first : (d.port p.val).failed = none

/-- The same on an UP port, addressed to this device (R323). -/
structure Device.Addressed (d : Device) (p : Port) (c : Cell) (ty : Nat) : Prop extends d.Receives p c ty where
  up : (d.port p.val).up = true
  single : c.bcast = false
  mine : d.reg.id = some c.dest

/-- The same as a broadcast that was not seen before, with no other port UP to relay it to (R323). -/
structure Device.Broadcasts (d : Device) (p : Port) (c : Cell) (ty : Nat) : Prop extends d.Receives p c ty where
  up : (d.port p.val).up = true
  all : c.bcast = true
  new : ∀ x ∈ d.reg.seen, ¬(x.1 = c.origin ∧ x.2.1 = c.cseq)
  alone : d.portsUp = [p.val]

end Sys2Proof.Machine
end

