-- ==== Sys2Proof/Certificates/Slice0/Obligations.lean ====
section
/-! DEFINITION. Statements for the provers about the device: its commands, its outputs, its rings and memory, and whole-machine rules. -/

open Sys2Proof Sys2Proof.Machine

/-! ### Firmware commands: what they answer and what they change -/

/-- NOP, IDENTIFY, GET_MODE, GET_READY, GET_TIME and LC_STATUS answer OK with the payloads of R386, R387, R389 and R418 and change nothing
else. -/
def Obligations.SystemQueriesAnswer : Prop :=
  Completes .nop .nop anyForm (fun _ d => d) (fun _ _ => .done stOK []) ∧
  Completes .identify .identify anyForm (fun _ d => d) (fun c d => .done stOK
    (le32 ident ++ le32 d.aon.fwVersion ++ le16 (d.reg.id.getD 0xFFFF) ++ [BitVec.ofNat 8 c.env.fn, BitVec.ofNat 8 d.numVFs] ++
      le16 ((List.range 512).filter fun ch => (d.chan ch).owner == c.env.fn).length ++ zeros 2 ++ serial ++
      [BitVec.ofNat 8 d.otp.lc, BitVec.ofNat 8 d.press.bank] ++ zeros 30)) ∧
  Completes .getMode .getMode anyForm (fun _ d => d) (fun _ d => .done stOK (le32 d.mode.word ++ zeros 4 ++ le64 d.mode.changedAt)) ∧
  Completes .getReady .getReady anyForm (fun _ d => d) (fun _ d => .done stOK
    (leBytes 64 d.ready.links ++ leBytes 12 d.ready.eng ++ zeros 4 ++ leBytes 8 d.ready.region ++ le32 d.ready.caseR ++ le32 d.ready.blk ++
      zeros 160)) ∧
  Completes .getTime .getTime anyForm (fun _ d => d) (fun c d => .done stOK
    (le64 (d.tickOfFrame c.frame) ++ le64 c.frame ++ le32 d.time.n ++
      le32 (flag d.time.localTime 0 + flag (d.reg.state == .registered) 1))) ∧
  Completes .lcStatus .lcStatus anyForm (fun _ d => d) (fun _ d => .done stOK
    ([BitVec.ofNat 8 d.otp.lc, BitVec.ofNat 8 d.press.bank,
      BitVec.ofNat 8 (flag (d.otp.customer.isSome && d.otp.lc == 2) 0 + flag d.flash.proofPermitted 1), 0] ++
      le32 d.press.version ++ le32 (if d.mode.updStaged then d.update.stagedVersion else 0) ++ le32 (d.bankVersion (1 - d.press.bank))))

/-- CH_STATUS, FM_STATUS with channel scope and with SEG, Q_STATUS, IM_STATUS of a zone, of the die and of a rail, CAL_STATUS and CAL_READ
answer OK with their payloads (R393, R248, R397, R398, R402, R403, R405) and change nothing else; Q_STATUS brings the ring's descriptor
into the cache. -/
def Obligations.UnitQueriesAnswer : Prop :=
  Completes .chStatus .chStatus anyForm (fun _ d => d) (fun c d => .done stOK
    (le32 (d.chStatusWord c.idx (d.delay3 c.idx)) ++ leF32 (ratToF32 (d.chan c.idx).frame.v) ++ leF32 (ratToF32 (d.chan c.idx).frame.i) ++
      leF32 (d.chan c.idx).range.bound ++ le64 (d.chan c.idx).lastGrant ++
      [BitVec.ofNat 8 ((d.engineOf (c.idx / 8)).getD 255), BitVec.ofNat 8 (c.idx / 8), BitVec.ofNat 8 (d.chan c.idx).cfg.strobe,
       BitVec.ofNat 8 (d.chan c.idx).cfg.tset] ++ zeros 4)) ∧
  Completes .fmStatus .fmStatus (fun c _ => c.scope = 1) (fun _ d => d) (fun c d => .done stOK
    (le32 (d.chan c.idx).seq.word ++ le32 (d.chan c.idx).seq.pc ++
      ((List.range 8).map fun k => le32 ((tabGet {} (d.chan c.idx).seq.lc k).count + flag (tabGet {} (d.chan c.idx).seq.lc k).opened 31)).flatten ++
      le32 (d.chan c.idx).seq.dropped ++ le32 (d.chan c.idx).seq.stalls ++ le64 (d.chan c.idx).seq.lastJump)) ∧
  (∀ g, Completes .fmStatusSegment .fmStatus (fun c d => c.scope ≠ 1 ∧ d.seg? (c.u16 0) = some g) (fun _ d => d) (fun c _ => .done stOK
    (g.record (c.u16 0) ++ le32 (if g.kind = 2 then g.missed else 0) ++ le32 (if g.kind = 2 then g.skipped else 0) ++
      le32 (if g.kind = 2 then g.bad else 0) ++ le32 (if g.kind = 2 then g.clamped else 0)))) ∧
  (∀ x, Completes .qStatus .qStatus (fun c d => c.opf = 0 ∧ d.ring? (c.u32 0) = some x) (fun c d => d.touch (c.u32 0)) (fun c d => .done stOK
    (x.descriptor (c.u32 0) (d.pinned (c.u32 0)) ++ le32 x.lost ++ le32 x.partials))) ∧
  (∀ x, Completes .qStatusClear .qStatus (fun c d => c.opf = 1 ∧ d.ring? (c.u32 0) = some x)
    (fun c d => (d.touch (c.u32 0)).setRing (c.u32 0)
      { x with overrun := false, badptr := false, wmLatch := false, qptr := false, lost := 0, partials := 0 })
    (fun c d => .done stOK (x.descriptor (c.u32 0) (d.pinned (c.u32 0)) ++ le32 x.lost ++ le32 x.partials))) ∧
  Completes .imStatus .imStatus (fun c _ => c.idx = 64) (fun _ d => d) (fun _ d => .done stOK
    (le32 d.dieWord ++ leF32 (ratToF32 d.imp.die.temp) ++ leF32 (ratToF32 d.imp.die.rho))) ∧
  Completes .imStatus .imStatus (fun c _ => 256 ≤ c.idx) (fun _ d => d) (fun c d => .done stOK
    (le32 (d.railWord (c.idx - 256)) ++ leF32 (ratToF32 (d.rail (c.idx - 256)).d) ++ leF32 (ratToF32 (d.ledgerPeak (c.idx - 256))) ++
      leF32 (ratToF32 (d.creditOf (c.idx - 256))) ++ le32 (d.rail (c.idx - 256)).paired)) ∧
  Completes .imStatus .imStatus (fun c _ => c.idx < 64) (fun _ d => d) (fun c d => .done stOK
    (le32 (d.zoneWord c.idx) ++ leF32 (ratToF32 (d.zone c.idx).theta) ++ leF32 (ratToF32 (d.zone c.idx).thetaM) ++
      leF32 (ratToF32 (d.zone c.idx).rho) ++ leF32 (ratToF32 (d.zone c.idx).peak) ++
      ((List.range 8).map fun i => leF32 (match (d.zone c.idx).sensors[i]? with | some s => d.sensorWord s | none => f32NaN)).flatten)) ∧
  Completes .calStatus .calStatus anyForm (fun _ d => d) (fun c d => .done stOK
    (le32 (d.calWord (d.calLead c)) ++ le32 (d.chan (d.calLead c)).cal.active.commits ++ le64 (d.chan (d.calLead c)).cal.lastCommit ++
      leF32 (d.chan (d.calLead c)).cal.lastStep ++ leF32 (d.chan (d.calLead c)).cal.monitor ++ le32 (d.chan (d.calLead c)).cal.pointsDisc ++
      le32 (d.chan (d.calLead c)).cal.fitsDisc ++ le32 (d.chan (d.calLead c)).cal.rounds ++ zeros 4)) ∧
  Completes .calRead .calRead anyForm (fun _ d => d) (fun c d => .done stOK
    (if c.scope = 0 then padTo 1056 Config.trims
     else (if c.u8 0 = 0 then (d.chan c.idx).cal.active else (d.chan c.idx).cal.staged).bytes))

/-- REG_STATUS, FLT_STATUS, FLT_LOG, EL_STATUS and its CLEAR, EL_DESCRIPTOR, MEM_DELAYS without WRITE, and MEM_STATUS with no device being
rebuilt answer with their payloads (R346, R412, R416, R422) and change nothing else but what CLEAR clears; with a device being rebuilt
MEM_STATUS too leaves the body as it was, and its progress figure is a free value (log 6), as is EL_STATUS's round trip on a link that
has measured none. -/
def Obligations.ServiceQueriesAnswer : Prop :=
  Completes .regStatus .regStatus anyForm (fun _ d => d) (fun _ d => .done stOK
    (le32 d.regWord ++ le16 (d.reg.id.getD 0xFFFF) ++ le16 (d.reg.tkId.getD 0xFFFF) ++
      [BitVec.ofNat 8 (d.reg.parent.getD 0xFF), BitVec.ofNat 8 d.reg.path, 0, 0] ++
      ([0, 1, 2, 3, 4, 5].map fun p => leF32 (ratToF32 (d.port p).thetaF)).flatten ++
      ([0, 1, 2, 3, 4, 5].map fun p => leF32 (ratToF32 (d.port p).deltaF)).flatten ++
      le32 d.reg.lateEvents ++ le32 d.reg.lateArms ++ le32 d.reg.dropped)) ∧
  Completes .fltStatus .fltStatus anyForm (fun _ d => d) (fun _ d => .done stOK
    (le64 d.flt.pf ++ le64 d.flt.injOnly ++ le64 d.flt.shadowFlags ++ le64 d.flt.earliest ++ le32 d.flt.records ++ zeros 4)) ∧
  Completes .fltLog .fltLog anyForm (fun _ d => d) (fun c d => .both [] stOK
    (le32 (d.flash.records (c.u32 0) (c.u32 4)).length ++ zeros 4 ++ (d.flash.records (c.u32 0) (c.u32 4)).flatten)) ∧
  Completes .elStatus .elStatus (fun c d => c.opf = 0 ∧ (d.link c.idx).rts ≠ []) (fun _ d => d)
    (fun c d => .done stOK (le32 (d.elWord c.idx) ++ leF32 (ratToF32 (((d.link c.idx).rtf - 50688 / 100) / 2)) ++
      leF32 (ratToF32 (d.link c.idx).rtf) ++ leF32 (ratToF32 (d.link c.idx).tu))) ∧
  Completes .elStatusClear .elStatus (fun c d => c.opf = 1 ∧ (d.link c.idx).rts ≠ [])
    (fun c d => d.onLink c.idx fun x => { x with newFe := false, rtStep := false, feProt := false, misses := 0 })
    (fun c d => .done stOK (le32 (d.elWord c.idx) ++ leF32 (ratToF32 (((d.link c.idx).rtf - 50688 / 100) / 2)) ++
      leF32 (ratToF32 (d.link c.idx).rtf) ++ leF32 (ratToF32 (d.link c.idx).tu))) ∧
  Completes .elDescriptor .elDescriptor anyForm (fun _ d => d) (fun c d => .done stOK (tabGet [] (d.link c.idx).pages (c.u32 0))) ∧
  Completes .memDelays .memDelays (fun c _ => c.opf = 0) (fun _ d => d) (fun c d => .done stOK (d.memDev (c.u8 0)).delays) ∧
  Completes .memStatus .memStatus (fun _ d => ∀ m, (d.memDev m).state ≠ .rebuilding) (fun _ d => d) (fun _ d => .done stOK
    (le64 d.ready.region ++ leF32 (rateF32 d.mem.rate) ++ le32 (flag (!d.mem.jobs.isEmpty) 0 + flag d.mem.freq.isSome 1) ++
      ([0, 1, 2, 3, 4].map fun m => [BitVec.ofNat 8 (d.memDev m).state.code, 0] ++ le16 (d.memDev m).remap.length ++
        le32 (d.memDev m).corrected ++ le32 (d.memDev m).reconstructed ++ leF32 (ratToF32 0)).flatten)) ∧
  (∀ (s : State) (p : Packet) (r : Ring), s.dev.Accepted .memStatus p r → s.dev.reg.state ≠ .registered →
    ∃ t, exec (.memStatus p) s = .next t ∧ t.pending = s.pending ∧ t.dev.body = (s.dev.takenBy .memStatus p r).body) ∧
  (∀ (s : State) (p : Packet) (r : Ring), s.dev.Accepted .elStatus p r → s.dev.reg.state ≠ .registered → (s.dev.commandOf .elStatus p r).opf = 0 →
    ∃ t, exec (.elStatus p) s = .next t ∧ t.pending = s.pending ∧ t.dev.body = (s.dev.takenBy .elStatus p r).body)

/-- SET_MODE, SET_FRAME and RESET_BLOCK (R36, R38, R41, R388): a mode change is put down for the command's boundary and answered with it,
or is in force already and changes nothing; SET_MODE RUN in STANDBY wakes the engines first (R29), at a boundary no earlier than the
command's; a new N waits for its boundary, with the front-ends' settings sent ahead; a block reset opens its shadow and clears the
ready bit at the next boundary. -/
def Obligations.SystemCommandsComplete : Prop :=
  Completes .setModeSafe .setMode (fun c d => c.u32 0 = 7 ∧ d.inSafe = false)
    (fun c d => { d with mode := { d.mode with pending := d.mode.pending ++ [(d.nextBoundary c, c.acc, .safe 1)] } })
    (fun c d => .done stOK (le64 (d.nextBoundary c))) ∧
  Completes .setModeSafe .setMode (fun c d => c.u32 0 = 7 ∧ d.inSafe = true) (fun _ d => d) (fun c d => .done stOK (le64 (d.nextBoundary c))) ∧
  Completes .setModeStandby .setMode (fun c d => c.u32 0 = 3 ∧ d.inStandby = false)
    (fun c d => { d with mode := { d.mode with pending := d.mode.pending ++ [(d.nextBoundary c, c.acc, .standby)] } })
    (fun c d => .done stOK (le64 (d.nextBoundary c))) ∧
  Completes .setModeStandby .setMode (fun c d => c.u32 0 = 3 ∧ d.inStandby = true) (fun _ d => d)
    (fun c d => .done stOK (le64 (d.nextBoundary c))) ∧
  Completes .setModeRun .setMode (fun c d => c.u32 0 = 4 ∧ d.inSafe = true)
    (fun c d => { d with mode := { d.mode with pending := d.mode.pending ++ [(d.nextBoundary c, c.acc, .run)] } })
    (fun c d => .done stOK (le64 (d.nextBoundary c))) ∧
  Completes .setModeRun .setMode (fun c d => c.u32 0 = 4 ∧ d.inStandby = false ∧ d.inSafe = false) (fun _ d => d)
    (fun c d => .done stOK (le64 (d.nextBoundary c))) ∧
  (∀ (s : State) (p : Packet) (r : Ring), s.dev.Accepted .setMode p r → s.dev.reg.state ≠ .registered → (s.dev.commandOf .setMode p r).u32 0 = 4 →
    (s.dev.takenBy .setMode p r).inStandby = true → 0 < s.dev.time.n →
    ∃ t b, exec (.setModeRun p) s = .next t ∧ t.pending = s.pending ∧ (s.dev.takenBy .setMode p r).nextBoundary (s.dev.commandOf .setMode p r) ≤ b ∧
      t.dev.body = ({ s.dev.takenBy .setMode p r with mode := { (s.dev.takenBy .setMode p r).mode with
        waking := some b
        pending := (s.dev.takenBy .setMode p r).mode.pending ++ [(b, (s.dev.commandOf .setMode p r).acc, .run)] } } : Device).body) ∧
  Completes .setFrame .setFrame anyForm
    (fun c d => ((d.links.map (·.1)).filter d.linkUp).foldl (fun d l => d.stageOnLink l (d.configFor l (c.u32 0)))
      { d with time := { d.time with setFrame := d.time.setFrame ++ [(d.nextBoundary c, c.u32 0, c.env)] } })
    (fun _ _ => .later) ∧
  Completes .resetBlock .resetBlock anyForm (fun c d => d.resetBlock (c.u16 0) (c.u16 2) (some c.env) 0) (fun _ _ => .interim stACCEPTED []) ∧
  (∀ (d : Device) (b u : Nat) (e : Option Env), (d.resetBlock b u e 0).resets = d.resets ++ [{ bit := b, unit := u, env := e }] ∧
    (d.resetBlock b u e 0).ready.engClr = (if b ≤ 8 then setBit d.ready.engClr u else d.ready.engClr) ∧
    (d.resetBlock b u e 0).ready.blkClr = (if b ≤ 8 then d.ready.blkClr else setBit d.ready.blkClr (resetReadyBit b)))

/-- The rest of an accepted setting of a channel waits for the boundary that the reply names (R60, R385, R390, R391): nothing of the
channel changes before it, but that CH_SETPOINT asks at once for the range change that its value needs (R115; the model's choice, log 123).
CH_FUNCTION's reply allows for a range change that must end first (R118).
The same of the settings of zones, rails, calibration, routes, timing sets, comparators, fault reactions, PROOF and dual-homed pairs
(R60, R385, R400, R401, R404, R408, R410, R413, R421, R422), and of FM_STOP of a running context and Q_NOTIFY (R396, R398). -/
def Obligations.SettingsWaitForTheirBoundary : Prop :=
  (Completes .chConfig .chConfig anyForm (fun c d => d.waits .chConfig c (d.nextBoundary c)) (fun c d => .done stOK (le64 (d.nextBoundary c))) ∧
  Completes .chFunction .chFunction anyForm (fun c d => d.waits .chFunction c (d.nextBoundary c)) (fun c d => .done stOK
    (le64 (max (d.nextBoundary c)
      (if (d.chan c.idx).range.change.isSome then d.nextTick + (d.changeLeft c.idx - 1) * (160 * d.time.n) else 0)))) ∧
  Completes .chSetpoint .chSetpoint anyForm
    (fun c d => (if d.nextBoundary c ≤ d.nextTick then d.askRange c else d).waits .chSetpoint c (d.nextBoundary c))
    (fun c d => .done stOK (le64 (d.nextBoundary c))) ∧
  Completes .chLimits .chLimits anyForm (fun c d => d.waits .chLimits c (d.nextBoundary c)) (fun c d => .done stOK (le64 (d.nextBoundary c))) ∧
  Completes .chAutorange .chAutorange anyForm (fun c d => d.waits .chAutorange c (d.nextBoundary c))
    (fun c d => .done stOK (le64 (d.nextBoundary c))) ∧
  Completes .chAperture .chAperture anyForm (fun c d => d.waits .chAperture c (d.nextBoundary c))
    (fun c d => .done stOK (le64 (d.nextBoundary c)))) ∧
  (Completes .imZone .imZone anyForm (fun c d => d.waits .imZone c (d.nextBoundary c)) (fun c d => .done stOK (le64 (d.nextBoundary c))) ∧
  Completes .imRail .imRail anyForm (fun c d => d.waits .imRail c (d.nextBoundary c)) (fun c d => .done stOK (le64 (d.nextBoundary c))) ∧
  Completes .calMode .calMode anyForm (fun c d => d.waits .calMode c (d.nextBoundary c)) (fun c d => .done stOK (le64 (d.nextBoundary c))) ∧
  Completes .calCommitDiscard .calCommit (fun c _ => c.opf = 2) (fun c d => d.waits .calCommit c (d.nextBoundary c)) (fun c d => .done stOK
    (le64 (d.nextBoundary c) ++ leF32 (d.chan (d.calLead c)).cal.lastStep ++ [BitVec.ofNat 8 (d.chan (d.calLead c)).cal.lastSet] ++ zeros 3)) ∧
  Completes .mkRoute .mkRoute anyForm (fun c d => d.waits .mkRoute c (d.nextBoundary c)) (fun c d => .done stOK (le64 (d.nextBoundary c))) ∧
  Completes .trigConfig .trigConfig (fun c _ => c.opf = 0) (fun c d => d.waits .trigConfig c (d.nextBoundary c)) (fun _ _ => .done stOK []) ∧
  Completes .monConfig .monConfig anyForm (fun c d => d.waits .monConfig c (d.nextBoundary c)) (fun c d => .done stOK (le64 (d.nextBoundary c))) ∧
  Completes .tsSelect .tsSelect anyForm (fun c d => d.waits .tsSelect c (d.leadBoundary c 2)) (fun c d => .done stOK (le64 (d.leadBoundary c 2))) ∧
  Completes .fltReaction .fltReaction anyForm (fun c d => d.waits .fltReaction c (d.nextBoundary c)) (fun _ _ => .done stOK []) ∧
  Completes .qNotify .qNotify anyForm (fun c d => d.waits .qNotify c (d.nextBoundary c)) (fun _ _ => .done stOK []) ∧
  Completes .fmStop .fmStop (fun c d => (d.chan c.idx).running = true) (fun c d => d.waits .fmStop c (d.nextBoundary c))
    (fun c d => .done stOK (le64 (d.nextBoundary c))) ∧
  Completes .fmStop .fmStop (fun c d => (d.chan c.idx).running = false) (fun _ d => d) (fun _ _ => .done stOK (le64 0)) ∧
  Completes .elPair .elPair (fun c _ => c.opf = 0) (fun c d => d.waits .elPair c (d.nextBoundary c)) (fun c d => .done stOK (le64 (d.nextBoundary c))) ∧
  Completes .elPairSplit .elPair (fun c _ => c.opf = 1) (fun c d => d.waits .elPair c (d.nextBoundary c))
    (fun c d => .done stOK (le64 (d.nextBoundary c))) ∧
  Completes .elPairSwap .elPair (fun c _ => c.opf = 2) (fun c d => d.waits .elPair c (d.nextBoundary c))
    (fun c d => .done stOK (le64 (d.nextBoundary c))) ∧
  Completes .prfInject .prfInject anyForm (fun c d => d.waits .prfInject c (d.nextBoundary c)) (fun c d => .done stOK (le64 (d.nextBoundary c))) ∧
  Completes .prfPerturb .prfPerturb anyForm (fun c d => d.waits .prfPerturb c (d.nextBoundary c)) (fun c d => .done stOK (le64 (d.nextBoundary c))))

/-- What an action that waits for its boundary does there (R60): its own effect, on the device with nothing waiting. CH_SETPOINT, CH_LIMITS,
CH_AUTORANGE, CH_APERTURE, CH_CONFIG's plant section, CH_FUNCTION, CAL_MODE, TS_SELECT, FLT_REACTION, Q_NOTIFY, MK_ROUTE, TRIG_CONFIG,
MON_CONFIG, EL_PAIR, PRF_INJECT and PRF_PERTURB, and the withdrawal of a staged bank. -/
def Obligations.ScheduledActionsTakeEffect : Prop :=
  ∀ (d : Device) (x : Sched) (op : Op) (c : Cmd), d.sched = [x] → x.tick ≤ d.time.tick → x.act = .cmd op c →
    (op = .chSetpoint → (d.chan c.idx).arm ≠ .armed → d.dueActs =
      ({ d with sched := [] } : Device).onChan c.idx fun y => y.setSel (y.selector (c.u8 4)) (c.f32 0)) ∧
    (op = .chSetpoint → (d.chan c.idx).range.setpointHeld = false → d.dueActs =
      (({ d with sched := [] } : Device).onChan c.idx fun y => y.setSel (y.selector (c.u8 4)) (c.f32 0)).askRange c) ∧
    (op = .chLimits → d.dueActs = ({ d with sched := [] } : Device).onChan c.idx fun y =>
      { y with cfg := { y.cfg with vPos := some (c.f32 0), vNeg := some (c.f32 4), iPos := some (c.f32 8), iNeg := some (c.f32 12) } }) ∧
    (op = .chAutorange → c.u8 0 = 1 → d.dueActs = ({ d with sched := [] } : Device).onChan c.idx fun y =>
      { y with range := { y.range with ovEn := bit (c.u8 4) 0, fade := if c.u8 5 = 0 then y.range.fade else c.u8 5, autoI := c.u8 1 == 1,
                                       loI := c.u8 2, hiI := some (c.u8 3), downI := 0 } }) ∧
    (op = .chAutorange → c.u8 0 = 0 → d.dueActs = ({ d with sched := [] } : Device).onChan c.idx fun y =>
      { y with range := { y.range with ovEn := bit (c.u8 4) 0, fade := if c.u8 5 = 0 then y.range.fade else c.u8 5, autoV := c.u8 1 == 1,
                                       loV := c.u8 2, hiV := some (c.u8 3), downV := 0 } }) ∧
    (op = .chAperture → d.dueActs = ({ d with sched := [] } : Device).onChan c.idx fun y =>
      { y with cfg := { y.cfg with apLen := c.u32 0, apSeg := c.u8 4 == 1 }, aper := { y.aper with cut := true } }) ∧
    (op = .chFunction → (d.chan c.idx).arm = .parked → (d.chan c.idx).range.change = none → c.u32 0 ≠ (d.chan c.idx).cfg.func →
      d.dueActs = ({ d with sched := [] } : Device).onChan c.idx fun y =>
        { y with cfg := { y.cfg with func := c.u32 0 }, fnWait := none, aper := { y.aper with cut := true } }) ∧
    (op = .calMode → d.dueActs = ({ d with sched := [] } : Device).onCal c.idx fun k =>
      { k with mode := c.u8 0, fitting := c.u8 1 == 1, group := c.u8 2, k := c.u32 4, limit := c.u32 8 }) ∧
    (op = .tsSelect → c.scope = 1 → d.dueActs = ({ d with sched := [] } : Device).onChan c.idx fun y =>
      { y with cfg := { y.cfg with tset := c.u32 0 } }) ∧
    (op = .tsSelect → c.scope = 0 → d.dueActs = { d with sched := [], edge := { d.edge with devSet := c.u32 0 } }) ∧
    (op = .fltReaction → d.dueActs =
      { d with sched := [], flt := { d.flt with reactions := tabSet (reactionReset (c.u8 0)) d.flt.reactions (c.u8 0) (c.u8 1) } }) ∧
    (op = .qNotify → d.dueActs = ({ d with sched := [] } : Device).onRing (c.u32 0) fun r =>
      { r with npkt := bit (c.u8 4) 0, nwm := bit (c.u8 4) 1, irq := bit (c.u8 4) 2, vector := c.u8 5, watermark := c.u32 8 }) ∧
    (op = .trigConfig → d.dueActs = ({ d with sched := [] } : Device).setPin c.idx
      { d.pin c.idx with actLow := c.u8 0 == 1, edge := c.u8 1, evEn := c.u8 2 == 1, capEn := c.u8 3 == 1, ring := c.u32 4,
                         stuckTime := c.u32 8 }) ∧
    (op = .mkRoute → routeMode (d.pin c.idx).route ≠ 0 → routeMode (c.u32 0) ≠ 1 → routeMode (c.u32 0) ≠ 3 →
      d.dueActs = ({ d with sched := [] } : Device).setPin c.idx { d.pin c.idx with route := c.u32 0, issued := [] }) ∧
    (op = .monConfig → (d.mon c.idx).unsettled = false → d.dueActs = ({ d with sched := [] } : Device).setMon c.idx
      { d.mon c.idx with
        mode := c.u8 0, hyst := c.u8 1, atPeriod := c.u8 2 == 1, blank := c.u8 3, lo := c.u16 4, hi := c.u16 6, period := c.u32 8
        srcChan := if c.u8 12 = 1 then some (c.u16 14) else none, safeNot := c.u8 13 == 1
        evEn := bit (c.u8 16) 0, noticeEn := bit (c.u8 16) 1, wakeEn := bit (c.u8 16) 2, protEn := bit (c.u8 16) 3, protSet := c.protSet }) ∧
    (op = .elPair → c.opf = 0 → (d.dueActs.link c.idx).dual = true ∧ (d.dueActs.link c.idx).active = true ∧
      (d.dueActs.link (c.idx + 1)).dual = true ∧ (d.dueActs.link (c.idx + 1)).active = false ∧ (d.dueActs.chan c.idx).linkAlt = false) ∧
    (op = .elPair → c.opf = 1 → (d.dueActs.link c.idx).dual = false ∧ (d.dueActs.link (c.idx + 1)).dual = false ∧
      (d.dueActs.link c.idx).active = true ∧ (d.dueActs.link (c.idx + 1)).active = true ∧ (d.dueActs.chan c.idx).linkAlt = false) ∧
    (op = .prfInject → d.inProof = true → c.u32 4 ≠ 0 → d.proof.injections = [] →
      d.dueActs = { d with sched := [], proof := { d.proof with
        injections := [{ cls := c.u8 0, bit := c.u8 1, unit := c.u16 2, left := c.u32 4, mask := c.u32 8 }] } }) ∧
    (op = .prfPerturb → d.inProof = true → c.u32 4 ≠ 0 → d.proof.perturbs = [] →
      d.dueActs = { d with sched := [], proof := { d.proof with
        perturbs := [{ kind := c.u8 0, bit := c.u8 1, unit := c.u16 2, amount := c.u32 4, lfsr := 1 }] } }) ∧
    (op = .calCommit → c.scope = 1 → (d.chan c.idx).cal.group = 0 → (d.dueActs.chan c.idx).cal.staged = (d.chan c.idx).cal.active ∧
      (d.dueActs.chan c.idx).cal.withheld = false)

/-- Actions that fall due at one boundary act in the order in which their commands were accepted (R60). -/
def Obligations.DueActionsActInTheirOrder : Prop :=
  ∀ (d : Device) (x y : Sched), x.tick ≤ d.time.tick → y.tick ≤ d.time.tick → x.acc < y.acc →
    (d.sched = [x, y] ∨ d.sched = [y, x]) → d.dueActs = (({ d with sched := [] } : Device).applyAct x.act).applyAct y.act

/-- CH_ARM, CH_PARK, CH_MEASURE, CH_RANGE, CH_STROBE and CH_MIGRATE (R87..R90, R94, R99, R266, R389..R392). CH_ARM puts down frame a and
answers there, or answers at once for a channel that arms or is armed; a hard park takes effect at its boundary, the first cause at
the earliest; a soft park waits for its ramp; CH_RANGE queues a change, or completes at once where the present range is asked for. -/
def Obligations.ChannelCommandsComplete : Prop :=
  Completes .chArm .chArm (fun c d => (d.chan c.idx).arm = .parked ∧ (d.chan c.idx).armReq = none)
    (fun c d => d.setChan c.idx { d.chan c.idx with armReq := some (d.nextBoundary c, c.env) }) (fun _ _ => .later) ∧
  Completes .chArm .chArm (fun c d => ((d.chan c.idx).arm = .arming ∨ (d.chan c.idx).arm = .armed) ∧ d.armMode c.idx = true) (fun _ d => d)
    (fun c d => .done stOK (le64 (d.tickOfFrame (d.chan c.idx).armFrame) ++ le32 (d.chan c.idx).settle)) ∧
  Completes .chArm .chArm (fun c d => (d.chan c.idx).arm = .parked ∧ (d.chan c.idx).armReq.isSome = true) (fun _ d => d)
    (fun c d => .done stOK (le64 (d.nextBoundary c) ++ le32 (d.settleOf c.idx))) ∧
  Completes .chPark .chPark (fun c d => c.scope = 1 ∧ c.opf = 0 ∧ (d.chan c.idx).arm ≠ .parked ∧ (d.chan c.idx).parkPend = none)
    (fun c d => d.setChan c.idx { d.chan c.idx with parkPend := some (1, d.nextBoundary c) }) (fun c d => .done stOK (le64 (d.nextBoundary c))) ∧
  Completes .chPark .chPark (fun c d => c.scope = 1 ∧ c.opf = 0 ∧ (d.chan c.idx).arm = .parked ∧ (d.chan c.idx).armReq = none) (fun _ d => d)
    (fun c d => .done stOK (le64 (d.nextBoundary c))) ∧
  Completes .chPark .chPark (fun c _ => c.scope = 0)
    (fun c d => (d.usedChans.filter fun ch => c.env.fn == 0 || (d.chan ch).owner == c.env.fn).foldl (fun d' ch => d'.park ch 1 (d.nextBoundary c)) d)
    (fun c d => .done stOK (le64 (d.nextBoundary c))) ∧
  Completes .chParkSoft .chPark
    (fun c d => c.scope = 1 ∧ c.opf = 1 ∧ (d.chan c.idx).arm = .armed ∧ fnClosed (d.chan c.idx).cfg.func = true)
    (fun c d => d.setChan c.idx { d.chan c.idx with softReq := some (d.nextBoundary c, c.u32 0) })
    (fun c d => .done stOK (le64 (d.nextBoundary c))) ∧
  Completes .chMeasure .chMeasure anyForm
    (fun c d => d.onChan c.idx fun x => { x with measure := some { env := c.env, k := c.u32 0 } }) (fun _ _ => .interim stACCEPTED []) ∧
  Completes .chStrobe .chStrobe anyForm
    (fun c d => (maskBits (c.u32 0) 16).foldl (fun d' g =>
      if (d'.strobe g).reqs.contains (d.frameOfTick (d.leadBoundary c 2)) then d'
      else d'.setStrobe g { d'.strobe g with reqs := (d'.strobe g).reqs ++ [d.frameOfTick (d.leadBoundary c 2)] }) d)
    (fun c d => .done stOK (le64 (d.leadBoundary c 2))) ∧
  Completes .chMigrate .chMigrate anyForm
    (fun c d => { d with migrations := d.migrations ++ [{ slot := c.u8 0, engine := c.u8 1, env := c.env, passed := false }] })
    (fun _ _ => .later)

/-- CH_RANGE (R99, R102, R391) for each quantity: with the overlap settings taken over and autoranging of the quantity ended, the plan of
the change (its machine m, its length and its deviation bound) is answered ACCEPTED and the change is queued; where nothing would change
(m = 2) and no change is in progress the command completes with its boundary. -/
def Obligations.ChRangeCompletes : Prop :=
  ∀ (x : Desc) (y : Chan) (k m len : Nat) (dev : Rat),
  (Completes .chRange .chRange (fun c d => d.desc? c.idx = some x ∧ c.u8 0 = 0 ∧
      y = { d.chan c.idx with
        range := { (d.chan c.idx).range with
          ovEn := bit (c.u8 2) 0, fade := if c.u8 4 = 0 then (d.chan c.idx).range.fade else c.u8 4, autoV := false } } ∧
      (match (d.chan c.idx).range.change with
        | some g => if g.want.quantity = 0 then g.want.target else (d.chan c.idx).range.v
        | none => (d.chan c.idx).range.v) = k ∧
      y.changePlan x d.time.n 0 k (c.u8 1) = (m, len, dev) ∧ ¬(m = 2 ∧ (d.chan c.idx).range.change.isNone))
    (fun c d => d.setChan c.idx
      { y with
        range := { y.range with
          queued := some { quantity := 0, target := c.u8 1, source := .command, env := some c.env }, bound := ratToF32 dev } })
    (fun _ _ => .interim stACCEPTED (le32 m ++ le32 len ++ leF32 (ratToF32 dev)))) ∧
  (Completes .chRange .chRange (fun c d => d.desc? c.idx = some x ∧ c.u8 0 = 0 ∧
      y = { d.chan c.idx with
        range := { (d.chan c.idx).range with
          ovEn := bit (c.u8 2) 0, fade := if c.u8 4 = 0 then (d.chan c.idx).range.fade else c.u8 4, autoV := false } } ∧
      (match (d.chan c.idx).range.change with
        | some g => if g.want.quantity = 0 then g.want.target else (d.chan c.idx).range.v
        | none => (d.chan c.idx).range.v) = k ∧
      y.changePlan x d.time.n 0 k (c.u8 1) = (m, len, dev) ∧ m = 2 ∧ (d.chan c.idx).range.change.isNone)
    (fun c d => d.setChan c.idx y)
    (fun c d => .both (le32 m ++ le32 len ++ leF32 (ratToF32 dev)) stOK
      (le64 (d.nextBoundary c) ++ le64 (d.nextBoundary c) ++ [BitVec.ofNat 8 (c.u8 1)] ++ zeros 3))) ∧
  (Completes .chRange .chRange (fun c d => d.desc? c.idx = some x ∧ c.u8 0 = 1 ∧
      y = { d.chan c.idx with
        range := { (d.chan c.idx).range with
          ovEn := bit (c.u8 2) 0, fade := if c.u8 4 = 0 then (d.chan c.idx).range.fade else c.u8 4, autoI := false } } ∧
      (match (d.chan c.idx).range.change with
        | some g => if g.want.quantity = 1 then g.want.target else (d.chan c.idx).range.i
        | none => (d.chan c.idx).range.i) = k ∧
      y.changePlan x d.time.n 1 k (c.u8 1) = (m, len, dev) ∧ ¬(m = 2 ∧ (d.chan c.idx).range.change.isNone))
    (fun c d => d.setChan c.idx
      { y with
        range := { y.range with
          queued := some { quantity := 1, target := c.u8 1, source := .command, env := some c.env }, bound := ratToF32 dev } })
    (fun _ _ => .interim stACCEPTED (le32 m ++ le32 len ++ leF32 (ratToF32 dev)))) ∧
  (Completes .chRange .chRange (fun c d => d.desc? c.idx = some x ∧ c.u8 0 = 1 ∧
      y = { d.chan c.idx with
        range := { (d.chan c.idx).range with
          ovEn := bit (c.u8 2) 0, fade := if c.u8 4 = 0 then (d.chan c.idx).range.fade else c.u8 4, autoI := false } } ∧
      (match (d.chan c.idx).range.change with
        | some g => if g.want.quantity = 1 then g.want.target else (d.chan c.idx).range.i
        | none => (d.chan c.idx).range.i) = k ∧
      y.changePlan x d.time.n 1 k (c.u8 1) = (m, len, dev) ∧ m = 2 ∧ (d.chan c.idx).range.change.isNone)
    (fun c d => d.setChan c.idx y)
    (fun c d => .both (le32 m ++ le32 len ++ leF32 (ratToF32 dev)) stOK
      (le64 (d.nextBoundary c) ++ le64 (d.nextBoundary c) ++ [BitVec.ofNat 8 (c.u8 1)] ++ zeros 3)))

/-- FM_LOAD, FM_START, FM_JUMP, FM_RELEASE and FM_STREAM_BIND (R220, R221, R211, R240, R244, R395..R397). FM_LOAD at offset 0 begins the
image anew, else appends; FM_START puts down frame a and its command; FM_JUMP records the request with its target and latch, answered when
its boundary is known; FM_RELEASE of a context that is not LOCKED, HALTED or STOPPED changes nothing. -/
def Obligations.SequencerCommandsComplete : Prop :=
  Completes .fmLoad .fmLoad (fun c _ => c.u32 0 = 0)
    (fun c d => d.onSeq c.idx fun x => { x with state := .loaded, image := c.par.drop 8, total := c.u32 4 })
    (fun c _ => .done stOK (le32 (c.par.drop 8).length)) ∧
  Completes .fmLoad .fmLoad (fun c _ => c.u32 0 ≠ 0)
    (fun c d => d.onSeq c.idx fun x => { x with state := .loaded, image := x.image ++ c.par.drop 8, total := c.u32 4 })
    (fun c d => .done stOK (le32 ((d.chan c.idx).seq.image ++ c.par.drop 8).length)) ∧
  Completes .fmStart .fmStart anyForm
    (fun c d => d.onSeq c.idx fun q => { q with starting := some (d.time.frame + 1, d.frameOfTick (d.nextBoundary c), c.env) })
    (fun _ _ => .later) ∧
  Completes .fmJump .fmJump (fun c d => bit (c.u32 0) 16 = false ∧
      d.jumpPlan c.idx { target := bits (c.u32 0) 15 0, staged := d.stagedWord c.idx (bits (c.u32 0) 15 0), latch := d.latchFrame c.stamp,
                         env := some c.env, answered := false } = none)
    (fun c d => d.onSeq c.idx fun q =>
      { q with
        jump := some { target := bits (c.u32 0) 15 0, staged := d.stagedWord c.idx (bits (c.u32 0) 15 0), latch := d.latchFrame c.stamp,
                       env := some c.env, answered := false } })
    (fun _ _ => .later) ∧
  (∀ b next, Completes .fmJump .fmJump (fun c d => bit (c.u32 0) 16 = true ∧
      d.jumpPlan c.idx { target := imageTarget (d.chan c.idx).seq.image (bits (c.u32 0) 15 0),
                         staged := d.stagedWord c.idx (imageTarget (d.chan c.idx).seq.image (bits (c.u32 0) 15 0)),
                         latch := d.latchFrame c.stamp, env := some c.env, answered := false } = some (b, next))
    (fun c d => d.onSeq c.idx fun q =>
      { q with
        jump := some { target := imageTarget (d.chan c.idx).seq.image (bits (c.u32 0) 15 0)
                       staged := d.stagedWord c.idx (imageTarget (d.chan c.idx).seq.image (bits (c.u32 0) 15 0))
                       latch := d.latchFrame c.stamp, env := some c.env, answered := true } })
    (fun _ d => .done (if next then stOK else stJUMP_DEFERRED) (le64 (d.tickOfFrame b)))) ∧
  Completes .fmRelease .fmRelease (fun c d => (d.chan c.idx).lockedForme = false) (fun _ d => d) (fun _ _ => .done stOK []) ∧
  Completes .fmRelease .fmRelease (fun c d => (d.chan c.idx).lockedForme = true) (fun c d => d.releaseForme c.idx) (fun _ _ => .done stOK []) ∧
  (∀ g, Completes .fmStreamBind .fmStreamBind (fun c d => d.seg? (c.u16 0) = some g ∧ c.u32 4 = 0xFFFFF)
    (fun c d => d.setSeg (c.u16 0) (some { g with chan := none, ring := none, taken := [], inRing := [] })) (fun _ _ => .done stOK [])) ∧
  (∀ g x, Completes .fmStreamBind .fmStreamBind (fun c d => d.seg? (c.u16 0) = some g ∧ c.u32 4 ≠ 0xFFFFF ∧ d.ring? (c.u32 4) = some x)
    (fun c d => d.setSeg (c.u16 0) (some
      { g with chan := some c.idx, ring := some (c.u32 4), taken := [], inRing := [], readPos := x.tailA }))
    (fun _ _ => .done stOK [])) ∧
  (∀ (d : Device) (ch : Nat), ((d.releaseForme ch).chan ch).seq.state = .loaded ∧ ((d.releaseForme ch).chan ch).seq.locks = [] ∧
    ((d.releaseForme ch).chan ch).seq.prestaged = [] ∧
    (d.releaseForme ch).seq.cacheUsed =
      d.seq.cacheUsed - (if (d.chan ch).seq.cache then imageW (d.chan ch).seq.image else 0))

/-- FM_SEGMENT and FM_LOCKUP (R192, R196, R201, R221, R396, R397). Definition holds the blocks of a STORED segment and lists it; writing
stores its lines and completes it once each is written; deletion frees the blocks. Lock-up that succeeds leaves the context LOCKED at
the entry with its counts at 0, its image as it was, and the segments that it names locked. -/
def Obligations.SegmentAndLockupCommandsComplete : Prop :=
  Completes .fmSegmentDefine .fmSegment (fun c _ => c.opf = 0 ∧ c.u8 2 ≠ 0)
    (fun c d => d.setSeg (c.u16 0) (some (segOfRecord c.par c.env.fn []))) (fun _ _ => .done stOK (le32 0)) ∧
  (∀ n, Completes .fmSegmentDefine .fmSegment (fun c _ => c.opf = 0 ∧ c.u8 2 = 0 ∧ n = (c.u32 4 + 1535) / 1536)
    (fun c d => ({ d with mem := { d.mem with spans := d.mem.spans ++ (takeBlocks (d.freeGaps true) n).map fun a => (a, 4096) } } : Device).setSeg
      (c.u16 0) (some (segOfRecord c.par c.env.fn (takeBlocks (d.freeGaps true) n))))
    (fun _ _ => .done stOK (le32 n))) ∧
  (∀ g, Completes .fmSegmentWrite .fmSegment (fun c d => c.opf = 1 ∧ d.seg? (c.u16 0) = some g ∧
      ({ g with written := addInterval (c.u32 4, c.u32 4 + c.lines.length - 1) g.written } : Segment).writtenCount ≠ g.len / 24)
    (fun c d => (d.storeLines g (c.u32 4) c.lines).setSeg (c.u16 0)
      (some { g with written := addInterval (c.u32 4, c.u32 4 + c.lines.length - 1) g.written }))
    (fun c _ => .done stOK (le32 c.lines.length))) ∧
  (∀ g, Completes .fmSegmentWrite .fmSegment (fun c d => c.opf = 1 ∧ d.seg? (c.u16 0) = some g ∧
      ({ g with written := addInterval (c.u32 4, c.u32 4 + c.lines.length - 1) g.written } : Segment).writtenCount = g.len / 24)
    (fun c d => (d.storeLines g (c.u32 4) c.lines).setSeg (c.u16 0)
      (some { g with written := addInterval (c.u32 4, c.u32 4 + c.lines.length - 1) g.written, state := 1 }))
    (fun c _ => .done stOK (le32 c.lines.length))) ∧
  (∀ g, Completes .fmSegmentDelete .fmSegment (fun c d => c.opf = 2 ∧ d.seg? (c.u16 0) = some g)
    (fun c d => ({ d with mem := { d.mem with spans := d.mem.spans.filter fun s => !(s.2 == 4096 && g.blocks.contains s.1) } } : Device).setSeg
      (c.u16 0) none)
    (fun _ _ => .done stOK [])) ∧
  (∀ (s : State) (p : Packet) (r : Ring), s.dev.Accepted .fmLockup p r → s.dev.reg.state ≠ .registered →
    ∃ t, exec (.fmLockup p) s = .next t ∧ t.pending = s.pending ∧
      (t.dev.chan (s.dev.commandOf .fmLockup p r).idx).seq.state = .locked ∧
      (t.dev.chan (s.dev.commandOf .fmLockup p r).idx).seq.image = (s.dev.chan (s.dev.commandOf .fmLockup p r).idx).seq.image ∧
      (t.dev.chan (s.dev.commandOf .fmLockup p r).idx).seq.pc = imageEntry (s.dev.chan (s.dev.commandOf .fmLockup p r).idx).seq.image ∧
      (t.dev.chan (s.dev.commandOf .fmLockup p r).idx).seq.dropped = 0 ∧ (t.dev.chan (s.dev.commandOf .fmLockup p r).idx).seq.stalls = 0 ∧
      t.dev.links = s.dev.links ∧ t.dev.edge = s.dev.edge ∧ t.dev.reg = s.dev.reg ∧ t.dev.mode = s.dev.mode)

/-- Q_CREATE, Q_DESTROY, Q_RESET and Q_BIND (R398, R399, R424, R425, R435). A created ring is empty, of the function, kind, size, place,
addresses and vector asked for, with its storage held; a destroyed one is gone and every other stays; a reset one is empty with its
flags clear, half packets counted, its packets that await an answer counted lost. -/
def Obligations.QueueCommandsComplete : Prop :=
  (∀ q j a, Completes .qCreate .qCreate
    (fun c d => (if c.u32 0 = 0xFFFFF then d.lowestQid else some (c.u32 0)) = some q ∧
      (if c.u8 4 = 6 then some 0x1FFF else if c.u32 16 = 0xFFFFFFFF then d.lowestDoorbell c.env.fn else some (c.u32 16)) = some j ∧
      (if c.u8 6 = 1 then d.poolSpan (4096 * 2 ^ c.u8 5) else d.memSpan (4096 * 2 ^ c.u8 5) true) = some a)
    (fun c d => d.addRing q
      { kind := c.u8 4, size := c.u8 5, pool := c.u8 6 == 1, npkt := decide (1 ≤ c.u8 4 ∧ c.u8 4 ≤ 4) || c.u8 4 == 6, nwm := c.u32 20 ≠ 0
        irq := c.u8 7 ≠ 255, fn := c.env.fn, doorbell := j, vector := c.u8 7, watermark := c.u32 20, hostAddr := c.u64 8, devAddr := a
        peerQ := c.u32 28, peerDev := c.u16 24 })
    (fun c _ => .done stOK (le32 q ++ le32 (if c.u8 4 = 6 then 0xFFFFFFFF else j)))) ∧
  (∀ (d : Device) q r, (d.addRing q r).ring? q = some r ∧
    (d.addRing q r).mem = (if r.pool then { d.mem with poolSpans := d.mem.poolSpans ++ [(r.devAddr, r.z)] }
                           else { d.mem with spans := d.mem.spans ++ [(r.devAddr, r.z)] })) ∧
  Completes .qDestroy .qDestroy anyForm (fun c d => d.removeRing (c.u32 0)) (fun _ _ => .done stOK []) ∧
  (∀ (d : Device) q, (d.removeRing q).ring? q = none ∧
    ∀ k, k ≠ q → (d.removeRing q).ring? k = d.ring? k) ∧
  (∀ x, Completes .qReset .qReset (fun c d => d.ring? (c.u32 0) = some x ∧ x.openPos = x.headA ∧
      (∀ ch, (d.chan ch).captureRing ≠ some (c.u32 0) ∨ (d.chan ch).capture = none) ∧ d.queue.awaiting = [] ∧ d.cmd.held = [])
    (fun c d => (d.setRing (c.u32 0)
        { x with headA := 0, tailA := 0, headB := 0, tailB := 0, packets := 0, openPos := 0, skips := [], nextSeq := 0, lastFolio := none
                 full := false, overrun := false, badptr := false, wmLatch := false, qptr := false, halt := false }).ringPut
      { x with headA := 0, tailA := 0, headB := 0, tailB := 0, packets := 0, openPos := 0, skips := [], nextSeq := 0, lastFolio := none
               full := false, overrun := false, badptr := false, wmLatch := false, qptr := false, halt := false } 0 [0, 0, 0, 0] true)
    (fun _ _ => .done stOK [])) ∧
  (∀ (s : State) (p : Packet) (r : Ring), s.dev.Accepted .qReset p r → s.dev.reg.state ≠ .registered →
    ∃ t, exec (.qReset p) s = .next t ∧ t.pending = s.pending ∧ t.dev.links = s.dev.links ∧ t.dev.edge = s.dev.edge ∧ t.dev.imp = s.dev.imp ∧
      t.dev.queue.awaiting = s.dev.queue.awaiting.filter fun a => a.qid ≠ (s.dev.commandOf .qReset p r).u32 0) ∧
  Completes .qBind .qBind anyForm
    (fun c d => d.onChan c.idx fun x =>
      { x with resultRing := if c.u32 0 = 0xFFFFF then none else some (c.u32 0)
               captureRing := if c.u32 4 = 0xFFFFF then none else some (c.u32 4)
               aper := { x.aper with folio := 0 } })
    (fun _ _ => .done stOK [])

/-- IM_MODEL, IM_SENSOR and IM_POLICY (R283, R290, R299, R305, R307, R310, R341, R401, R402): a channel's load model; a sensor detached,
attached or changed; the maximum deferral of a channel, pairing with the die's thresholds, and a share. -/
def Obligations.ImpositorCommandsComplete : Prop :=
  Completes .imModel .imModel anyForm
    (fun c d => d.setModel c.idx
      { d.model c.idx with
        zone := c.u8 2, rail := c.u8 3, model := c.u8 4, points := c.u8 5, r := c.f32 8, pw := c.f32 12, eta := c.f32 16, etaR := c.f32 20
        pq := c.f32 24, vsup := c.f32 28, ocv := (List.range 16).map fun i => c.f32 (32 + 4 * i) })
    (fun _ _ => .done stOK []) ∧
  Completes .imSensor .imSensor (fun c _ => c.u8 1 = 1)
    (fun c d => d.setZone c.idx
      { d.zone c.idx with sensors := (d.zone c.idx).sensors.filter fun x => !(x.kind == c.u8 0 && x.index == c.u16 2) })
    (fun _ _ => .done stOK []) ∧
  (∀ s : Sensor, Completes .imSensor .imSensor
    (fun c d => c.u8 1 ≠ 1 ∧ ((d.zone c.idx).sensors.any fun x => x.kind == c.u8 0 && x.index == c.u16 2) = false ∧
      s = { kind := c.u8 0, index := c.u16 2, trip := c.f32 12
            offset := if c.u8 0 = 0 then (if c.u8 4 = 1 then some (c.f32 8) else none) else some (c.f32 8) })
    (fun c d => d.setZone c.idx { d.zone c.idx with sensors := (d.zone c.idx).sensors ++ [s] })
    (fun _ _ => .done stOK [])) ∧
  (∀ o : Option F32, Completes .imSensor .imSensor
    (fun c d => c.u8 1 ≠ 1 ∧ ((d.zone c.idx).sensors.any fun x => x.kind == c.u8 0 && x.index == c.u16 2) = true ∧
      o = if c.u8 0 = 0 then (if c.u8 4 = 1 then some (c.f32 8) else none) else some (c.f32 8))
    (fun c d => d.setZone c.idx
      { d.zone c.idx with
        sensors := (d.zone c.idx).sensors.map fun x =>
          if x.kind == c.u8 0 && x.index == c.u16 2 then { x with offset := o, trip := c.f32 12 } else x })
    (fun _ _ => .done stOK [])) ∧
  Completes .imPolicy .imPolicy (fun c _ => c.scope = 1) (fun c d => d.setModel c.idx { d.model c.idx with maxdef := c.f32 0 })
    (fun _ _ => .done stOK []) ∧
  Completes .imPolicy .imPolicy (fun c _ => c.scope = 0)
    (fun c d => { d with imp := { d.imp with
      pairing := c.u8 0 == 1, die := { d.imp.die with warn := c.f32 4, act := c.f32 8, release := c.f32 12 } } })
    (fun _ _ => .done stOK []) ∧
  Completes .imPolicy .imPolicy (fun c _ => c.scope = 3)
    (fun c d => d.setShare c.idx
      { role := c.u8 2, ownerDev := c.u16 4, ownerIdx := c.u8 6
        contrib := (List.range (c.u8 3)).map fun k =>
          match (d.share c.idx).contrib.find? fun x => x.dev == c.u16 (8 + 2 * k) with
          | some x => x
          | none => { dev := c.u16 (8 + 2 * k), at_ := d.time.now } })
    (fun _ _ => .done stOK [])

/-- CAL_COMMIT with and without FORCE, CAL_WRITE and CAL_PERSIST (R136, R140, R144, R404..R406): a commit within the step limit, or a
forced one, waits for its boundary with the step that was tested, and answers there; a commit that an earlier one still waits for
completes that one first; a written set is staged and marked valid; a persist begins. -/
def Obligations.CalibrationCommandsComplete : Prop :=
  (∀ st n past, Completes .calCommit .calCommit
    (fun c d => c.opf = 0 ∧ d.stepTest (d.calTargets c) = (st, n, past) ∧ past = false ∧ (d.chan (d.calLead c)).cal.commit = none)
    (fun c d => d.onCal (d.calLead c) fun k =>
      { k with commit := some { nb := d.nextBoundary c, env := some c.env, interim := false, force := false, step := ratToF32 st, set := n } })
    (fun _ _ => .later)) ∧
  (∀ st n past, Completes .calCommitForce .calCommit
    (fun c d => c.opf = 1 ∧ d.stepTest (d.calTargets c) = (st, n, past) ∧ (d.chan (d.calLead c)).cal.commit = none)
    (fun c d => d.onCal (d.calLead c) fun k =>
      { k with commit := some { nb := d.nextBoundary c, env := some c.env, interim := false, force := true, step := ratToF32 st, set := n } })
    (fun _ _ => .later)) ∧
  (∀ st n past old, Completes .calCommit .calCommit
    (fun c d => c.opf = 0 ∧ d.stepTest (d.calTargets c) = (st, n, past) ∧ past = false ∧ (d.chan (d.calLead c)).cal.commit = some old)
    (fun c d => (d.onCal (d.calLead c) fun k =>
      { k with commit := some { nb := d.nextBoundary c, env := some c.env, interim := false, force := false, step := ratToF32 st, set := n } }).final?
      old.env stOK (le64 (d.nextBoundary c) ++ leF32 old.step ++ [BitVec.ofNat 8 old.set] ++ zeros 3))
    (fun _ _ => .later)) ∧
  (∀ st n past old, Completes .calCommitForce .calCommit
    (fun c d => c.opf = 1 ∧ d.stepTest (d.calTargets c) = (st, n, past) ∧ (d.chan (d.calLead c)).cal.commit = some old)
    (fun c d => (d.onCal (d.calLead c) fun k =>
      { k with commit := some { nb := d.nextBoundary c, env := some c.env, interim := false, force := true, step := ratToF32 st, set := n } }).final?
      old.env stOK (le64 (d.nextBoundary c) ++ leF32 old.step ++ [BitVec.ofNat 8 old.set] ++ zeros 3))
    (fun _ _ => .later)) ∧
  Completes .calWrite .calWrite anyForm
    (fun c d => d.onCal c.idx fun k =>
      { k with staged := { k.staged with valid := setBit k.staged.valid (c.u8 0)
                                         sets := tabSet { g := 0 } k.staged.sets (c.u8 0) (decodeCoef c.par 4) } })
    (fun _ _ => .done stOK []) ∧
  Completes .calPersist .calPersist anyForm
    (fun c d => d.onCal c.idx fun k =>
      { k with persist := some { env := some c.env, boundary := none, bytes := [], slot := 0, seq := 0, offset := 0, sealing := false } })
    (fun _ _ => .interim stACCEPTED [])

/-- TS_WRITE, TRIG_CONFIG with CLEAR and with QUERY, MON_STATUS with and without CLEAR, AXD_WRITE and AXD_STROBE (R255, R264, R265, R268,
R269, R274, R407..R411). -/
def Obligations.EdgeCommandsComplete : Prop :=
  (∀ ls : List Nat, Completes .tsWrite .tsWrite
    (fun c d => ls = (d.links.map (·.1)).filter fun l => d.linkUp l && !(d.changedEntries l [c.u8 0] fun _ => some (d.tsStaged c)).isEmpty)
    (fun c d => ls.foldl (fun d' l => d'.stageOnLink l (d'.changedEntries l [c.u8 0] fun _ => some (d.tsStaged c)))
      { d with edge := { d.edge with write := some { set := c.u8 0, staged := d.tsStaged c, links := ls, affected := ls, env := c.env } } })
    (fun _ _ => .interim stACCEPTED [])) ∧
  Completes .trigConfigClear .trigConfig (fun c _ => c.opf = 1)
    (fun c d => d.setPin c.idx { d.pin c.idx with stuck := false, unmaskPend := true }) (fun _ _ => .done stOK []) ∧
  Completes .trigConfigQuery .trigConfig (fun c _ => c.opf = 2)
    (fun c d => d.setPin c.idx { d.pin c.idx with chatterQ := 0 })
    (fun c d => .done stOK (le32 (d.pin c.idx).word ++ le32 (d.pin c.idx).excess ++ le32 (d.pin c.idx).lost)) ∧
  Completes .monStatus .monStatus (fun c _ => c.opf = 0) (fun c d => d.setMon c.idx { d.mon c.idx with trips := 0 })
    (fun c d => .done stOK (le32 (d.mon c.idx).word ++ zeros 4 ++ le64 (d.mon c.idx).first ++ le64 (d.mon c.idx).last)) ∧
  Completes .monStatusClear .monStatus (fun c _ => c.opf = 1)
    (fun c d => d.setMon c.idx
      { d.mon c.idx with trips := 0, rise := false, fall := false, blanked := false, prot := false, first := 0, last := 0, clearPend := true })
    (fun c d => .done stOK (le32 (d.mon c.idx).word ++ zeros 4 ++ le64 (d.mon c.idx).first ++ le64 (d.mon c.idx).last)) ∧
  Completes .axdWrite .axdWrite anyForm
    (fun c d => (maskBits (c.u16 0) 16).foldl (fun d' a => d'.setAxd a
      { d'.axd a with staged := some (c.u32 4, c.frame + 2), group := if bit (c.u8 2) 0 then c.u8 3 else (d'.axd a).group
                      bind := if bit (c.u8 2) 1 then c.u16 8 else (d'.axd a).bind }) d)
    (fun _ _ => .done stOK []) ∧
  Completes .axdStrobe .axdStrobe anyForm
    (fun c d => (maskBits (c.u32 0) 16).foldl (fun d' a => d'.setAxd a
      { d'.axd a with strobes := (d'.axd a).strobes ++ [d'.frameOfTick (d.leadBoundary c 2)] }) d)
    (fun c d => .done stOK (le64 (d.leadBoundary c 2)))

/-- REG_JOIN, REG_SKEW and REG_ARM_AT (R327, R331, R339, R409, R410): the join record is in force from its acceptance, as JOINING with its
completion owed; a member with no port up has no ID, no parent and path 63, the timekeeper has ID 0; leaving clears the registration and
returns to a local epoch, answering with the ID and the time of registration; trims and Λ; an arm slot loaded or cancelled. -/
def Obligations.RegistrationCommandsComplete : Prop :=
  (∀ (s : State) (p : Packet) (r : Ring), s.dev.Accepted .regJoin p r → s.dev.reg.state ≠ .registered →
    (s.dev.commandOf .regJoin p r).u8 0 = 0 → (∀ k ∈ [0, 1, 2, 3, 4, 5], (s.dev.port k).up = false) →
    ∃ t, exec (.regJoinMember p) s = .next t ∧ t.pending = s.pending ∧ t.dev.body =
      ({ s.dev.takenBy .regJoin p r with
        reg := { s.dev.reg with
          state := .joining, timekeeper := false, generate := bit ((s.dev.commandOf .regJoin p r).u8 1) 0
          deputy := bit ((s.dev.commandOf .regJoin p r).u8 1) 1, autoRejoin := bit ((s.dev.commandOf .regJoin p r).u8 1) 2
          n := (s.dev.commandOf .regJoin p r).u8 2, m := (s.dev.commandOf .regJoin p r).u8 3
          nExpected := (s.dev.commandOf .regJoin p r).u32 4, e := (s.dev.commandOf .regJoin p r).u8 8
          lambda := (s.dev.commandOf .regJoin p r).u8 9, id := none, tkId := none, nMismatch := false, markMiss := false, markBad := false
          cabling := false, candidate := 0, env := some (s.dev.commandOf .regJoin p r).env
          joinedAt := (s.dev.commandOf .regJoin p r).stamp, parent := none, path := 63, better := none, edgeAt := none, markAt := none
          neighborSince := none } } : Device).body) ∧
  (∀ (s : State) (p : Packet) (r : Ring), s.dev.Accepted .regJoin p r → s.dev.reg.state ≠ .registered →
    (s.dev.commandOf .regJoin p r).u8 0 = 1 →
    ∃ t, exec (.regJoinTimekeeper p) s = .next t ∧ t.pending = s.pending ∧ t.dev.body =
      ({ s.dev.takenBy .regJoin p r with
        reg := { s.dev.reg with
          state := .joining, timekeeper := true, generate := bit ((s.dev.commandOf .regJoin p r).u8 1) 0
          deputy := bit ((s.dev.commandOf .regJoin p r).u8 1) 1, autoRejoin := bit ((s.dev.commandOf .regJoin p r).u8 1) 2
          n := (s.dev.commandOf .regJoin p r).u8 2, m := (s.dev.commandOf .regJoin p r).u8 3
          nExpected := (s.dev.commandOf .regJoin p r).u32 4, e := (s.dev.commandOf .regJoin p r).u8 8
          lambda := (s.dev.commandOf .regJoin p r).u8 9, id := some 0, tkId := none, nMismatch := false, markMiss := false, markBad := false
          cabling := false, candidate := 0, env := some (s.dev.commandOf .regJoin p r).env
          joinedAt := (s.dev.commandOf .regJoin p r).stamp, parent := none, path := 63, better := none, edgeAt := none, markAt := none
          neighborSince := none } } : Device).body) ∧
  (∀ (s : State) (p : Packet) (r : Ring), s.dev.Accepted .regJoin p r → s.dev.reg.state ≠ .registered →
    (s.dev.commandOf .regJoin p r).u8 0 = 2 →
    ∃ t, exec (.regJoinLeave p) s = .next t ∧ t.pending = s.pending ∧ t.dev.body =
      ({ s.dev.takenBy .regJoin p r with
        reg := { s.dev.reg with
          state := .unjoined, timekeeper := false, id := none, tkId := none, env := none, candidate := 0, parent := none, path := 63
          better := none, edgeAt := none, markAt := none, neighborSince := none, autoRejoin := false }
        time := { (s.dev.takenBy .regJoin p r).time with localTime := true } } : Device).body) ∧
  Completes .regSkew .regSkew anyForm
    (fun c d => { [0, 1, 2, 3, 4, 5].foldl (fun d' k => d'.setPort k { d'.port k with trim := toSigned 32 (c.u32 (4 + 4 * k)) }) d with
      reg := { ([0, 1, 2, 3, 4, 5].foldl (fun d' k => d'.setPort k { d'.port k with trim := toSigned 32 (c.u32 (4 + 4 * k)) }) d).reg with
        lambda := c.u8 0 } })
    (fun _ _ => .done stOK []) ∧
  Completes .regArmAt .regArmAt (fun c _ => bit (c.u8 12) 2 = false ∧ bit (c.u8 12) 3 = false)
    (fun c d => { d with arms := tabSet none d.arms c.idx (some
      { d := d.boundaryAt (c.frame + 1) (max (c.u64 0) c.nb), mask := c.u32 8, release := bit (c.u8 12) 0, event := bit (c.u8 12) 1 }) })
    (fun c d => .done stOK (le64 (d.boundaryAt (c.frame + 1) (max (c.u64 0) c.nb)))) ∧
  Completes .regArmAt .regArmAt (fun c _ => bit (c.u8 12) 2 = false ∧ bit (c.u8 12) 3 = true)
    (fun c d => { d with arms := tabSet none d.arms c.idx none }) (fun _ _ => .done stOK (le64 0)) ∧
  (∀ b, Completes .regArmAt .regArmAt (fun c d => bit (c.u8 12) 2 = true ∧ bit (c.u8 12) 3 = false ∧
      b = d.boundaryAt (c.frame + 1) (max (c.u64 0) c.nb))
    (fun c d => ({ d with arms := tabSet none d.arms c.idx (some
        { d := b, mask := c.u32 8, release := bit (c.u8 12) 0, event := bit (c.u8 12) 1 }) } : Device).broadcast ctARM
      [16 * c.u64 0 % stampMod, c.idx + c.u32 8 * 2 ^ 4 + flag (bit (c.u8 12) 0) 20 + flag (bit (c.u8 12) 1) 21, 0])
    (fun _ _ => .done stOK (le64 b))) ∧
  Completes .regArmAt .regArmAt (fun c _ => bit (c.u8 12) 2 = true ∧ bit (c.u8 12) 3 = true)
    (fun c d => ({ d with arms := tabSet none d.arms c.idx none } : Device).broadcast ctARM
      [16 * c.u64 0 % stampMod, c.idx + c.u32 8 * 2 ^ 4 + flag (bit (c.u8 12) 0) 20 + flag (bit (c.u8 12) 1) 21 + 2 ^ 22, 0])
    (fun _ _ => .done stOK (le64 0))

/-- FLT_CLEAR with no cause of the mask holding (R412, R477): the mask's bits and SHADOW flags clear with their events and error words, and
the answer carries PF_WORD as it then stands.
The memory commands (R416, R417, R446..R466): a delay block written and masked; a scan, a change of the data rate, a retirement, a
rebuild and a row copy begun; bytes read and written. MEM_WRITE stores exactly the packet's data at the address. -/
def Obligations.FaultAndMemoryCommandsComplete : Prop :=
  (Completes .fltClear .fltClear anyForm
    (fun c d => { d with flt := { d.flt with
      pf := (List.range 64).foldl (fun w b => if bit (c.u64 0) b then clrBit w b else w) d.flt.pf
      events := d.flt.events.filter fun e => !bit (c.u64 0) e.bit
      earliest := earliestOf (d.flt.events.filter fun e => !bit (c.u64 0) e.bit)
      shadowFlags := (List.range 64).foldl (fun w b => if bit (c.u64 0) b then clrBit w b else w) d.flt.shadowFlags
      words := d.flt.words.filter fun w => !bit (c.u64 0) (errBitOf w.1) } })
    (fun c d => .done stOK (le64 ((List.range 64).foldl (fun w b => if bit (c.u64 0) b then clrBit w b else w) d.flt.pf)))) ∧
  (Completes .memDelaysWrite .memDelays (fun c _ => c.opf = 1)
    (fun c d => d.setMemDev (c.u8 0) { d.memDev (c.u8 0) with block := (c.par.drop 4).take 16 ++ (maskLanes (c.par.drop 4)).drop 16 })
    (fun _ _ => .done stOK []) ∧
  Completes .memScan .memScan (fun c _ => c.u32 0 ≠ 0) (fun c d => d.startScan 1 (c.u32 0) (some c.env)) (fun _ _ => .interim stACCEPTED []) ∧
  Completes .memScan .memScan (fun c _ => c.u32 0 = 0) (fun _ d => d)
    (fun _ d => .both [] stOK ([2, 2, 2, 2, 2] ++ zeros 3 ++ leF32 (rateF32 d.mem.rate))) ∧
  (∀ (d : Device) (k mask : Nat) (e : Option Env), (d.startScan k mask e).mem.jobs = d.mem.jobs ++
    [{ purpose := k, mask := mask, left := mask, results := [2, 2, 2, 2, 2], rate := d.mem.rate, env := e }]) ∧
  Completes .memFreq .memFreq (fun _ d => d.mem.jobs = [])
    (fun c d => ({ d with mem := { d.mem with freq := some { rate := (freqOf c).getD 32, running := false, env := c.env } } } : Device).startFreq)
    (fun _ _ => .interim stACCEPTED []) ∧
  Completes .memFreq .memFreq (fun _ d => d.mem.jobs ≠ [])
    (fun c d => { d with mem := { d.mem with freq := some { rate := (freqOf c).getD 32, running := false, env := c.env } } })
    (fun _ _ => .interim stBUSY_TRAINING []) ∧
  (∀ (d : Device) (f : FreqJob), d.mem.jobs = [] → d.mem.freq = some f → f.running = false →
    d.startFreq.mem.rate = f.rate ∧ d.startFreq.mem.freq = some { f with running := true }) ∧
  Completes .memRetireDevice .memRetire (fun c _ => c.u8 0 = 0) (fun c d => d.retire (c.u8 1) 8) (fun _ _ => .done stOK []) ∧
  (∀ (d : Device) (m k : Nat), ((d.retire m k).memDev m).state = .retired) ∧
  Completes .memRestore .memRetire (fun c _ => c.u8 0 = 1)
    (fun c d => ({ d with mem := { d.mem with restores := d.mem.restores ++ [(c.u8 1, some c.env)] } } : Device).startScan 2 (2 ^ c.u8 1) none)
    (fun _ _ => .interim stACCEPTED []) ∧
  Completes .memRetireRow .memRetire (fun c _ => c.u8 0 = 2)
    (fun c d => d.setMemDev (c.u8 1)
      { d.memDev (c.u8 1) with
        copies := (d.memDev (c.u8 1)).copies ++ [{ bank := c.u16 2, row := c.u32 4, spare := 32752 + (d.memDev (c.u8 1)).sparesUsed (c.u16 2)
                                                   started := !((d.memDev (c.u8 1)).copies.any fun x => x.bank == c.u16 2) }]
        banks := tabSet {} (d.memDev (c.u8 1)).banks (c.u16 2) { tabGet {} (d.memDev (c.u8 1)).banks (c.u16 2) with inOrder := true } })
    (fun c d => .done stOK (le32 (16 - ((d.memDev (c.u8 1)).sparesUsed (c.u16 2) + 1)))) ∧
  Completes .memRead .memRead (fun c d => ((stripesOf (c.u64 0) (c.u32 8)).any fun k => d.mem.poisoned.contains k) = false)
    (fun c d => (stripesOf (c.u64 0) (c.u32 8)).foldl (fun d' k => d'.touchStripe k) d)
    (fun c d => .done stOK (cellsRead d.store.mem (c.u64 0) (c.u32 8))) ∧
  Completes .memWrite .memWrite anyForm
    (fun c d => (stripesOf (c.u64 0) (c.par.drop 8).length).foldl
      (fun d' k => (d'.touchStripe k).combine (c.u64 0) (c.par.drop 8).length k)
      { d with store := { d.store with mem := cellsWrite d.store.mem (c.u64 0) (c.par.drop 8) } })
    (fun _ _ => .done stOK []))

/-- LC_ADVANCE, UPD_STAGE, UPD_SWITCH, RET_RECORD, PRF_ENTER and PRF_EXIT (R418, R419, R420, R421, R517..R519, R526): a lifecycle change, UPDATE
and PROOF wait for their boundary; a chunk of an image is staged in the other bank and counted, the last one's authentication is owed; the
return record goes to its ring and its length and CRC-32 are owed. -/
def Obligations.LifecycleCommandsComplete : Prop :=
  Completes .lcAdvance .lcAdvance anyForm
    (fun c d => { d with mode := { d.mode with pending := d.mode.pending ++ [(d.nextBoundary c, c.acc, .wipe (c.u8 0))] } })
    (fun c d => .done stOK (le64 (d.nextBoundary c))) ∧
  Completes .updSwitch .updSwitch anyForm
    (fun c d => { d with update := { d.update with switchEnv := some c.env, persist := bit (c.u8 0) 0 }
                         mode := { d.mode with pending := d.mode.pending ++ [(d.nextBoundary c, c.acc, .update)] } })
    (fun _ _ => .interim stACCEPTED []) ∧
  (∀ (old : List Byte) (total : Nat), Completes .updStage .updStage
    (fun c d => ((c.u32 0 = 0 ∧ old = [] ∧ total = c.u32 4) ∨
        (c.u32 0 ≠ 0 ∧ ∃ u, d.update.upload = some u ∧ old = u.bytes ∧ total = u.total)) ∧ (old ++ c.par.drop 8).length < total)
    (fun c d => { d with mode := if c.u32 0 = 0 then { d.mode with updStaged := false } else d.mode
                         flash := { d.flash with
                           banks := if byteAt (old ++ c.par.drop 8) 4 = 1 then d.flash.banks
                                    else tabSet {} d.flash.banks (1 - d.press.bank) { image := old ++ c.par.drop 8 } }
                         update := { d.update with upload := some { total := total, bytes := old ++ c.par.drop 8 } } })
    (fun c _ => .done stOK (le32 (old ++ c.par.drop 8).length))) ∧
  (∀ (old : List Byte) (total : Nat), Completes .updStage .updStage
    (fun c d => ((c.u32 0 = 0 ∧ old = [] ∧ total = c.u32 4) ∨
        (c.u32 0 ≠ 0 ∧ ∃ u, d.update.upload = some u ∧ old = u.bytes ∧ total = u.total)) ∧ total ≤ (old ++ c.par.drop 8).length)
    (fun c d => { d with mode := if c.u32 0 = 0 then { d.mode with updStaged := false } else d.mode
                         flash := { d.flash with
                           banks := if byteAt (old ++ c.par.drop 8) 4 = 1 then d.flash.banks
                                    else tabSet {} d.flash.banks (1 - d.press.bank) { image := old ++ c.par.drop 8 } }
                         update := { d.update with upload := some { total := total, bytes := old ++ c.par.drop 8 }
                                                   completing := some c.env, isConfig := byteAt (old ++ c.par.drop 8) 4 == 1 } })
    (fun _ _ => .interim stACCEPTED [])) ∧
  Completes .retRecord .retRecord anyForm
    (fun c d => { d.returnBodies.foldl (fun d' b => (d'.produce (c.u32 0) b 1 true).1) d with
      ret := some { ring := c.u32 0, env := c.env, len := d.returnBodies.foldl (fun n b => n + b.length) 0, crc := crc32 d.returnBodies.flatten } })
    (fun _ _ => .interim stACCEPTED []) ∧
  Completes .prfEnter .prfEnter anyForm
    (fun c d => { d with mode := { d.mode with
      pending := d.mode.pending ++ [(d.nextBoundary c, c.acc, .proofEnter (prfEngines c) (prfChannels c) (prfLinks c))] } })
    (fun c d => .done stOK (le64 (d.nextBoundary c))) ∧
  Completes .prfExit .prfExit anyForm
    (fun c d => { d with mode := { d.mode with pending := d.mode.pending ++ [(d.nextBoundary c, c.acc, .proofExit)] } })
    (fun c d => .done stOK (le64 (d.nextBoundary c)))

/-- EL_SKEW of a link that is not UP with round trips measured, EL_RESET's DISABLE and ENABLE (R176, R180, R182, R422): the trim; a disabled
link is DISABLED, with nothing outstanding; an enabled one searches anew, and stays as it is in any other state.
A packet with ASSIGN (R349, R350) whose checks pass gives the resource that its target names to the function named, at its after-reset
settings: a zone, a rail, an MK pin, a strobe group, an auxiliary DAC, a comparator; a channel, parked, with no forme; and the ring quota. -/
def Obligations.LinkAndAssignCommandsComplete : Prop :=
  (Completes .elSkew .elSkew (fun c d => (d.link c.idx).state ≠ .up ∧ (d.link c.idx).rts ≠ [])
    (fun c d => d.setLink c.idx { d.link c.idx with trim := toSigned 32 (c.u32 0) })
    (fun c d => .done stOK (leF32 (ratToF32 ((({ d.link c.idx with trim := toSigned 32 (c.u32 0) } : Link).rtf - 50688 / 100) / 2)) ++
      leF32 (ratToF32 ({ d.link c.idx with trim := toSigned 32 (c.u32 0) } : Link).rtf) ++ leF32 (ratToF32 (d.link c.idx).tu))) ∧
  (∀ (s : State) (p : Packet) (r : Ring), s.dev.Accepted .elSkew p r → s.dev.reg.state ≠ .registered →
    ∃ t, exec (.elSkew p) s = .next t ∧ t.pending = s.pending ∧
      (t.dev.link (s.dev.commandOf .elSkew p r).idx).trim = toSigned 32 ((s.dev.commandOf .elSkew p r).u32 0) ∧ t.dev.chans = s.dev.chans ∧
      t.dev.imp = s.dev.imp ∧ t.dev.seq = s.dev.seq ∧ t.dev.edge = s.dev.edge ∧ t.dev.mode = s.dev.mode) ∧
  Completes .elResetDisable .elReset (fun c d => c.opf = 1 ∧ (d.link c.idx).state ≠ .up ∧ d.edge.write = none)
    (fun c d => d.setLink c.idx
      { (d.link c.idx).quiet with state := .disabled, pages := [], hdrs := [], missRun := 0, missAt := [], validRun := 0, rts := [], held := false
                                  up := none, table := [], cfgPairs := 0 })
    (fun _ _ => .done stOK []) ∧
  (∀ (s : State) (p : Packet) (r : Ring), s.dev.Accepted .elReset p r → s.dev.reg.state ≠ .registered →
    (s.dev.commandOf .elReset p r).opf = 1 →
    ∃ t, exec (.elResetDisable p) s = .next t ∧ t.pending = s.pending ∧ (t.dev.link (s.dev.commandOf .elReset p r).idx).state = .disabled) ∧
  Completes .elResetEnable .elReset (fun c d => c.opf = 2 ∧ ((d.link c.idx).state = .disabled ∨ (d.link c.idx).state = .refused))
    (fun c d => d.setLink c.idx
      { (d.link c.idx).quiet with state := .search, pages := [], rts := [], missRun := 0, missAt := [], validRun := 0, refuse := 0 })
    (fun _ _ => .done stOK []) ∧
  Completes .elResetEnable .elReset (fun c d => c.opf = 2 ∧ (d.link c.idx).state ≠ .disabled ∧ (d.link c.idx).state ≠ .refused) (fun _ d => d)
    (fun _ _ => .done stOK [])) ∧
  (∀ (s : State) (p : Packet) (r : Ring) (op : Op), opOfCode (Packet.opcode p.body) = some op → s.dev.AssignAccepted op p r →
    s.dev.reg.state ≠ .registered →
    ∃ t, exec (.assign p) s = .next t ∧ t.pending = s.pending ∧ t.dev.mode = s.dev.mode ∧ t.dev.links = s.dev.links ∧
      (op = .imZone → t.dev.zone (s.dev.commandOf op p r).idx = { owner := (s.dev.commandOf op p r).u32 0 }) ∧
      (op = .imRail → t.dev.rail ((s.dev.commandOf op p r).idx - 256) = { owner := (s.dev.commandOf op p r).u32 0 }) ∧
      (op = .mkRoute → t.dev.pin (s.dev.commandOf op p r).idx = { owner := (s.dev.commandOf op p r).u32 0 }) ∧
      (op = .chStrobe → t.dev.strobe (s.dev.commandOf op p r).idx =
        { always := (s.dev.commandOf op p r).idx == 0, owner := (s.dev.commandOf op p r).u32 0 }) ∧
      (op = .axdWrite → (t.dev.axd (s.dev.commandOf op p r).idx).owner = (s.dev.commandOf op p r).u32 0) ∧
      (op = .monConfig → t.dev.mon (s.dev.commandOf op p r).idx = { owner := (s.dev.commandOf op p r).u32 0 }) ∧
      (op = .chConfig → (t.dev.chan (s.dev.commandOf op p r).idx).owner = (s.dev.commandOf op p r).u32 0 ∧
        (t.dev.chan (s.dev.commandOf op p r).idx).cfg = {} ∧ (t.dev.chan (s.dev.commandOf op p r).idx).seq = {} ∧
        (t.dev.chan (s.dev.commandOf op p r).idx).loop = (s.dev.chan (s.dev.commandOf op p r).idx).loop) ∧
      (op = .qCreate → (t.dev.fn ((s.dev.commandOf op p r).u32 0)).quota = some ((s.dev.commandOf op p r).u32 4)))

/-! ### Power, resets and readiness -/

/-- POWER_LOSS keeps OTP and flash alone (R35); POWER_ON brings the always-on domain and HELD; a reset or a power-good input that falls
brings HELD from every mode but OFF, stops the ticks and the links, drops what the command unit holds and releases FAULT_N (R35, R354, R501);
the release is cold where PORST_N or a power-good input was low and warm otherwise, and leads to BRING-UP with what the reset keeps
(R502, R503). -/
def Obligations.PowerAndResetEventsAct : Prop :=
  (∀ s t, Yields (.powerLoss t) s fun d =>
    d = { otp := s.dev.otp, freeCtr := s.dev.freeCtr, flash := { s.dev.flash with busy := false, erases := [], unknown := s.dev.flash.unknown ++ (s.dev.flash.erases.filter (·.running)).map (·.sector) } }) ∧
  (∀ s (b : BitVec 2), s.dev.mode.phase = .off → Yields (.powerOn b) s fun d =>
    d = { otp := s.dev.otp, flash := s.dev.flash, freeCtr := s.dev.freeCtr, mode := { phase := .held }
          aon := { vddAon := true, bootSel := b.toNat, coldSeen := true } }) ∧
  (∀ s i t, (i = .porstNAssert t ∨ i = .warmRstNAssert t ∨ ∃ pg, i = .pgFall pg t) → s.dev.running = true → Yields i s fun d =>
    d.mode.phase = .held ∧ d.time.running = false ∧ d.cmd = {} ∧ d.fast = [] ∧ d.sched = [] ∧ d.mode.pending = [] ∧
    (∀ l, (d.link l).state = .disabled) ∧ d.settle.pins.faultN = false ∧ d.settle.pins.evtN = false ∧
    (d.aon.coldSeen = true ↔ s.dev.aon.coldSeen = true ∨ ¬ ∃ u, i = .warmRstNAssert u) ∧
    d.otp = s.dev.otp ∧ d.flash = s.dev.flash ∧ d.chans = s.dev.chans ∧ d.mem = s.dev.mem ∧ d.store = s.dev.store ∧
    d.queue = s.dev.queue ∧ d.fns = s.dev.fns ∧ d.reg = s.dev.reg ∧ d.imp = s.dev.imp ∧ d.flt.pf = s.dev.flt.pf) ∧
  (∀ s t pg, s.dev.running = true → Yields (.pgFall pg t) s fun d => d.aon.pg = clrBit s.dev.aon.pg pg.val ∧ d.aon.porstHigh = s.dev.aon.porstHigh) ∧
  (∀ s (b : BitVec 2), s.dev.mode.phase = .held → Yields (.heldRelease b) s fun d =>
    d.mode.phase = .bringUp ∧ d.mode.word = 0x00200002 + s.dev.otp.lc * 256 ∧ d.ready = { blk := 1 } ∧ d.aon.bootSel = b.toNat ∧
    d.aon.coldSeen = false ∧ d.aon.force = false ∧ d.otp = s.dev.otp ∧ d.flash.journal = s.dev.flash.journal ∧ d.flash.banks = s.dev.flash.banks ∧
    d.flash.configs = s.dev.flash.configs ∧ d.chans = [] ∧ d.fns = [] ∧ d.queue = {} ∧ d.store = {} ∧ d.cmd = {} ∧ d.seq = {} ∧ d.sched = [] ∧
    d.flt.pf = 0 ∧ d.flt.events = [] ∧ d.imp.zones = [] ∧ d.imp.rails = [] ∧
    d.time = { n := if s.dev.aon.coldSeen then 100 else s.dev.time.n } ∧
    d.mem.rate = (if s.dev.aon.coldSeen then s.dev.flash.coldRate else s.dev.mem.rate) ∧
    d.flt.reactions = (if s.dev.aon.coldSeen then [] else s.dev.flt.reactions) ∧
    d.aon.smbAddr = (if s.dev.aon.coldSeen then 0x4C else s.dev.aon.smbAddr) ∧
    d.aon.snapshot = (if s.dev.aon.coldSeen then none else some s.dev.flt.pf) ∧
    d.reg.state = .unjoined ∧ d.reg.lambda = (if s.dev.aon.coldSeen then 0 else s.dev.reg.lambda) ∧
    (s.dev.aon.coldSeen = false → (s.dev.links.map (·.1)).Nodup → ∀ l, (d.link l).trim = (s.dev.link l).trim))

/-- A block, an engine or a Case memory region that becomes able to serve sets its ready bit at the next frame boundary and not before (R508); an
engine that fails is held faulty with its bit raised, CHECK 0xA (R484), a Case memory region that fails raises bit 47, the Press bit 63
(R513), and a standby pair that fails leaves PRESS_ALT (R485). REGION_WIPE_COMPLETE zeroes its region and sets its ready bit in order
(R459, R468), and DELAY_SCAN_COMPLETE gives the device a valid block with which a training device enters service (R459). -/
def Obligations.ReadinessEventsSetTheirBits : Prop :=
  (∀ s (b : Fin 22), s.dev.cmd.held = [] → s.dev.running = true → (b.val = bPCIE → s.dev.aon.perstHigh = true) →
    YieldsCells (.blockReady (.blk b) true) s fun d =>
      d.ready.blkNext = setBit s.dev.ready.blkNext b.val ∧ d.ready.blk = s.dev.ready.blk ∧ d.ready.eng = s.dev.ready.eng ∧
      (b.val = bTIMEBASE → d.time.running = true) ∧ (b.val = bPRESS → d.press.active = true) ∧
      (b.val = bAXD → ∀ a, a < 16 → (d.axd a).out = some 0x20000)) ∧
  (∀ s (e : Fin 72), s.dev.cmd.held = [] → s.dev.running = true → YieldsCells (.blockReady (.engine e) true) s fun d =>
    d.ready.engNext = setBit s.dev.ready.engNext e.val ∧ d.ready.eng = s.dev.ready.eng ∧ (d.engine e.val).faulty = false) ∧
  (∀ s (e : Fin 72), s.dev.cmd.held = [] → s.dev.running = true → s.dev.resets = [] → YieldsCells (.blockReady (.engine e) false) s fun d =>
    (d.engine e.val).faulty = true ∧ d.ready = s.dev.ready ∧ s.dev.Records d (e.val / 8) (e.val % 8) 10 s.dev.time.now) ∧
  (∀ s (r : Fin 8), s.dev.cmd.held = [] → s.dev.running = true →
    YieldsCells (.blockReady (.caseRegion r) true) s (fun d => d = { s.dev with ready := { s.dev.ready with caseNext := setBit s.dev.ready.caseNext r.val } }) ∧
    YieldsCells (.blockReady (.caseRegion r) false) s (fun d =>
      d.ready = { s.dev.ready with caseBad := setBit s.dev.ready.caseBad r.val } ∧ s.dev.Records d 47 0 1 s.dev.time.now)) ∧
  (∀ s, s.dev.cmd.held = [] → s.dev.running = true → YieldsCells (.blockReady (.blk 16) false) s fun d => s.dev.Records d 63 0 10 s.dev.time.now) ∧
  (∀ s, s.dev.cmd.held = [] → s.dev.running = true → s.dev.resets = [] → YieldsCells (.blockReady (.blk 17) false) s fun d =>
    d = { s.dev with press := { s.dev.press with standbyOut := true, standbyReady := false, alt := true } }) ∧
  (∀ s (b : Fin 22), s.dev.cmd.held = [] → s.dev.running = true → b.val ≠ 16 → b.val ≠ 17 →
    YieldsCells (.blockReady (.blk b) false) s fun d => d = s.dev) ∧
  (∀ s (r : Fin 64), s.dev.cmd.held = [] → s.dev.mem.outOfService = false → s.dev.blk bMEMCTL = true → s.dev.mode.phase = .bringUp →
    (r.val = 0 ∨ bit (s.dev.ready.region ||| s.dev.ready.regionNext) (r.val - 1) = true) → YieldsCells (.regionWipeComplete r) s fun d =>
      d.ready = { s.dev.ready with regionNext := setBit s.dev.ready.regionNext r.val } ∧
      (∀ a, a / 2 ^ 28 = r.val → cellGet d.store.mem a = 0) ∧ (∀ a, a / 2 ^ 28 ≠ r.val → cellGet d.store.mem a = cellGet s.dev.store.mem a) ∧
      d.chans = s.dev.chans ∧ d.queue = s.dev.queue) ∧
  (∀ s (m : Fin 5) b, s.dev.cmd.held = [] → s.dev.running = true → (s.dev.memDev m.val).state = .training → (s.dev.memDev m.val).scanning = none →
    s.dev.mem.freq = none → s.dev.mem.jobs = [] → s.dev.mem.restores = [] →
    YieldsCells (.delayScanComplete m (some b)) s fun d =>
      (d.memDev m.val).state = .inService ∧ (d.memDev m.val).block = scanBlock b s.dev.mem.rate s.dev.time.now ∧
      (∀ k, k ≠ m.val → d.memDev k = s.dev.memDev k)) ∧
  (∀ s (m : Fin 5), s.dev.cmd.held = [] → s.dev.running = true → (s.dev.memDev m.val).state = .training → (s.dev.memDev m.val).scanning = none →
    s.dev.mem.freq = none → s.dev.mem.jobs = [] → s.dev.mem.restores = [] →
    (∀ k, k ≠ m.val → (s.dev.memDev k).state ≠ .retired ∧ (s.dev.memDev k).state ≠ .rebuilding) →
    YieldsCells (.delayScanComplete m none) s fun d => (d.memDev m.val).state = .retired ∧ s.dev.Records d (41 + m.val) 0 10 s.dev.time.now)

/-- PCIE_PERST_N at its fall clears the endpoint's ready bit at the next boundary and every function takes the actions of an FLR there; at its
rise an endpoint that bring-up had reached is ready at the next boundary (R537; log 24). FLR and a lower NumVFs wait for the next boundary (R352).
REFCLK_LOSS raises bit 60 and REFCLK_RETURN leaves the frame tick as it is (R556); a debug attempt outside FIELD-OPEN raises bit 63 and in
FIELD-OPEN does nothing (R515); DIE_SHUTDOWN raises bit 59 with CHECK 0xB, asks for SAFE at the next tick whatever its reaction is set to,
and abandons a sector erase in progress (R312). FAULT_N follows each error (R354, R478). -/
def Obligations.LinkClockAndDieEventsRaiseTheirBits : Prop :=
  ((∀ s t, s.dev.running = true → Yields (.pciePerstNFall t) s fun d =>
    d.aon.perstHigh = false ∧ d.ready = { s.dev.ready with blkClr := setBit s.dev.ready.blkClr bPCIE } ∧
    d.sched = s.dev.sched ++ functions.map (fun f => { tick := s.dev.nextTick, acc := s.dev.cmd.nextAcc, act := .flr f }) ∧
    d.chans = s.dev.chans ∧ d.queue = s.dev.queue ∧ d.fns = s.dev.fns ∧ d.fast = s.dev.fast) ∧
  (∀ s t, s.dev.running = true → s.dev.blk bQUEUE = true → Yields (.pciePerstNRise t) s fun d =>
    d.aon.perstHigh = true ∧ d.ready = { s.dev.ready with blkNext := setBit s.dev.ready.blkNext bPCIE } ∧ d.sched = s.dev.sched ∧ d.chans = s.dev.chans) ∧
  (∀ s (f : Fin 64), s.dev.running = true → s.dev.pcieUp = true → Yields (.flr f) s fun d =>
    d = { s.dev with sched := s.dev.sched ++ [{ tick := s.dev.nextTick, acc := s.dev.cmd.nextAcc, act := .flr f.val }] }) ∧
  (∀ s (n : Fin 64), s.dev.running = true → s.dev.pcieUp = true → Yields (.vfRemoval n) s fun d =>
    d = if n.val < s.dev.numVFs then { s.dev with sched := s.dev.sched ++ [{ tick := s.dev.nextTick, acc := s.dev.cmd.nextAcc, act := .numVFs n.val }] }
        else { s.dev with numVFs := n.val })) ∧
  ((∀ s t, s.dev.running = true → s.dev.aon.refclk = true → Yields (.refclkLoss t) s fun d =>
    s.dev.Records d 60 0 10 t ∧ d.aon.refclk = false ∧ d.settle.pins.faultN = true ∧ d.time.frame = s.dev.time.frame ∧ d.time.tick = s.dev.time.tick ∧
    d.mode = s.dev.mode ∧ d.chans = s.dev.chans) ∧
  (∀ s t, Yields (.refclkReturn t) s fun d =>
    d.aon = { s.dev.aon with refclk := true } ∧ d.time.frame = s.dev.time.frame ∧ d.time.tick = s.dev.time.tick ∧ d.time.n = s.dev.time.n ∧
    d.flt = s.dev.flt ∧ d.chans = s.dev.chans) ∧
  (∀ s t, s.dev.running = true → s.dev.otp.lc ≠ 1 → Yields (.jtagDebugAttempt t) s fun d =>
    s.dev.Records d 63 0 9 t ∧ d.settle.pins.faultN = true ∧ d.mode = s.dev.mode ∧ d.chans = s.dev.chans) ∧
  (∀ s t, s.dev.otp.lc = 1 → Yields (.jtagDebugAttempt t) s fun d => d = s.dev) ∧
  (∀ s t (k : Fin 48), s.dev.running = true → Yields (.dieShutdown k t) s fun d =>
    s.dev.Records d 59 0 11 t ∧ d.settle.pins.faultN = true ∧ d.imp.die.shutdown = true ∧
    (s.dev.nextTick, s.dev.cmd.nextAcc, .safe 2) ∈ d.mode.pending ∧ (∀ e ∈ d.flash.erases, e.running = false) ∧
    (s.dev.mode.phase ≠ .returned → ∃ l ∈ d.flt.latched, l.ev.bit.val = 59 ∧ l.reaction = 6)))

/-! ### The phases of a frame -/

/-- FRAME_TICK begins the next frame: the frame number rises by one, the tick is 160 N units on (R38, R42), the first one after the ticks
start is frame 0 and the epoch (R11), and the ready bits announced before it take effect (R508). Said of a device for which nothing waits.
What the ready bits do at a boundary (R508): a bit announced sets, a bit that a reset or a loss cleared clears, every other stays. -/
def Obligations.FrameTickBeginsTheNextFrame : Prop :=
  (∀ s, s.dev.cmd.held = [] → s.dev.time.running = true → s.dev.chans = [] → s.dev.links = [] → s.dev.sched = [] → s.dev.time.setFrame = [] →
    s.dev.migrations = [] → s.dev.arms = [] → s.dev.mode.pending = [] → s.dev.mode.phase ≠ .bringUp → s.dev.edge.write = none → s.dev.edge.pins = [] →
    s.dev.queue.trigRecs = [] → s.dev.queue.slugs = [] → s.dev.reg.outEvents = [] → s.dev.imp.zones = [] → s.dev.imp.rails = [] →
    s.dev.imp.shares = [] → s.dev.imp.die.next = none → YieldsCells .frameTick s fun d =>
      d.time = { s.dev.time with
        started := true, frame := if s.dev.time.started then s.dev.time.frame + 1 else 0, slew := 0
        tick := if s.dev.time.started then s.dev.time.tick + 160 * s.dev.time.n else 0
        now := if s.dev.time.started then max (s.dev.time.tick + 160 * s.dev.time.n) s.dev.time.now else 0 } ∧
      d.ready = s.dev.ready.tick ∧ d.mode.phase = s.dev.mode.phase ∧ d.chans = [] ∧ d.links = [] ∧ d.mem = s.dev.mem ∧ d.flt = s.dev.flt ∧
      d.cmd = s.dev.cmd ∧ d.seq = s.dev.seq ∧ d.imp = s.dev.imp) ∧
  (∀ (r : Ready) b, b < 22 →
    (bit r.tick.blk b = true ↔ bit r.blkClr b = false ∧ (bit r.blk b = true ∨ bit r.blkNext b = true)) ∧
    r.tick.blkNext = 0 ∧ r.tick.blkClr = 0 ∧ r.tick.caseBad = r.caseBad)

/-- COMPUTE_PHASE of a slot that a ready engine serves ends with the slot's banks swapped and the frame noted (R53, R43); with no channel of the slot in
use that is all it does, from L on (R42), and a slot without such an engine, or whose phase is over, is left alone (R51, R93).
At the end of an aperture the channel's slug goes to its slot's result bank and the folio rises; without a ring no slug is made (R53, R79). COLLECTION_PHASE empties the
bank that drains and leaves the one that fills (R54, R55). -/
def Obligations.ComputePhasesFillTheBanks : Prop :=
  ((∀ s (j : Fin 64) e, s.dev.cmd.held = [] → s.dev.computeEngine j.val = some e → s.dev.slotOpen j.val = true →
    YieldsCells (.computePhase j) s fun d => (d.slot j.val).fill = [] ∧ (d.slot j.val).swapAt = d.time.frame ∧ d.time.frame = s.dev.time.frame) ∧
  (∀ s (j : Fin 64) e, s.dev.cmd.held = [] → s.dev.computeEngine j.val = some e → s.dev.slotOpen j.val = true → (s.dev.slot j.val).drain = [] →
    (∀ ch ∈ slotChans j.val, s.dev.served ch = false) → YieldsCells (.computePhase j) s fun d =>
      d = s.dev.fromL.setSlot j.val { s.dev.slot j.val with drain := (s.dev.slot j.val).fill, fill := [], swapAt := s.dev.time.frame }) ∧
  (∀ s (j : Fin 64), s.dev.cmd.held = [] → (s.dev.computeEngine j.val = none ∨ s.dev.slotOpen j.val = false) →
    YieldsCells (.computePhase j) s fun d => d = s.dev)) ∧
  ((∀ s (ch : Fin 512) e q, s.dev.cmd.held = [] → (s.dev.chan ch.val).aper.ended = some e → (s.dev.chan ch.val).resultRing = some q →
    s.dev.inStandby = false → YieldsCells (.apertureEnd ch) s fun d =>
      (d.chan ch.val).aper = { folio := ((s.dev.chan ch.val).aper.folio + 1) % 256, cut := (s.dev.chan ch.val).aper.cut } ∧
      (∀ k, k ≠ ch.val → d.chan k = s.dev.chan k) ∧
      ((s.dev.chan ch.val).loop.done = false → d.slot (ch.val / 8) = { s.dev.slot (ch.val / 8) with
        fill := (s.dev.slot (ch.val / 8)).fill ++ [{ ch := ch.val, ring := q, bytes := (s.dev.chan ch.val).slug }] }) ∧
      ((s.dev.chan ch.val).loop.done = true → d.slot (ch.val / 8) = { s.dev.slot (ch.val / 8) with
        drain := (s.dev.slot (ch.val / 8)).drain ++ [{ ch := ch.val, ring := q, bytes := (s.dev.chan ch.val).slug }] })) ∧
  (∀ s (ch : Fin 512) e, s.dev.cmd.held = [] → (s.dev.chan ch.val).aper.ended = some e → (s.dev.chan ch.val).resultRing = none →
    YieldsCells (.apertureEnd ch) s fun d => d = s.dev.setChan ch.val { s.dev.chan ch.val with
      aper := { folio := (s.dev.chan ch.val).aper.folio, cut := (s.dev.chan ch.val).aper.cut } }) ∧
  (∀ s (j : Fin 64), s.dev.cmd.held = [] → s.dev.time.started = true → s.dev.blk bCOLLECT = true →
    YieldsCells (.collectionPhase j) s fun d => d.slots = (s.dev.setSlot j.val { s.dev.slot j.val with drain := [] }).slots ∧ d.time = s.dev.time))

/-- BUDGET_PHASE ends in time; with nothing to fold in it changes nothing else but that spans that are over leave the ledger (R307, R314).
Missed deadlines raise CHECK 0x6 on the bit of the unit that missed (R51): the engine's bit with the slot's banks swapped, the link's bit with its
miss counted, bit 58 with the bank dropped and its slugs counted as lost, bit 49 with no admission for the frame's boundaries. -/
def Obligations.BudgetPhasesAndDeadlines : Prop :=
  ((∀ s, s.dev.cmd.held = [] → s.dev.time.started = true → s.dev.blk bIMPOS = true → YieldsCells .budgetPhase s fun d => d.imp.late = false) ∧
  (∀ s, s.dev.cmd.held = [] → s.dev.time.started = true → s.dev.blk bIMPOS = true → s.dev.chans = [] → s.dev.imp.zones = [] →
    s.dev.imp.rails = [] → s.dev.imp.shares = [] → s.dev.imp.requests = [] → YieldsCells .budgetPhase s fun d =>
      d = { s.dev with imp := { s.dev.imp with
        late := false
        committed := s.dev.imp.committed.filter fun c => c.profile.endless || decide (s.dev.time.frame < c.start + c.profile.len)
        requests := [] } })) ∧
  ((∀ s (j : Fin 64) (n : Fin 8) e, s.dev.cmd.held = [] → s.dev.computeEngine j.val = some e → s.dev.slotOpen j.val = true →
    YieldsCells (.engineDeadlineMiss j n) s fun d => bit d.flt.pf (e / 8) = true ∧ (d.slot j.val).fill = [] ∧
      (tabGet {} d.flt.words (errIndex (e / 8) (e % 8))).check = 6 ∧ ((d.engine e).errored = true)) ∧
  (∀ s (l : Fin 512), s.dev.cmd.held = [] → (s.dev.link l.val).state = .up → (s.dev.link l.val).held = false →
    YieldsCells (.upstreamDeadlineMiss l) s fun d =>
      s.dev.Records d (9 + l.val / 16) (l.val % 16) 6 s.dev.fromL.time.now ∧ d.link l.val = (s.dev.link l.val).miss s.dev.time.frame ∧ d.chans = s.dev.chans) ∧
  (∀ s (l : Fin 512), s.dev.cmd.held = [] → ((s.dev.link l.val).state = .search ∨ (s.dev.link l.val).state = .describe) → (s.dev.link l.val).held = false →
    YieldsCells (.upstreamDeadlineMiss l) s fun d => d = s.dev.fromL.setLink l.val ((s.dev.link l.val).miss s.dev.time.frame)) ∧
  (∀ s (j : Fin 64) e r, s.dev.cmd.held = [] → s.dev.time.started = true → s.dev.blk bCOLLECT = true → s.dev.queue.slugs = [] →
    (s.dev.slot j.val).drain = [e] → s.dev.ring? e.ring = some r → YieldsCells (.collectorDrainMiss j) s fun d =>
      s.dev.Records d 58 0 6 s.dev.time.now ∧ (d.slot j.val).drain = [] ∧ d.ring? e.ring = some { r with lost := r.lost + max 1 e.frames }) ∧
  (∀ s, s.dev.cmd.held = [] → s.dev.time.started = true → s.dev.blk bIMPOS = true → YieldsCells .budgetPhaseMiss s fun d =>
    s.dev.Records d 49 0 6 s.dev.time.now ∧ d.imp = { s.dev.imp with late := true } ∧ d.chans = s.dev.chans))

/-- NOT_BEFORE_BOUNDARY leaves a command that is not due where it is and carries out one that is (R559): a NOP is answered and gone. -/
def Obligations.CommandsRunAtTheirNotBefore : Prop :=
  (∀ s, s.dev.cmd.held = [] → (∀ w ∈ s.dev.cmd.waiting, s.dev.time.tick < w.cmd.nb) → YieldsCells .notBeforeBoundary s fun d => d = s.dev) ∧
  (∀ s w, s.dev.cmd.held = [] → s.dev.time.started = true → s.dev.cmd.waiting = [w] → w.op = .nop → w.cmd.nb ≤ s.dev.time.tick → s.dev.chans = [] →
    s.dev.links = [] → s.dev.edge.pins = [] → s.dev.mode.pending = [] → s.dev.mode.word = s.dev.modeStatus →
    YieldsCells .notBeforeBoundary s fun d => d.cmd.waiting = [] ∧ d.body = { s.dev with cmd := { s.dev.cmd with waiting := [] } }.body)

/-- ARMING_COMPLETE at frame a + S − 1 makes the channel ARMED with its loop started afresh (R88); a soft-park ramp that is done takes a hard park at
the next boundary with cause 0x1 (R90, R91).
A make-before-break change enters the compare after its make (R117), and at the end of its fade takes the new range's code, counts its tail for one more
frame and is complete (R107); a hold-and-switch change ends at frame b + W + 1 with the loop resumed (R111). Each completion is the channel's event
128 + c (R238). -/
def Obligations.ArmingParkingAndRangeChangesComplete : Prop :=
  ((∀ s (ch : Fin 512), (s.dev.chan ch.val).arm = .arming → (s.dev.chan ch.val).armFrame + (s.dev.chan ch.val).settle ≤ s.dev.time.frame + 1 →
    Yields (.armingComplete ch) s fun d =>
      d = s.dev.setChan ch.val { s.dev.chan ch.val with arm := .armed, loop := (s.dev.chan ch.val).loop.fresh }) ∧
  (∀ s (ch : Fin 512), (s.dev.chan ch.val).arm ≠ .arming → Yields (.armingComplete ch) s fun d => d = s.dev) ∧
  (∀ s (ch : Fin 512), (s.dev.chan ch.val).arm = .softPark → (s.dev.chan ch.val).rampP ≤ (s.dev.chan ch.val).rampJ →
    (s.dev.chan ch.val).parkPend = none → Yields (.softParkRampComplete ch) s fun d =>
      d = s.dev.setChan ch.val { s.dev.chan ch.val with parkPend := some (1, s.dev.nextTick) }) ∧
  (∀ s (ch : Fin 512), (s.dev.chan ch.val).arm ≠ .softPark → Yields (.softParkRampComplete ch) s fun d => d = s.dev)) ∧
  ((∀ s (ch : Fin 512) g, s.dev.cmd.held = [] → (s.dev.chan ch.val).range.state = .ovMake → (s.dev.chan ch.val).range.change = some g → g.mkN + 1 ≤ g.j →
    YieldsCells (.ovMakeEnd ch) s fun d => d = s.dev.setChan ch.val { s.dev.chan ch.val with
      range := { (s.dev.chan ch.val).range with state := .ovCompare, change := some { g with j := g.mkN + 1 } } }) ∧
  (∀ s (ch : Fin 512) g x, s.dev.cmd.held = [] → (s.dev.chan ch.val).range.state = .ovFade → (s.dev.chan ch.val).range.change = some g →
    s.dev.desc? ch.val = some x → g.mkN + 3 + g.m ≤ g.j → (s.dev.chan ch.val).range.cont = none → YieldsCells (.ovFadeEnd ch) s fun d =>
      (d.chan ch.val).range.state = .steady ∧ (d.chan ch.val).range.change = none ∧
      (d.chan ch.val).range.tail = some (g.want.quantity, s.dev.time.frame + 1) ∧
      ((d.chan ch.val).range.v, (d.chan ch.val).range.i) = (((s.dev.chan ch.val).range.setCode g.want.quantity g.new).v, ((s.dev.chan ch.val).range.setCode g.want.quantity g.new).i) ∧
      d.events = s.dev.events ++ [{ ev := 128 + ch.val, stamp := s.dev.time.now, visible := s.dev.time.frame + 1, win := s.dev.time.now }] ∧
      (∀ k, k ≠ ch.val → d.chan k = s.dev.chan k)) ∧
  (∀ s (ch : Fin 512) g, s.dev.cmd.held = [] → (s.dev.chan ch.val).range.state = .hsHold → (s.dev.chan ch.val).range.change = some g → g.m + 1 ≤ g.j →
    (s.dev.chan ch.val).range.cont = none → YieldsCells (.hsHoldEnd ch) s fun d =>
      d.chan ch.val = { s.dev.chan ch.val with range := { (s.dev.chan ch.val).range with state := .steady, change := none } } ∧
      d.events = s.dev.events ++ [{ ev := 128 + ch.val, stamp := s.dev.time.now, visible := s.dev.time.frame + 1, win := s.dev.time.now }] ∧
      (∀ k, k ≠ ch.val → d.chan k = s.dev.chan k)))

/-! ### The sequence unit and calibration -/

/-- A walk that is due runs through the control words to the word that decides, after which none is due and the event windows tile time (R227, R233, R236);
a walk that is not due does nothing.
A WAIT whose timeout passes without its event calls for a continuation walk at TADDR; with the event in the same frame the event wins (R234). A request whose
maximum deferral has run out is withdrawn, DEFTO is set, event 128 + k is raised and the walk continues past the deferred span or at TADDR (R237). -/
def Obligations.WalksAndTimeoutsProceed : Prop :=
  ((∀ s (ch : Fin 512) e st, s.dev.cmd.held = [] → (s.dev.chan ch.val).seq.state = .running → (s.dev.chan ch.val).seq.walkDue = 1 →
    s.dev.lastEnd (s.dev.chan ch.val).seq = some e →
    walkRun (s.dev.word ch.val) (s.dev.branchCond ch.val (s.dev.chan ch.val).seq.walkAt (s.dev.chan ch.val).seq.walkFlags) 257
      { pc := (s.dev.chan ch.val).seq.pc, lc := (s.dev.chan ch.val).seq.lc, va := (s.dev.chan ch.val).seq.va,
        stack := (s.dev.chan ch.val).seq.stack, effects := [], admitted := none } = some st →
    YieldsCells (.seqWalk ch) s fun d => (d.chan ch.val).seq.walkDue = 0 ∧
      (d.chan ch.val).seq.winFrom = max (s.dev.chan ch.val).seq.winFrom (s.dev.tickOfFrame (s.dev.chan ch.val).seq.walkAt)) ∧
  (∀ s (ch : Fin 512) st, s.dev.cmd.held = [] → (s.dev.chan ch.val).seq.state = .running → (s.dev.chan ch.val).seq.walkDue = 2 →
    walkRun (s.dev.word ch.val) (s.dev.branchCond ch.val s.dev.time.frame (s.dev.walkConds ch.val)) 257
      { pc := (s.dev.chan ch.val).seq.pc, lc := (s.dev.chan ch.val).seq.lc, va := (s.dev.chan ch.val).seq.va,
        stack := (s.dev.chan ch.val).seq.stack, effects := [], admitted := none } = some st →
    YieldsCells (.continuationWalk ch) s fun d => (d.chan ch.val).seq.walkDue = 0 ∧
      (d.chan ch.val).seq.winFrom = max (s.dev.chan ch.val).seq.winFrom (s.dev.tickOfFrame s.dev.time.frame)) ∧
  (∀ s (ch : Fin 512), s.dev.cmd.held = [] → (s.dev.chan ch.val).seq.walkDue = 0 →
    YieldsCells (.seqWalk ch) s (fun d => d = s.dev) ∧ YieldsCells (.continuationWalk ch) s (fun d => d = s.dev))) ∧
  ((∀ s (ch : Fin 512) sp ev tmo taddr, s.dev.cmd.held = [] → (s.dev.chan ch.val).seq.state = .running → (s.dev.chan ch.val).seq.walkDue ≠ 2 →
    (s.dev.chan ch.val).seq.span = some sp → sp.kind = .wait ev false tmo taddr → sp.end_ = none → (s.dev.chan ch.val).seq.queue = [] →
    0 < tmo → sp.start + tmo ≤ s.dev.time.frame →
    (∀ e ∈ s.dev.events, ¬(e.ev = ev ∧ s.dev.tickOfFrame sp.start ≤ e.win ∧ e.visible ≤ s.dev.time.frame)) →
    YieldsCells (.waitTimeout ch) s fun d => d = s.dev.setChan ch.val { s.dev.chan ch.val with
      seq := { (s.dev.chan ch.val).seq with walkDue := 2, walkAt := s.dev.time.frame, pc := taddr } }) ∧
  (∀ s (ch : Fin 512) sp ev tmo taddr e, s.dev.cmd.held = [] → (s.dev.chan ch.val).seq.span = some sp → sp.kind = .wait ev false tmo taddr →
    e ∈ s.dev.events → e.ev = ev → s.dev.tickOfFrame sp.start ≤ e.win → e.visible ≤ s.dev.time.frame →
    YieldsCells (.waitTimeout ch) s fun d => d = s.dev) ∧
  (∀ s (ch : Fin 512) sp id q, s.dev.cmd.held = [] → (s.dev.chan ch.val).seq.queue = [sp] → sp.request = some id →
    s.dev.request? id = some q → q.timedOut = true → q.granted = false → YieldsCells (.deferralTimeout ch) s fun d =>
      d.chan ch.val = { s.dev.chan ch.val with seq := { (s.dev.chan ch.val).seq with
        queue := [], defto := true, walkDue := 2, walkAt := s.dev.time.frame
        pc := (match sp.admitted with | some a => a.2 | none => sp.next) } } ∧
      d.imp = { s.dev.imp with requests := s.dev.imp.requests.filter fun x => x.id ≠ id } ∧
      d.events = s.dev.events ++ [{ ev := 128 + ch.val, stamp := s.dev.time.now, visible := s.dev.time.frame + 1, win := s.dev.time.now }]))

/-- A galley line that passes its tag and CRC joins the line buffer; one that fails is read again once, and counts as bad when it fails again (R208, R210). -/
def Obligations.GalleyLinesAreCheckedAndRetried : Prop :=
  (∀ s (ch : Fin 512) id g i, s.dev.cmd.held = [] → s.dev.nextLine ch.val = some (id, g, i, false) → lineOk (s.dev.storedLine g i) id i = true →
    YieldsCells (.galleyLineArrival ch true) s fun d => d = s.dev.setChan ch.val { s.dev.chan ch.val with seq := { (s.dev.chan ch.val).seq with
      retry := false
      buffer := (s.dev.chan ch.val).seq.buffer ++ [{ index := i, at_ := s.dev.time.now, bytes := s.dev.storedLine g i }] } }) ∧
  (∀ s (ch : Fin 512) ok id g i a, s.dev.cmd.held = [] → s.dev.nextLine ch.val = some (id, g, i, a) →
    (ok = false ∨ lineOk (s.dev.storedLine g i) id i = false) → (s.dev.chan ch.val).seq.retry = false →
    YieldsCells (.galleyLineArrival ch ok) s fun d => d = s.dev.setChan ch.val { s.dev.chan ch.val with seq := { (s.dev.chan ch.val).seq with retry := true } }) ∧
  (∀ s (ch : Fin 512) ok id g i a, s.dev.cmd.held = [] → s.dev.nextLine ch.val = some (id, g, i, a) →
    (ok = false ∨ lineOk (s.dev.storedLine g i) id i = false) → (s.dev.chan ch.val).seq.retry = true →
    YieldsCells (.galleyLineArrival ch ok) s fun d => d.seg? id = some { g with bad := sat32 (g.bad + 1) } ∧
      (d.chan ch.val).seq.retry = false ∧ (∀ k, k ≠ ch.val → d.chan k = s.dev.chan k)) ∧
  (∀ s (ch : Fin 512) ok, s.dev.cmd.held = [] → s.dev.nextLine ch.val = none → YieldsCells (.galleyLineArrival ch ok) s fun d => d = s.dev)

/-- The oldest fit that is due is taken; a set with a lost point is discarded and counted, and the last set of a round counts the round (R130, R131). The 24-hour
persist starts where the front-end has a coefficient memory and no persist is under way (R144).
A broken sensor that has read validly for 10 s is valid again, and one that has not stays broken (R292).
CH_MEASURE's completion ends the measurement and answers with the means over the frames taken (R392); a target engine's self-test lets the slot move
at the next boundary, or marks the target faulty and refuses the migration (R94); a spare's self-test renews its pass or holds it faulty
with its bit raised (R22, R484). -/
def Obligations.CalibrationSensorsAndTestsProceed : Prop :=
  ((∀ s (ch : Fin 512) f rest, s.dev.cmd.held = [] → (s.dev.chan ch.val).cal.fits = f :: rest → YieldsCells (.calFitComplete ch) s fun d =>
    (d.chan ch.val).cal.fits = rest ∧
    (∀ x, s.dev.desc? ch.val = some x →
      (d.chan ch.val).cal.rounds = (if x.roundSets.getLast? = some f.1 then sat32 ((s.dev.chan ch.val).cal.rounds + 1) else (s.dev.chan ch.val).cal.rounds))) ∧
  (∀ s (ch : Fin 512) k pts th rest x, s.dev.cmd.held = [] → (s.dev.chan ch.val).cal.fits = (k, pts, th, true) :: rest → s.dev.desc? ch.val = some x →
    x.roundSets.getLast? ≠ some k → YieldsCells (.calFitComplete ch) s fun d =>
      (d.chan ch.val).cal.fitsDisc = sat32 ((s.dev.chan ch.val).cal.fitsDisc + 1) ∧ (d.chan ch.val).cal.staged = (s.dev.chan ch.val).cal.staged ∧
      (d.chan ch.val).cal.active = (s.dev.chan ch.val).cal.active) ∧
  (∀ s (ch : Fin 512), s.dev.cmd.held = [] → (s.dev.chan ch.val).cal.fits = [] → YieldsCells (.calFitComplete ch) s fun d => d = s.dev) ∧
  (∀ s (ch : Fin 512) x, s.dev.cmd.held = [] → s.dev.desc? ch.val = some x → x.capMemory = true → (s.dev.chan ch.val).cal.persist = none →
    YieldsCells (.calPersistTimer ch) s fun d => d = s.dev.setChan ch.val { s.dev.chan ch.val with cal := { (s.dev.chan ch.val).cal with
      persist := some { env := none, boundary := none, bytes := [], slot := 0, seq := 0, offset := 0, sealing := false } } }) ∧
  (∀ s (ch : Fin 512), s.dev.cmd.held = [] → (∀ x, s.dev.desc? ch.val = some x → x.capMemory = false) →
    YieldsCells (.calPersistTimer ch) s fun d => d = s.dev)) ∧
  ((∀ s (z : Fin 64) (p : Fin 8) x t, (s.dev.zone z.val).sensors[p.val]? = some x → x.broken = true → x.validSince = some t →
    t + 10 * secUnits ≤ s.dev.time.now → Yields (.sensorRevalidated z p) s fun d =>
      (d.zone z.val).sensors = (s.dev.zone z.val).sensors.set p.val { x with broken := false, validSince := none } ∧
      (∀ k, k ≠ z.val → d.zone k = s.dev.zone k) ∧ d.flt = s.dev.flt) ∧
  (∀ s (z : Fin 64) (p : Fin 8) x, (s.dev.zone z.val).sensors[p.val]? = some x →
    (x.broken = false ∨ x.validSince = none ∨ ∃ t, x.validSince = some t ∧ s.dev.time.now < t + 10 * secUnits) →
    Yields (.sensorRevalidated z p) s fun d => d = s.dev)) ∧
  ((∀ s (ch : Fin 512) m, s.dev.cmd.held = [] → (s.dev.chan ch.val).measure = some m → m.k ≤ m.taken → 0 < m.valid → YieldsCells (.chMeasureComplete ch) s fun d =>
    d = (s.dev.setChan ch.val { s.dev.chan ch.val with measure := none }).final m.env stOK
      (le64 m.stamp ++ leF32 (ratToF32 (m.sumV / (m.valid : Rat))) ++ leF32 (ratToF32 (m.sumI / (m.valid : Rat))) ++ le32 (m.flags ||| m.lastFlags) ++
        [BitVec.ofNat 8 m.ranges] ++ zeros 3)) ∧
  (∀ s (ch : Fin 512), s.dev.cmd.held = [] → (s.dev.chan ch.val).measure = none → YieldsCells (.chMeasureComplete ch) s fun d => d = s.dev) ∧
  (∀ s (j : Fin 64) m, s.dev.cmd.held = [] → s.dev.migrations = [m] → m.slot = j.val → m.passed = false →
    YieldsCells (.migrateSelftestDone j true) s (fun d => d = { s.dev with migrations := [{ m with passed := true }] }) ∧
    YieldsCells (.migrateSelftestDone j false) s (fun d => d.migrations = [] ∧ d.engine m.engine = { s.dev.engine m.engine with faulty := true, tested := false } ∧
      d.slots = s.dev.slots)) ∧
  (∀ s (e : Fin 72), s.dev.slotOf e.val = none → (s.dev.engine e.val).faulty = false →
    Yields (.spareSelftest e true) s (fun d => d = s.dev.setEngine e.val { s.dev.engine e.val with tested := true }) ∧
    Yields (.spareSelftest e false) s (fun d => (d.engine e.val).faulty = true ∧ (d.engine e.val).tested = false ∧
      d.ready = { s.dev.ready with engClr := setBit s.dev.ready.engClr e.val } ∧ s.dev.Records d (e.val / 8) (e.val % 8) 10 s.dev.time.now)))

/-! ### Links -/

/-- An upstream block whose CRC, sync nibble and frame number are right is held with its samples, its status and its readings and counts as valid; one
whose CRC is wrong counts as a miss and nothing of it is kept (R155, R157, R163, R175).
A link in SEARCH with 16 valid blocks enters DESCRIBE and asks for page 0 (R175); an UP link that has missed 8 blocks in a row is lost, raises its
bit, clears its ready bit and parks its armed channel with cause 0x3 (R176). -/
def Obligations.UpstreamBlocksAndLinkLoss : Prop :=
  ((∀ s (l : Fin 512) (u0 u1 : Word64) dz t, s.dev.cmd.held = [] → s.dev.time.started = true → (s.dev.link l.val).state ≠ .disabled →
    YieldsCells (.upstreamBlock l u0 u1 dz false t) s fun d => d = (s.dev.at (t / 16)).setLink l.val ((s.dev.link l.val).miss s.dev.time.frame)) ∧
  (∀ s (l : Fin 512) (u0 u1 : Word64) dz t, s.dev.cmd.held = [] → s.dev.time.started = true →
    ((s.dev.link l.val).state = .search ∨ (s.dev.link l.val).state = .describe) → (s.dev.link l.val).rts = [] →
    bits u0.toNat 3 0 = 0xA → bits u0.toNat 11 8 = s.dev.time.frame % 16 → YieldsCells (.upstreamBlock l u0 u1 dz true t) s fun d =>
      (d.link l.val).held = true ∧ (d.link l.val).validRun = (s.dev.link l.val).validRun + 1 ∧ (d.link l.val).missRun = 0 ∧
      (d.link l.val).misses = (s.dev.link l.val).misses ∧ (d.link l.val).state = (s.dev.link l.val).state ∧
      (∃ b, (d.link l.val).up = some b ∧ b.frame = s.dev.time.frame ∧ b.v = toSigned 18 (bits u0.toNat 29 12) ∧ b.i = toSigned 18 (bits u0.toNat 47 30) ∧
        b.status = bits u0.toNat 63 48 ∧ b.rail = toSigned 12 (bits u1.toNat 41 30)) ∧
      (∀ k, k ≠ l.val → d.link k = s.dev.link k) ∧ d.chans = s.dev.chans) ∧
  (∀ s (l : Fin 512) (u0 u1 : Word64) dz t, s.dev.cmd.held = [] → s.dev.time.started = true → (s.dev.link l.val).state = .up →
    (s.dev.link l.val).rts = [] → bits u0.toNat 3 0 = 0xA → bits u0.toNat 11 8 = s.dev.time.frame % 16 → bit u0.toNat 53 = true →
    YieldsCells (.upstreamBlock l u0 u1 dz true t) s fun d => (d.link l.val).held = true ∧ (d.link l.val).state = .up)) ∧
  ((∀ s (l : Fin 512), s.dev.cmd.held = [] → (s.dev.link l.val).state = .search → 16 ≤ (s.dev.link l.val).validRun →
    YieldsCells (.syncBlocksFound l) s fun d =>
      (d.link l.val).state = .describe ∧ (d.link l.val).pages = [] ∧ (d.link l.val).reqs = [] ∧
      (d.link l.val).out = some { msg := .pageRead 0, attempts := 1, sentAt := s.dev.time.frame } ∧
      (d.link l.val).tx = MgmtReq.words l.val (.pageRead 0) ∧ (∀ k, k ≠ l.val → d.link k = s.dev.link k) ∧ d.chans = s.dev.chans) ∧
  (∀ s (l : Fin 512), s.dev.cmd.held = [] → (s.dev.link l.val).state ≠ .search → YieldsCells (.syncBlocksFound l) s fun d => d = s.dev) ∧
  (∀ s (l : Fin 512), s.dev.cmd.held = [] → (s.dev.link l.val).state = .up → 8 ≤ (s.dev.link l.val).missRun → (s.dev.link l.val).dual = false →
    YieldsCells (.linkLoss l) s fun d =>
      (d.link l.val).state = .search ∧ bit d.flt.pf (9 + l.val / 16) = true ∧ bit d.ready.linksClr l.val = true ∧
      ((s.dev.chan l.val).arm ≠ .parked → (s.dev.chan l.val).parkPend = none → (d.chan l.val).parkPend = some (3, s.dev.nextTick))) ∧
  (∀ s (l : Fin 512), s.dev.cmd.held = [] → ((s.dev.link l.val).state = .disabled ∨ (s.dev.link l.val).state = .search) →
    YieldsCells (.linkLoss l) s fun d => d = s.dev))

/-- Replies of a front-end while its link is described: a page and a slot header are kept (R167, R169, R173), record bytes gather, and the ACK of ACCEPT brings the
link UP with its ready bit due (R175); a request without a reply goes out again twice (R168). -/
def Obligations.ManagementRepliesAdvanceTheLink : Prop :=
  (∀ s (l : Fin 512) (p : Fin 6) data o, s.dev.cmd.held = [] → (s.dev.link l.val).state = .describe → data.length = 256 →
    (s.dev.link l.val).out = some o → o.msg = .pageRead p.val → YieldsCells (.pageData l p data) s fun d =>
      tabGet [] (d.link l.val).pages p.val = data ∧ (∀ k, k ≠ p.val → tabGet [] (d.link l.val).pages k = tabGet [] (s.dev.link l.val).pages k)) ∧
  (∀ s (l : Fin 512) (p : Fin 6) data, s.dev.cmd.held = [] → (s.dev.link l.val).out = none → YieldsCells (.pageData l p data) s fun d => d = s.dev) ∧
  (∀ s (l : Fin 512) (slot : Fin 2) data o, s.dev.cmd.held = [] → (s.dev.link l.val).state = .describe → (s.dev.link l.val).out = some o →
    o.msg = .nvmRead slot.val 0 data.length → YieldsCells (.nvmData l slot 0 data) s fun d => tabGet [] (d.link l.val).hdrs slot.val = data) ∧
  (∀ s (l : Fin 512) (slot : Fin 2) off data o, s.dev.cmd.held = [] → (s.dev.link l.val).state = .describe → (s.dev.link l.val).out = some o →
    o.msg = .nvmRead slot.val off data.length → off ≠ 0 → ((s.dev.link l.val).recBytes ++ data).length < 1024 →
    YieldsCells (.nvmData l slot off data) s fun d => (d.link l.val).recBytes = (s.dev.link l.val).recBytes ++ data) ∧
  (∀ s (l : Fin 512) o, s.dev.cmd.held = [] → (s.dev.link l.val).state = .describe → (s.dev.link l.val).out = some o → o.msg = .accept →
    YieldsCells (.ack l 0) s fun d => (d.link l.val).state = .up ∧ bit d.ready.linksNext l.val = true) ∧
  (∀ s (l : Fin 512) c, s.dev.cmd.held = [] → (s.dev.link l.val).out = none → YieldsCells (.ack l c) s fun d => d = s.dev) ∧
  (∀ s (l : Fin 512) o, s.dev.cmd.held = [] → (s.dev.link l.val).out = some o → o.attempts < 3 → YieldsCells (.mgmtReplyTimeout l) s fun d =>
    d = s.dev.setLink l.val { s.dev.link l.val with
      out := some { o with attempts := o.attempts + 1, sentAt := s.dev.time.frame }, tx := o.msg.words l.val }) ∧
  (∀ s (l : Fin 512) o, s.dev.cmd.held = [] → (s.dev.link l.val).out = some o → 3 ≤ o.attempts → (s.dev.link l.val).state = .describe →
    YieldsCells (.mgmtReplyTimeout l) s fun d => (d.link l.val).state = .search) ∧
  (∀ s (l : Fin 512) o, s.dev.cmd.held = [] → (s.dev.link l.val).out = some o → 3 ≤ o.attempts → (s.dev.link l.val).state = .up → o.msg.isNvm = false →
    YieldsCells (.mgmtReplyTimeout l) s fun d => (d.link l.val).state = .search ∧ bit d.flt.pf (9 + l.val / 16) = true)

/-! ### Triggers, comparators and the judgements of the Impositor -/

/-- An edge on an unmasked INPUT pin is captured: it opens a window of 64 tick units, and raises event m when it is the active edge of an input whose event is
enabled and has not fired in the frame; an edge inside the window counts as chatter (R260, R261, R263). At the window's end a level that differs from the
captured one is a synthetic edge stamped there (R261). An input active beyond its stuck time is masked with STUCK set (R264). -/
def Obligations.TriggersCaptureEdges : Prop :=
  (∀ s (m : Fin 64) up t, routeMode (s.dev.pin m.val).route = 0 → (s.dev.pin m.val).masked = false →
    (∀ w, (s.dev.pin m.val).winEnd = some w → w ≤ t) → Yields (.triggerEdge m up t) s fun d =>
      (d.pin m.val).level = up ∧ (d.pin m.val).capLevel = up ∧ (d.pin m.val).winEnd = some (t + 64) ∧
      (∀ k, k ≠ m.val → d.pin k = s.dev.pin k) ∧ d.chans = s.dev.chans ∧
      d.events = (if (s.dev.pin m.val).evEn && (s.dev.pin m.val).isActive up && !(s.dev.pin m.val).fired
        then s.dev.events ++ [{ ev := m.val, stamp := t, visible := s.dev.time.frame + 1, win := t }] else s.dev.events) ∧
      d.queue.trigRecs.length = s.dev.queue.trigRecs.length + (if (s.dev.pin m.val).capEn then 1 else 0)) ∧
  (∀ s (m : Fin 64) up t w, routeMode (s.dev.pin m.val).route = 0 → (s.dev.pin m.val).masked = false → (s.dev.pin m.val).winEnd = some w → t < w →
    Yields (.triggerEdge m up t) s fun d =>
      (d.pin m.val).level = up ∧ (d.pin m.val).chatter = sat16 ((s.dev.pin m.val).chatter + 1) ∧ (d.pin m.val).capLevel = (s.dev.pin m.val).capLevel ∧
      (d.pin m.val).winEnd = some w ∧ d.events = s.dev.events ∧ d.queue = s.dev.queue) ∧
  (∀ s (m : Fin 64) up t, (routeMode (s.dev.pin m.val).route ≠ 0 ∨ (s.dev.pin m.val).masked = true) → Yields (.triggerEdge m up t) s fun d =>
    d.events = s.dev.events ∧ d.queue = s.dev.queue ∧ (d.pin m.val).winEnd = (s.dev.pin m.val).winEnd) ∧
  (∀ s (m : Fin 64) t w, (s.dev.pin m.val).winEnd = some w → (s.dev.pin m.val).level = (s.dev.pin m.val).capLevel →
    Yields (.triggerResample m t) s fun d => d = (s.dev.at t).setPin m.val { s.dev.pin m.val with winEnd := none }) ∧
  (∀ s (m : Fin 64) t w, routeMode (s.dev.pin m.val).route = 0 → (s.dev.pin m.val).masked = false → (s.dev.pin m.val).winEnd = some w →
    (s.dev.pin m.val).level ≠ (s.dev.pin m.val).capLevel → Yields (.triggerResample m t) s fun d =>
      (d.pin m.val).winEnd = some (w + 64) ∧ (d.pin m.val).capLevel = (s.dev.pin m.val).level) ∧
  (∀ s (m : Fin 64), routeMode (s.dev.pin m.val).route = 0 → (s.dev.pin m.val).masked = false → 0 < (s.dev.pin m.val).stuckTime →
    (s.dev.pin m.val).stuckTime < (s.dev.pin m.val).activeFrames → Yields (.triggerStuck m) s fun d =>
      d.pin m.val = { s.dev.pin m.val with stuck := true, masked := true, winEnd := none } ∧ d.chans = s.dev.chans ∧ d.events = s.dev.events) ∧
  (∀ s (m : Fin 64), (s.dev.pin m.val).activeFrames ≤ (s.dev.pin m.val).stuckTime → Yields (.triggerStuck m) s fun d => d = s.dev)

/-- A comparator that trips outside its blanking windows is live and latched, counts the trip and stamps it, raises event 64 + m once in the frame, and parks the channels of its
protection set with cause 0x2 from t + 320 on (R272..R277); inside a window the trip only sets BLANKED (R273). A release clears the live state and leaves the latch (R272,
R274); at the end of a window and when UNSETTLED clears the input is judged afresh (R273, R279); CLEAR_AT_PERIOD loads the live state (R274). -/
def Obligations.ComparatorsTripAndRelease : Prop :=
  (∀ s (m : Fin 64) t, s.dev.running = true → (s.dev.mon m.val).live = false → (s.dev.at t).monBlanked m.val t = false →
    Yields (.monitorTrip m t) s fun d =>
      (d.mon m.val).live = true ∧ ((s.dev.mon m.val).edgeMode = false → (d.mon m.val).latch = true) ∧
      ((s.dev.mon m.val).edgeMode = true → (d.mon m.val).rise = true) ∧ (d.mon m.val).trips = sat16 ((s.dev.mon m.val).trips + 1) ∧
      (d.mon m.val).last = t ∧ (∀ k, k ≠ m.val → d.mon k = s.dev.mon k) ∧
      d.events = (if (s.dev.mon m.val).evEn && !(s.dev.mon m.val).fired
        then s.dev.events ++ [{ ev := 64 + m.val, stamp := t, visible := s.dev.time.frame + 1, win := t }] else s.dev.events) ∧
      (∀ ch, ch < 512 → (s.dev.mon m.val).protEn = true → bit (s.dev.mon m.val).protSet ch = true → (s.dev.chan ch).arm ≠ .parked →
        (s.dev.chan ch).parkPend = none → (d.chan ch).parkPend = some (2, t + 320))) ∧
  (∀ s (m : Fin 64) t, s.dev.running = true → (s.dev.mon m.val).live = false → (s.dev.at t).monBlanked m.val t = true →
    Yields (.monitorTrip m t) s fun d => d = (s.dev.at t).setMon m.val { s.dev.mon m.val with blanked := true }) ∧
  (∀ s (m : Fin 64) t, s.dev.running = true → (s.dev.mon m.val).live = true → (s.dev.at t).monBlanked m.val t = false →
    Yields (.monitorRelease m t) s fun d => d = (s.dev.at t).setMon m.val { s.dev.mon m.val with
      live := false, fall := (s.dev.mon m.val).fall || (s.dev.mon m.val).edgeMode }) ∧
  (∀ s (m : Fin 64) t, s.dev.running = true → (s.dev.mon m.val).live = true → (s.dev.at t).monBlanked m.val t = true →
    Yields (.monitorRelease m t) s fun d => d = (s.dev.at t).setMon m.val { s.dev.mon m.val with blanked := true }) ∧
  (∀ s (m : Fin 64) b t, s.dev.running = true → (s.dev.at t).monBlanked m.val t = false → Yields (.blankingWindowEnd m b t) s fun d =>
    (d.mon m.val).live = b ∧ ((s.dev.mon m.val).live = b → d = s.dev.at t) ∧
    ((s.dev.mon m.val).live = false → b = true → (d.mon m.val).last = t)) ∧
  (∀ s (m : Fin 64), (s.dev.mon m.val).atPeriod = true → (s.dev.mon m.val).edgeMode = false → 0 < (s.dev.mon m.val).period →
    s.dev.time.frame % (s.dev.mon m.val).period = 0 → Yields (.monitorPeriodClear m) s fun d =>
      d = s.dev.setMon m.val { s.dev.mon m.val with latch := (s.dev.mon m.val).live }) ∧
  (∀ s (m : Fin 64), (s.dev.mon m.val).atPeriod = false → Yields (.monitorPeriodClear m) s fun d => d = s.dev) ∧
  (∀ s (m : Fin 64) b, (s.dev.mon m.val).unsettled = true → Yields (.unsettledClears m b) s fun d =>
    (d.mon m.val).unsettled = false ∧ (d.mon m.val).live = b ∧ ((s.dev.mon m.val).live = b → d.events = s.dev.events) ∧
    (∀ k, k ≠ m.val → d.mon k = s.dev.mon k)) ∧
  (∀ s (m : Fin 64) b, (s.dev.mon m.val).unsettled = false → Yields (.unsettledClears m b) s fun d => d = s.dev)

/-- ZONE_EVALUATION judges an enabled zone on the mean of θ over the millisecond, on ρ over 100 ms and on the forecast peak, taking the first row of R293 that
holds; what it decides waits for the next boundary. A zone that is not enabled is not judged. A contributor takes its owner's state instead (R343).
RAIL_EVALUATION judges an enabled rail on its mean draw over the millisecond against its capacities in W and in A, taking the first row of R298 that holds.
DIE_EVALUATION takes the readings, keeps the temperature of the last 100 ms, and judges the die budget: ACT brings HOLD, WARN or a broken sensor THROTTLE
(R310); the hottest sensor that is not broken is the die temperature. -/
def Obligations.ThermalAndPowerJudgements : Prop :=
  ((∀ s (z : Fin 64), s.dev.cmd.held = [] → (s.dev.zone z.val).enabled = true → (s.dev.share (shareOfZone z.val)).role ≠ 2 →
    YieldsCells (.zoneEvaluation z) s fun d => ∃ mean rho,
      mean = (if (s.dev.zone z.val).cnt = 0 then (s.dev.zone z.val).theta else (s.dev.zone z.val).sum / ((s.dev.zone z.val).cnt : Rat)) ∧
      (∀ old, (s.dev.zone z.val).hist[99]? = some old → rho = (mean - old) * 10) ∧ (d.zone z.val).rho = rho ∧ (d.zone z.val).hist = (mean :: (s.dev.zone z.val).hist).take 100 ∧
      (d.zone z.val).state = (s.dev.zone z.val).state ∧
      ((s.dev.zone z.val).state ≠ 2 →
        (f32ToRat (s.dev.zone z.val).act ≤ rho ∨ f32ToRat (s.dev.zone z.val).tmax ≤ mean ∨ s.dev.sensorBad z.val = true) →
        (d.zone z.val).next = some 2) ∧
      ((s.dev.zone z.val).state = 0 →
        ¬(f32ToRat (s.dev.zone z.val).act ≤ rho ∨ f32ToRat (s.dev.zone z.val).tmax ≤ mean ∨ s.dev.sensorBad z.val = true) →
        (d.zone z.val).next =
          (if f32ToRat (s.dev.zone z.val).warn ≤ rho ∨ f32ToRat (s.dev.zone z.val).tmax ≤ (d.zone z.val).peak then some 1 else none)) ∧
      ((s.dev.zone z.val).state ≠ 0 → s.dev.sensorBad z.val = true → ∀ n, (d.zone z.val).next = some n → n = 2) ∧
      (∀ k, k ≠ z.val → d.zone k = s.dev.zone k)) ∧
  (∀ s (z : Fin 64), s.dev.cmd.held = [] → (s.dev.zone z.val).enabled = false → YieldsCells (.zoneEvaluation z) s fun d => d = s.dev)) ∧
  ((∀ s (r : Fin 32), s.dev.cmd.held = [] → (s.dev.rail r.val).enabled = true → (s.dev.share (shareOfRail r.val)).role = 0 →
    YieldsCells (.railEvaluation r) s fun d => ∃ w,
      w = (if (s.dev.rail r.val).cnt = 0 then (s.dev.rail r.val).d else (s.dev.rail r.val).sum / ((s.dev.rail r.val).cnt : Rat)) ∧
      (d.rail r.val).d = w ∧ (d.rail r.val).cnt = 0 ∧ (d.rail r.val).state = (s.dev.rail r.val).state ∧
      ((s.dev.rail r.val).state ≠ 2 →
        (f32ToRat (s.dev.rail r.val).capW ≤ w ∨ f32ToRat (s.dev.rail r.val).capA ≤ w / f32ToRat (s.dev.rail r.val).volt) →
        (d.rail r.val).next = some 2) ∧
      ((s.dev.rail r.val).state = 0 → w < f32ToRat (s.dev.rail r.val).capW → w / f32ToRat (s.dev.rail r.val).volt < f32ToRat (s.dev.rail r.val).capA →
        (d.rail r.val).next = (if (s.dev.rail r.val).reaches w (f32ToRat (s.dev.rail r.val).throttle) then some 1 else none)) ∧
      (∀ k, k ≠ r.val → d.rail k = s.dev.rail k)) ∧
  (∀ s (r : Fin 32), s.dev.cmd.held = [] → (s.dev.rail r.val).enabled = false → YieldsCells (.railEvaluation r) s fun d => d = s.dev)) ∧
  (∀ s (l : List Reading), s.dev.cmd.held = [] → s.dev.running = true → s.dev.blk bSENSORS = true → YieldsCells (.dieEvaluation l) s fun d =>
    d.imp.die.hist = (d.imp.die.temp :: s.dev.imp.die.hist).take 100 ∧
    (∀ old, s.dev.imp.die.hist[99]? = some old → d.imp.die.rho = (d.imp.die.temp - old) * 10) ∧
    d.imp.die.state = s.dev.imp.die.state ∧
    (s.dev.imp.die.state ≠ 2 → f32ToRat s.dev.imp.die.act ≤ d.imp.die.rho → d.imp.die.next = some 2) ∧
    (s.dev.imp.die.state = 0 → d.imp.die.rho < f32ToRat s.dev.imp.die.act →
      (f32ToRat s.dev.imp.die.warn ≤ d.imp.die.rho ∨ d.dieBad = true) → d.imp.die.next = some 1) ∧
    (∀ i x, i < 48 → l[i]? = some x → tabGet noReading d.aon.dieSensors i = x) ∧
    (∀ i, i < 48 → (∀ y, tabFind d.imp.die.sensors i = some y → y.broken = false) → (tabGet noReading d.aon.dieSensors i).ok = true →
      (((tabGet noReading d.aon.dieSensors i).value : Int) : Rat) / 16 ≤ d.imp.die.temp))

/-! ### Registration: ports, time and marks -/

/-- A NEIGHBOR cell brings a port UP once 64 valid headers have passed and is kept as the neighbour's report (R323, R324); 50 µs without one, or 16 invalid headers, take it DOWN and
raise bit 55 when the far end was REGISTERED (R323). The device sends its own report on request of the clock (R324), and cells asked for again go out
again in order (R323). -/
def Obligations.PortsFollowTheirNeighbours : Prop :=
  (∀ s p c t, s.dev.cmd.held = [] → s.dev.Receives p c ctNEIGHBOR → s.dev.reg.state = .unjoined → (s.dev.port p.val).validFrom + 2622 ≤ s.dev.time.now →
    YieldsCells (.neighbor p c t) s fun d =>
      (d.port p.val).up = true ∧ (d.port p.val).last = some c.neighbor ∧ (d.port p.val).lastAt = (s.dev.at t).time.now ∧
      (∀ k, k ≠ p.val → d.port k = s.dev.port k) ∧ d.reg.state = .unjoined ∧ d.flt = s.dev.flt) ∧
  (∀ s p c t, s.dev.cmd.held = [] → s.dev.Receives p c ctNEIGHBOR → (s.dev.port p.val).up = false →
    (s.dev.at t).time.now < (s.dev.port p.val).validFrom + 2622 → YieldsCells (.neighbor p c t) s fun d => d = s.dev.at t) ∧
  (∀ s (p : Port), s.dev.cmd.held = [] → s.dev.zhepinOn = true → (s.dev.port p.val).up = true → YieldsCells (.neighborTimeout p) s fun d =>
    (d.port p.val).up = false ∧ (d.port p.val).last = none ∧ (d.port p.val).pingAt = none ∧ (∀ k, k ≠ p.val → d.port k = s.dev.port k) ∧
    (∀ i, (s.dev.port p.val).last = some i → i.state = 3 → bit d.flt.pf 55 = true) ∧ d.chans = s.dev.chans) ∧
  (∀ s (p : Port), s.dev.cmd.held = [] → (s.dev.port p.val).up = false → YieldsCells (.neighborTimeout p) s fun d => d = s.dev) ∧
  (∀ s (p : Port) t, s.dev.cmd.held = [] → s.dev.zhepinOn = true → (s.dev.port p.val).up = true → YieldsCells (.invalidHeaders p t) s fun d =>
    (d.port p.val).up = false ∧ (d.port p.val).validFrom = (s.dev.at t).time.now ∧
    (∀ i, (s.dev.port p.val).last = some i → i.state = 3 → bit d.flt.pf 55 = true)) ∧
  (∀ s (p : Port), s.dev.zhepinOn = true → Yields (.neighborSend p) s fun d =>
    ∃ c, d.reg.sent = (p.val, c) :: s.dev.reg.sent ∧ c.type = ctNEIGHBOR ∧ c.words.length = 3 ∧ c.lseq = (s.dev.port p.val).txSeq % 16 ∧
      (d.port p.val).txSeq = ((s.dev.port p.val).txSeq + 1) % 16 ∧ (∀ k, k ≠ p.val → d.port k = s.dev.port k) ∧ d.time = s.dev.time) ∧
  (∀ s (p : Port) c l, s.dev.zhepinOn = true → (s.dev.port p.val).up = true → c.crcOk = true → c.type = ctRESEND → c.words = [] →
    (s.dev.port p.val).sent.dropWhile (fun x => x.1 ≠ c.lseq) = l → Yields (.resend p c) s fun d =>
      d = { s.dev with reg := { s.dev.reg with sent := (l.map fun x => (p.val, x.2)).reverse ++ s.dev.reg.sent } })

/-- PING and ECHO (R331): each PING is stamped at its sending, is answered with its own T1 and with T2 and T3, and the exchange whose T1 returns gives θ and δ in half units
of the stamps; an ECHO that names another T1 changes nothing. -/
def Obligations.ExchangesMeasureOffsetAndDelay : Prop :=
  (∀ s (p : Port) t, s.dev.zhepinOn = true → (s.dev.port p.val).up = true → Yields (.pingSend p t) s fun d =>
    ∃ c, d.reg.sent = (p.val, c) :: s.dev.reg.sent ∧ c.type = ctPING ∧ (d.port p.val).pingAt = some (c.w 1) ∧ c.w 1 = s.dev.estimate t % 2 ^ 64 ∧
      (∀ k, k ≠ p.val → d.port k = s.dev.port k)) ∧
  (∀ s p c t, s.dev.Receives p c ctPING → (s.dev.port p.val).up = true → Yields (.ping p c t) s fun d =>
    ∃ a, d.reg.sent = (p.val, a) :: s.dev.reg.sent ∧ a.type = ctECHO ∧ a.w 1 = c.w 1 ∧ a.w 2 = s.dev.estimate t % 2 ^ 64 ∧ a.words.length = 3) ∧
  (∀ s p c t, s.dev.Receives p c ctECHO → (s.dev.port p.val).up = true → (s.dev.port p.val).pingAt = some (c.w 1) → s.dev.reg.state ≠ .aligning →
    Yields (.echo p c t) s fun d =>
      (d.port p.val).pingAt = none ∧
      (d.port p.val).theta = ((exchange (c.w 1) (c.w 2) (c.w 3) (s.dev.estimate t % 2 ^ 64) (s.dev.port p.val).trim).1 :: (s.dev.port p.val).theta).take 4096 ∧
      (d.port p.val).delta = ((exchange (c.w 1) (c.w 2) (c.w 3) (s.dev.estimate t % 2 ^ 64) (s.dev.port p.val).trim).2 :: (s.dev.port p.val).delta).take 4096 ∧
      (∀ k, k ≠ p.val → d.port k = s.dev.port k)) ∧
  (∀ s p c t, s.dev.Receives p c ctECHO → (s.dev.port p.val).up = true → (s.dev.port p.val).pingAt ≠ some (c.w 1) →
    Yields (.echo p c t) s fun d => d = s.dev.at t) ∧
  (∀ t1 t2 t3 t4 a, t1 < 2 ^ 62 → t2 < 2 ^ 62 → t3 < 2 ^ 62 → t4 < 2 ^ 62 →
    exchange t1 t2 t3 t4 a = (((t2 : Int) - t1) + ((t3 : Int) - t4) - 2 * a, ((t4 : Int) - t1) - ((t3 : Int) - t2)))

/-- EPOCH cells reset the holdover timer and name the mark (R324, R328); the timekeeper and a candidate broadcast them, and the candidate that remains becomes the timekeeper (R335);
5 ms without one bring HOLDOVER, and a deputy becomes a candidate (R332, R335).
A pulse edge is one after at least 4 low samples (R326): a member that joins keeps it for its mark, a registered device that finds it more than 160 tick units off its
mark sets MARK_BAD and raises bit 56 (R334), and a device that does not generate repeats it one reference period later (R326). A generating timekeeper drives
its marks, and the first of them is system time 0 (R326, R328). A member without a usable mark steps from its parent's time with MARK_MISS set (R328).
TIME_SLEW moves the timebase one tick unit toward the parent's time when |θ_f| is half a unit or more, over 4,096 exchanges and at most once a
millisecond, and otherwise leaves it (R332; log 50). -/
def Obligations.EpochsMarksAndSlewsKeepTheTime : Prop :=
  ((∀ s p c t, s.dev.cmd.held = [] → s.dev.Broadcasts p c ctEPOCH → s.dev.reg.state = .registered → YieldsCells (.epoch p c t) s fun d =>
    d.reg.epochAt = some (s.dev.at t).time.now ∧ d.reg.mark = bits (c.w 1) 31 0 ∧ d.reg.markTime = c.w 2 ∧ d.reg.state = .registered ∧
    (c.originValid = true → (∀ i, s.dev.reg.id = some i → c.origin < i) → d.reg.candidate = 0)) ∧
  (∀ s, s.dev.cmd.held = [] → s.dev.reg.state = .registered → s.dev.reg.timekeeper = true → s.dev.zhepinOn = true → YieldsCells .epochBroadcast s fun d =>
    d.reg.sent.length = s.dev.reg.sent.length + s.dev.portsUp.length ∧ (∀ x ∈ d.reg.sent.take s.dev.portsUp.length, x.2.type = ctEPOCH) ∧
    d.reg.timekeeper = true ∧ d.reg.state = .registered) ∧
  (∀ s, s.dev.cmd.held = [] → s.dev.reg.state = .registered → s.dev.reg.timekeeper = false → s.dev.reg.candidate = 2 → YieldsCells .epochBroadcast s fun d =>
    d.reg.timekeeper = true ∧ d.reg.candidate = 0 ∧ d.reg.tkId = s.dev.reg.id ∧ d.reg.path = 0 ∧ d.reg.parent = none ∧ d.time = s.dev.time) ∧
  (∀ s, s.dev.cmd.held = [] → (s.dev.reg.state ≠ .registered ∨ (s.dev.reg.timekeeper = false ∧ s.dev.reg.candidate = 0)) →
    YieldsCells .epochBroadcast s fun d => d = s.dev) ∧
  (∀ s, s.dev.cmd.held = [] → s.dev.reg.state = .registered → s.dev.reg.timekeeper = false → YieldsCells .epochTimeout s fun d =>
    d.reg = { s.dev.reg with parent := none, path := 63, better := none, candidate := if s.dev.reg.deputy then max 1 s.dev.reg.candidate else 0 } ∧
    d.time = s.dev.time ∧ d.chans = s.dev.chans) ∧
  (∀ s, s.dev.cmd.held = [] → s.dev.reg.timekeeper = true → YieldsCells .epochTimeout s fun d => d = s.dev)) ∧
  ((∀ s t low, s.dev.cmd.held = [] → low < 4 → YieldsCells (.regPulseEdge t low) s fun d => d = s.dev) ∧
  (∀ s t low, s.dev.cmd.held = [] → 4 ≤ low → s.dev.running = true → s.dev.blk bREG = true → s.dev.reg.state = .registered → s.dev.reg.timekeeper = false →
    YieldsCells (.regPulseEdge t low) s fun d =>
      d.reg.regOut = some ((s.dev.at t).time.now + 160) ∧
      (160 < markError s.dev.reg.markStep ((s.dev.at t).time.now - s.dev.reg.lambda * 160) →
        d.reg.markBad = true ∧ s.dev.Records d 56 0 10 (s.dev.at t).time.now) ∧
      (markError s.dev.reg.markStep ((s.dev.at t).time.now - s.dev.reg.lambda * 160) ≤ 160 → d.reg.markBad = s.dev.reg.markBad ∧ d.flt = s.dev.flt)) ∧
  (∀ s t low, s.dev.cmd.held = [] → 4 ≤ low → s.dev.running = true → s.dev.blk bREG = true → s.dev.reg.state = .joining → s.dev.reg.timekeeper = false →
    s.dev.reg.neighborSince = none → YieldsCells (.regPulseEdge t low) s fun d =>
      d.reg.edgeAt = some (s.dev.at t).time.now ∧ d.reg.state = .joining) ∧
  (∀ s, s.dev.running = true → s.dev.blk bREG = true → s.dev.reg.timekeeper = true → s.dev.reg.generate = true → s.dev.reg.state = .joining →
    Yields .markDrive s fun d => d.reg.state = .registered ∧ d.reg.id = some 0 ∧ d.time.now = 0 ∧ d.time.frame = 0 ∧ d.time.tick = 0 ∧
      d.time.localTime = false ∧ d.reg.regOut = some 0) ∧
  (∀ s, s.dev.running = true → s.dev.blk bREG = true → s.dev.reg.timekeeper = true → s.dev.reg.generate = true → s.dev.reg.state = .registered →
    s.dev.time.now % s.dev.reg.markStep = 0 → Yields .markDrive s fun d => d.reg.regOut = some s.dev.time.now ∧ d.reg.state = .registered) ∧
  (∀ s, (s.dev.reg.timekeeper = false ∨ s.dev.reg.generate = false) → Yields .markDrive s fun d => d = s.dev) ∧
  (∀ s q i, s.dev.cmd.held = [] → s.dev.reg.state = .joining → s.dev.reg.timekeeper = false → s.dev.reg.neighborSince.isSome = true → s.dev.reg.parent = some q →
    (s.dev.port q).last = some i → YieldsCells .markWaitTimeout s fun d =>
      d.reg.state = .aligning ∧ d.reg.markMiss = true ∧ d.time.n = s.dev.time.n) ∧
  (∀ s, s.dev.cmd.held = [] → s.dev.reg.state ≠ .joining → YieldsCells .markWaitTimeout s fun d => d = s.dev)) ∧
  ((∀ s, s.dev.reg.parent = none → Yields .timeSlew s fun d => d = s.dev) ∧
  (∀ s q, s.dev.reg.parent = some q → (s.dev.port q).theta.length < 4096 → Yields .timeSlew s fun d => d = s.dev) ∧
  (∀ s q, s.dev.reg.parent = some q → s.dev.reg.state = .registered → s.dev.reg.timekeeper = false → 4096 ≤ (s.dev.port q).theta.length →
    1 / 2 ≤ ratAbs ((s.dev.port q).thetaF + (s.dev.reg.frac : Rat) / 16) →
    (s.dev.reg.lastSlew = 0 ∨ s.dev.reg.lastSlew + msUnits ≤ s.dev.time.now) → Yields .timeSlew s fun d =>
      ((d.time.slew = s.dev.time.slew + 1 ∧ d.time.now = max s.dev.time.tick (s.dev.time.now + 1)) ∨
       (d.time.slew = s.dev.time.slew - 1 ∧ d.time.now = max s.dev.time.tick (s.dev.time.now - 1))) ∧
      d.time.frame = s.dev.time.frame ∧ d.time.tick = s.dev.time.tick ∧ d.chans = s.dev.chans))

/-! ### Cells between devices: events, arms, shares, requests and packets -/

/-- EVENT cells make the events of their mask visible in the next frame under the origin's stamp, and count as late beyond 3 µs (R337, R338); ARM cells load, cancel or, when D is
not beyond the next boundary, discard and count an arm (R339, R340). -/
def Obligations.EventAndArmCellsArrive : Prop :=
  (∀ s p c t, s.dev.Broadcasts p c ctEVENT → Yields (.eventCell p c t) s fun d =>
    d.events = s.dev.events ++ ((List.range 256).filter fun i => bit (c.w (2 + i / 64)) (i % 64)).map (fun i =>
      { ev := 640 + i, stamp := c.w 1 / 16, visible := s.dev.time.frame + 1, win := s.dev.nextTick - 1 }) ∧
    d.chans = s.dev.chans ∧ d.reg.state = s.dev.reg.state ∧
    (s.dev.reg.state = .registered → c.w 1 / 16 + 48000 < (s.dev.at t).time.now → d.reg.lateEvents = sat32 (s.dev.reg.lateEvents + 1)) ∧
    ((s.dev.at t).time.now ≤ c.w 1 / 16 + 48000 → d.reg.lateEvents = sat32 s.dev.reg.lateEvents)) ∧
  (∀ s p c t, s.dev.Broadcasts p c ctARM → s.dev.reg.state = .registered → Yields (.armCell p c t) s fun d =>
    (∀ k, k ≠ bits (c.w 2) 3 0 → d.arm? k = s.dev.arm? k) ∧
    (bit (c.w 2) 22 = true → d.arm? (bits (c.w 2) 3 0) = none) ∧
    (bit (c.w 2) 22 = false → c.w 1 / 16 ≤ s.dev.nextTick →
      d.arm? (bits (c.w 2) 3 0) = s.dev.arm? (bits (c.w 2) 3 0) ∧ d.reg.lateArms = sat32 (s.dev.reg.lateArms + 1)) ∧
    (bit (c.w 2) 22 = false → s.dev.nextTick < c.w 1 / 16 → d.arm? (bits (c.w 2) 3 0) =
      some { d := c.w 1 / 16, mask := bits (c.w 2) 19 4, release := bit (c.w 2) 20, event := bit (c.w 2) 21 })) ∧
  (∀ s p c t, s.dev.Broadcasts p c ctARM → s.dev.reg.state ≠ .registered → Yields (.armCell p c t) s fun d => d.arms = s.dev.arms)

/-- The ledger between an owner and its contributors (R342, R343): a LEDGER cell supplies its sender's terms to the owner, a STATE cell the share's state to the contributor, and at the
end of each window every share of a REGISTERED device sends its own; a share without cells for 64 frames and 6 µs counts as broken at the owner and as silent at the
contributor.
A contributor's REQ joins the owner's admission order under its own number; its CANCEL withdraws it (R344). A GRANT that starts at least two frames ahead
commits the span, and a WITHDRAW makes the request pending again (R344). -/
def Obligations.SharesAndRequestsCrossDevices : Prop :=
  ((∀ s p c t x, s.dev.cmd.held = [] → s.dev.Addressed p c ctLEDGER →
    (s.dev.share (shareOfKey (bits (c.w 1) 6 0))).role = 1 → (s.dev.share (shareOfKey (bits (c.w 1) 6 0))).contrib = [x] → x.dev = c.origin → x.broken = false →
    YieldsCells (.ledger p c t) s fun d => (d.share (shareOfKey (bits (c.w 1) 6 0))).contrib = [{ x with
      q := f32ToRat (BitVec.ofNat 32 (bits (c.w 2) 31 0)), r := f32ToRat (BitVec.ofNat 32 (bits (c.w 2) 63 32))
      temp := f32ToRat (BitVec.ofNat 32 (bits (c.w 3) 31 0)), bad := bit (c.w 3) 32, channels := bits (c.w 3) 42 33
      at_ := (s.dev.at t).time.now, broken := false, validSince := none }]) ∧
  (∀ s p c t, s.dev.cmd.held = [] → s.dev.Addressed p c ctLEDGER → (s.dev.share (shareOfKey (bits (c.w 1) 6 0))).role ≠ 1 →
    YieldsCells (.ledger p c t) s fun d => d = s.dev.at t) ∧
  (∀ s p c t i, s.dev.cmd.held = [] → s.dev.Addressed p c ctSTATE → s.dev.shareAtOwner c.origin (bits (c.w 1) 6 0) = some i →
    YieldsCells (.stateCell p c t) s fun d =>
      d.share i = { s.dev.share i with state := bits (c.w 1) 8 7, silent := false } ∧ (∀ k, k ≠ i → d.share k = s.dev.share k) ∧ d.chans = s.dev.chans) ∧
  (∀ s, s.dev.cmd.held = [] → s.dev.reg.state ≠ .registered → YieldsCells .ledgerWindowEnd s fun d => d = s.dev) ∧
  (∀ s i x, s.dev.cmd.held = [] → s.dev.reg.state = .registered → s.dev.imp.shares = [(i, x)] → x.role = 2 → s.dev.zhepinOn = true →
    s.dev.routePort x.ownerDev = some 0 → YieldsCells .ledgerWindowEnd s fun d =>
      ∃ c, d.reg.sent = (0, c) :: s.dev.reg.sent ∧ c.type = ctLEDGER ∧ c.words.length = 3 ∧ (d.share i).cnt = 0) ∧
  (∀ s i x, s.dev.cmd.held = [] → (s.dev.share i).role = 1 → (s.dev.share i).contrib = [x] → x.at_ + s.dev.silence ≤ s.dev.time.now →
    YieldsCells (.shareSilenceTimeout i) s fun d => d.share i = { s.dev.share i with contrib := [{ x with broken := true, validSince := none }] } ∧
      (∀ k, k ≠ i → d.share k = s.dev.share k)) ∧
  (∀ s i, s.dev.cmd.held = [] → (s.dev.share i).role = 2 → YieldsCells (.shareSilenceTimeout i) s fun d =>
    d = s.dev.setShare i { s.dev.share i with silent := true }) ∧
  (∀ s i, s.dev.cmd.held = [] → (s.dev.share i).role ≠ 1 → (s.dev.share i).role ≠ 2 → YieldsCells (.shareSilenceTimeout i) s fun d => d = s.dev)) ∧
  ((∀ s p c t, s.dev.cmd.held = [] → s.dev.Addressed p c ctREQ → s.dev.contributes c.origin = true → YieldsCells (.req p c t) s fun d =>
    ∃ q, d.imp.requests = (s.dev.imp.requests.filter fun x => x.origin ≠ some (c.origin, bits (c.w 2) 59 44)) ++ [q] ∧
      q.origin = some (c.origin, bits (c.w 2) 59 44) ∧ q.ch = bits (c.w 2) 43 35 ∧ q.cls = bits (c.w 2) 33 32 ∧ q.latch = c.w 5 / 16 ∧
      q.granted = false ∧ q.eligible = s.dev.time.frame ∧ d.chans = s.dev.chans) ∧
  (∀ s p c t, s.dev.cmd.held = [] → s.dev.Addressed p c ctREQ → s.dev.contributes c.origin = false →
    YieldsCells (.req p c t) s fun d => d.imp = s.dev.imp) ∧
  (∀ s p c t, s.dev.cmd.held = [] → s.dev.Addressed p c ctCANCEL → YieldsCells (.cancelCell p c t) s fun d =>
    d.imp.requests = (s.dev.imp.requests.filter fun q => q.origin ≠ some (c.origin, bits (c.w 1) 15 0)) ∧ d.chans = s.dev.chans) ∧
  (∀ s p c t q, s.dev.cmd.held = [] → s.dev.Addressed p c ctGRANT → s.dev.imp.requests = [q] → q.owner = some c.origin → q.id % 65536 = bits (c.w 1) 15 0 →
    q.origin = none → bit (c.w 1) 16 = false → s.dev.time.frame + 2 ≤ s.dev.frameOfTick (c.w 2) → YieldsCells (.grantCell p c t) s fun d =>
      d.imp.requests = [{ q with granted := true, start := s.dev.frameOfTick (c.w 2) }] ∧ (d.chan q.ch).seq.defto = false) ∧
  (∀ s p c t q, s.dev.cmd.held = [] → s.dev.Addressed p c ctGRANT → s.dev.imp.requests = [q] → q.owner = some c.origin → q.id % 65536 = bits (c.w 1) 15 0 →
    bit (c.w 1) 16 = true → YieldsCells (.grantCell p c t) s fun d =>
      d.imp.requests = [{ q with granted := false, start := 0 }] ∧ d.chans = s.dev.chans))

/-- MSG cells carry a packet's bytes to its end, an ACK frees the packet, and without an answer in 100 µs it goes out again, at most three times in all,
and is then dropped and counted as lost (R439). -/
def Obligations.PacketsCrossDevices : Prop :=
  (∀ s p c t, s.dev.cmd.held = [] → s.dev.Addressed p c ctMSG → bit (c.w 1) 58 = false → bit (c.w 1) 59 = false → bit (c.w 1) 56 = true →
    bit (c.w 1) 57 = false → YieldsCells (.msg p c t) s fun d =>
      d.queue.arriving = (s.dev.queue.arriving.filter fun a => !(a.dev == c.origin && a.sq == bits (c.w 1) 39 20)) ++
        [{ dev := c.origin, sq := bits (c.w 1) 39 20, dq := bits (c.w 1) 19 0, pnum := bits (c.w 1) 55 40, pkind := bits (c.w 1) 62 60, bytes := msgBytes c }] ∧
      d.queue.rings = s.dev.queue.rings ∧ d.chans = s.dev.chans) ∧
  (∀ s p c t a r, s.dev.cmd.held = [] → s.dev.Addressed p c ctMSG → bit (c.w 1) 58 = true → s.dev.queue.awaiting = [a] → a.answered = false →
    a.qid = bits (c.w 1) 19 0 → a.pnum = bits (c.w 1) 55 40 → s.dev.queue.rings = [(a.qid, r)] →
    r.headA = (r.tailA + a.bytes.length) % 2 ^ 32 → YieldsCells (.msg p c t) s fun d =>
      d.queue.awaiting = [] ∧ d.queue.rings = [(a.qid, { r with
        tailA := (r.tailA + a.bytes.length) % 2 ^ 32, tailB := (r.tailA + a.bytes.length) % 2 ^ 32, full := false })]) ∧
  (∀ s (q : BitVec 20) a r, s.dev.cmd.held = [] → s.dev.queue.awaiting = [a] → a.answered = false → a.qid = q.toNat → s.dev.ring? q.toNat = some r → a.sends < 3 →
    YieldsCells (.msgAnswerTimeout q) s fun d => d.queue.awaiting = [{ a with sends := a.sends + 1, sentAt := s.dev.time.now }] ∧ d.queue.rings = s.dev.queue.rings) ∧
  (∀ s (q : BitVec 20) a r, s.dev.cmd.held = [] → s.dev.queue.awaiting = [a] → a.answered = false → a.qid = q.toNat → s.dev.queue.rings = [(q.toNat, r)] →
    3 ≤ a.sends → r.headA = (r.tailA + a.bytes.length) % 2 ^ 32 → YieldsCells (.msgAnswerTimeout q) s fun d =>
      d.queue.awaiting = [] ∧ d.queue.rings = [(q.toNat, { r with lost := r.lost + a.entries
                                                                  tailA := (r.tailA + a.bytes.length) % 2 ^ 32
                                                                  tailB := (r.tailA + a.bytes.length) % 2 ^ 32
                                                                  full := false })]) ∧
  (∀ s (q : BitVec 20), s.dev.cmd.held = [] → s.dev.queue.awaiting = [] → YieldsCells (.msgAnswerTimeout q) s fun d => d = s.dev)

/-! ### The host's registers, doorbells, fast slots and SMBus -/

/-- A doorbell that names no ring of its function, or is not one 64-bit write, is dropped and counted with cause 3 (R358, R359). A TAIL within the ring's level is taken and one
beyond it sets BADPTR and counts a loss without moving the pointer (R427, R432); a HEAD that fits moves the ring's HEAD and one that does not sets OVERRUN (R427, R431). Without
the endpoint nothing reaches the device (R537).
A fast slot is taken 10 ns after it is written or after the take before it, and counted; one written again before it was taken is dropped and counted with cause 2, and a
command that cannot be taken by the boundary plus L sets LATE (R368, R369, R355). -/
def Obligations.DoorbellsAndFastSlots : Prop :=
  ((∀ s (f : Fin 64) i v one b t, s.dev.cmd.held = [] → s.dev.pcieUp = true → s.dev.running = true → s.dev.ringAtDoorbell f.val i = none →
    YieldsCells (.doorbell f i v one b t) s fun d =>
      (d.fn f.val).dbDrop = min (2 ^ 32 - 1) ((s.dev.fn f.val).dbDrop + 1) ∧ bit (d.fn f.val).intStatus 3 = true ∧ d.queue = s.dev.queue ∧
      d.cmd = s.dev.cmd ∧ (∀ k, k ≠ f.val → d.fn k = s.dev.fn k)) ∧
  (∀ s (f : Fin 64) i (v : Word64) b t q r, s.dev.cmd.held = [] → s.dev.pcieUp = true → s.dev.running = true → s.dev.ringAtDoorbell f.val i = some q →
    s.dev.ring? q = some r → s.dev.carried q = none → s.dev.ringSound q = true → bits v.toNat 51 32 = q → bits v.toNat 63 52 = 0 → s.dev.memDrops q r = false →
    s.dev.memHeld = false → eventRingOf q = none → r.halt = false → r.hostProduced = false → YieldsCells (.doorbell f i v true b t) s fun d =>
      (bits v.toNat 31 0 % 4 = 0 → (bits v.toNat 31 0 + 2 ^ 32 - r.tailA) % 2 ^ 32 ≤ r.level →
        d.ring? q = some { r with tailA := bits v.toNat 31 0, tailB := bits v.toNat 31 0, full := r.full && bits v.toNat 31 0 == r.tailA }) ∧
      (¬(bits v.toNat 31 0 % 4 = 0 ∧ (bits v.toNat 31 0 + 2 ^ 32 - r.tailA) % 2 ^ 32 ≤ r.level) →
        ∃ x, d.ring? q = some x ∧ x.badptr = true ∧ x.lost = r.lost + 1 ∧ x.tailA = r.tailA) ∧
      d.chans = s.dev.chans) ∧
  (∀ s (f : Fin 64) i (v : Word64) b t q r, s.dev.cmd.held = [] → s.dev.pcieUp = true → s.dev.running = true → s.dev.ringAtDoorbell f.val i = some q →
    s.dev.ring? q = some r → s.dev.carried q = none → s.dev.ringSound q = true → bits v.toNat 51 32 = q → bits v.toNat 63 52 = 0 → s.dev.memDrops q r = false →
    s.dev.memHeld = false → eventRingOf q = none → r.halt = false → r.kind = 0 → YieldsCells (.doorbell f i v true b t) s fun d =>
      (bits v.toNat 31 0 % 4 = 0 → (bits v.toNat 31 0 + 2 ^ 32 - r.headA) % 2 ^ 32 ≤ r.z → (bits v.toNat 31 0 + 2 ^ 32 - r.tailA) % 2 ^ 32 ≤ r.z - 4 →
        ∃ x, d.ring? q = some x ∧ x.headA = bits v.toNat 31 0 ∧ x.headB = bits v.toNat 31 0 ∧ x.overrun = r.overrun) ∧
      (bits v.toNat 31 0 % 4 ≠ 0 → ∃ x, d.ring? q = some x ∧ x.headA = r.headA ∧ x.overrun = true ∧ x.lost = r.lost + 1)) ∧
  (∀ s (f : Fin 64) i v one b t, s.dev.cmd.held = [] → s.dev.pcieUp = false → YieldsCells (.doorbell f i v one b t) s fun d => d = s.dev)) ∧
  ((∀ s (f k : Fin 64) b t, s.dev.cmd.held = [] → s.dev.pcieUp = true → s.dev.running = true → s.dev.blk bHCSM = true →
    (∀ x ∈ s.dev.fast, ¬(x.fn = f.val ∧ x.slot = k.val ∧ (s.dev.at t).time.now < x.takeAt)) → YieldsCells (.fastSlotWrite f k b t) s fun d =>
      d.fastLast = max (s.dev.at t).time.now s.dev.fastLast + 160 ∧
      { fn := f.val, slot := k.val, takeAt := max (s.dev.at t).time.now s.dev.fastLast + 160 } ∈ d.fast ∧
      (d.fn f.val).fpTaken = ((s.dev.fn f.val).fpTaken + 1) % 2 ^ 32 ∧ (d.fn f.val).fpDrop = (s.dev.fn f.val).fpDrop ∧
      (s.dev.nextTick + linkAllowance s.dev.time.n < max (s.dev.at t).time.now s.dev.fastLast + 160 → (d.fn f.val).late = true)) ∧
  (∀ s (f k : Fin 64) b t x, s.dev.cmd.held = [] → s.dev.pcieUp = true → s.dev.running = true → s.dev.blk bHCSM = true →
    x ∈ s.dev.fast → x.fn = f.val → x.slot = k.val → (s.dev.at t).time.now < x.takeAt → YieldsCells (.fastSlotWrite f k b t) s fun d =>
      (d.fn f.val).fpDrop = min (2 ^ 32 - 1) ((s.dev.fn f.val).fpDrop + 1) ∧ bit (d.fn f.val).intStatus 2 = true ∧ d.fast = s.dev.fast ∧
      d.chans = s.dev.chans ∧ d.queue = s.dev.queue))

/-- ADMIN_CTRL (R356): EN with sizes of 4 at most and aligned addresses is taken and readies the three admin rings in the result pool once the queue unit and the Case memory are
ready; clearing EN removes the rings and READY. -/
def Obligations.AdminRingsFollowTheirControl : Prop :=
  (∀ s (f : Fin 64) (v : BitVec 32), s.dev.cmd.held = [] → s.dev.pcieUp = true → s.dev.running = true → (s.dev.fn f.val).adminEn = false →
    YieldsCells (.adminEnable f v) s fun d =>
      d = s.dev.setFn f.val { s.dev.fn f.val with
        cmdSz := bits v.toNat 7 4, rplSz := bits v.toNat 11 8, evtSz := bits v.toNat 15 12
        adminEn := bit v.toNat 0 && decide (bits v.toNat 7 4 ≤ 4) && decide (bits v.toNat 11 8 ≤ 4) && decide (bits v.toNat 15 12 ≤ 4) &&
          (s.dev.fn f.val).cmdAddr % (4096 * 2 ^ bits v.toNat 7 4) == 0 && (s.dev.fn f.val).rplAddr % (4096 * 2 ^ bits v.toNat 11 8) == 0 &&
          (s.dev.fn f.val).evtAddr % (4096 * 2 ^ bits v.toNat 15 12) == 0 }) ∧
  (∀ s (f : Fin 64) (v : BitVec 32), s.dev.cmd.held = [] → s.dev.pcieUp = true → s.dev.running = true → YieldsCells (.adminDisable f v) s fun d =>
    (d.fn f.val).adminEn = false ∧ (d.fn f.val).adminReady = false ∧ d.ring? (4 * f.val) = none ∧ d.ring? (4 * f.val + 1) = none ∧
    d.ring? (4 * f.val + 2) = none ∧ (∀ q, q / 4 ≠ f.val → d.ring? q = s.dev.ring? q) ∧ d.chans = s.dev.chans) ∧
  (∀ s (f : Fin 64), s.dev.cmd.held = [] → (s.dev.fn f.val).adminEn = true → (s.dev.fn f.val).adminReady = false → s.dev.blk bQUEUE = true →
    s.dev.ready.caseR = 255 → s.dev.mem.poolSpans = [] → (s.dev.fn f.val).cmdSz = 0 → (s.dev.fn f.val).rplSz = 0 → (s.dev.fn f.val).evtSz = 0 →
    YieldsCells (.adminRingsReady f) s fun d => (d.fn f.val).adminReady = true ∧
      (∃ r, d.ring? (4 * f.val) = some r ∧ r.kind = 0 ∧ r.hostAddr = (s.dev.fn f.val).cmdAddr ∧ r.headA = 0 ∧ r.tailA = 0 ∧ r.pool = true ∧ r.admin = true) ∧
      (∃ r, d.ring? (4 * f.val + 1) = some r ∧ r.kind = 1 ∧ r.hostAddr = (s.dev.fn f.val).rplAddr ∧ r.headA = 0 ∧ r.tailA = 0) ∧
      (∃ r, d.ring? (4 * f.val + 2) = some r ∧ r.kind = 4 ∧ r.hostAddr = (s.dev.fn f.val).evtAddr ∧ r.headA = 0 ∧ r.tailA = 0)) ∧
  (∀ s (f : Fin 64), s.dev.cmd.held = [] → (s.dev.fn f.val).adminEn = false → YieldsCells (.adminRingsReady f) s fun d => d = s.dev)

/-- The registers of BAR0 (R353..R355): INT_STATUS and FP_STATUS.LATE clear where a 1 is written, FORCE is the physical function's and drives FAULT_N, and each address, mask and table
register stores what is written; a write to any other offset changes nothing.
SMBus (R376, R377, R538): while VDD_AON is present each block read returns its bytes and changes nothing else; FAULTN's FORCE is written unless the PEC is wrong, and the alert response
is the device's own address while it drives SMB_ALERT_N. -/
def Obligations.RegisterAndSmbusAccesses : Prop :=
  ((∀ s (f : Fin 64) (v : BitVec 32), s.dev.cmd.held = [] → s.dev.pcieUp = true → s.dev.running = true →
    YieldsCells (.intStatusClear f v) s (fun d =>
      d = s.dev.setFn f.val { s.dev.fn f.val with intStatus := (s.dev.fn f.val).intStatus &&& (31 - v.toNat % 32) }) ∧
    YieldsCells (.fpLateClear f v) s (fun d =>
      d = s.dev.setFn f.val { s.dev.fn f.val with late := (s.dev.fn f.val).late && !bit v.toNat 8 }) ∧
    YieldsCells (.faultnCtrlWrite f v) s (fun d =>
      d = (if f.val = 0 then { s.dev with aon := { s.dev.aon with force := bit v.toNat 0 } } else s.dev) ∧
      (f.val = 0 → bit v.toNat 0 = true → d.settle.pins.faultN = true))) ∧
  (∀ s (f : Fin 64) o (v : BitVec 32), s.dev.cmd.held = [] → s.dev.pcieUp = true → s.dev.running = true → YieldsCells (.registerWrite f o v) s fun d =>
    (o = 0x10008 → d = s.dev.setFn f.val { s.dev.fn f.val with cmdAddr := (s.dev.fn f.val).cmdAddr / 2 ^ 32 * 2 ^ 32 + v.toNat }) ∧
    (o = 0x1000C → d = s.dev.setFn f.val { s.dev.fn f.val with cmdAddr := (s.dev.fn f.val).cmdAddr % 2 ^ 32 + v.toNat * 2 ^ 32 }) ∧
    (o = 0x10010 → d = s.dev.setFn f.val { s.dev.fn f.val with rplAddr := (s.dev.fn f.val).rplAddr / 2 ^ 32 * 2 ^ 32 + v.toNat }) ∧
    (o = 0x10014 → d = s.dev.setFn f.val { s.dev.fn f.val with rplAddr := (s.dev.fn f.val).rplAddr % 2 ^ 32 + v.toNat * 2 ^ 32 }) ∧
    (o = 0x10018 → d = s.dev.setFn f.val { s.dev.fn f.val with evtAddr := (s.dev.fn f.val).evtAddr / 2 ^ 32 * 2 ^ 32 + v.toNat }) ∧
    (o = 0x1001C → d = s.dev.setFn f.val { s.dev.fn f.val with evtAddr := (s.dev.fn f.val).evtAddr % 2 ^ 32 + v.toNat * 2 ^ 32 }) ∧
    (o = 0x10024 → d = s.dev.setFn f.val { s.dev.fn f.val with intMask := v.toNat % 32, evtn := f.val == 0 && bit v.toNat 31 }) ∧
    (o = 0x10028 → d = s.dev.setFn f.val { s.dev.fn f.val with noticeMask := v.toNat % 2048 / 2 * 2 }) ∧
    (∀ e, e < 64 → o = 0x80000 + 16 * e + 12 → (tabGet {} (d.fn f.val).msix e).mask = bit v.toNat 0 ∧
      (bit v.toNat 0 = false → bit (s.dev.fn f.val).pba e = true → (d.fn f.val).msixSent = e :: (s.dev.fn f.val).msixSent)) ∧
    (o < 0x10000 → d = s.dev) ∧ (0x80400 ≤ o → d = s.dev))) ∧
  ((∀ s, s.dev.aon.vddAon = true →
    Yields .smbIdent s (fun d => d = { s.dev with pins := { s.dev.pins with
      smbData := le16 0x9512 ++ [stepping, 0] ++ (le32 s.dev.aon.fwVersion).take 3 ++ [BitVec.ofNat 8 s.dev.otp.lc] } }) ∧
    Yields .smbMode s (fun d => d = { s.dev with pins := { s.dev.pins with
      smbData := le32 (if s.dev.mode.phase = .held then s.dev.mode.word / 16 * 16 + 1 else s.dev.mode.word) } }) ∧
    Yields .smbPfWord s (fun d => d = { s.dev with pins := { s.dev.pins with smbData := le64 s.dev.flt.pf } }) ∧
    Yields .smbDie s (fun d => d = { s.dev with pins := { s.dev.pins with
      smbData := le16 (ofSigned 16 s.dev.dieTemp16) ++ [BitVec.ofNat 8 s.dev.imp.die.state, 0] } }) ∧
    Yields .smbDiodes s (fun d => d = { s.dev with pins := { s.dev.pins with
      smbData := ((List.range 4).map fun i => Reading.bytes16 (tabGet noReading s.dev.aon.diodes i)).flatten } }) ∧
    Yields .smbSensors s (fun d => d = { s.dev with pins := { s.dev.pins with
      smbData := ((List.range 48).map fun i => Reading.bytes16 (tabGet noReading s.dev.aon.dieSensors i)).flatten } }) ∧
    Yields .smbSerial s (fun d => d = { s.dev with pins := { s.dev.pins with smbData := serial } }) ∧
    Yields .smbReadFaultn s (fun d => ∃ b, d = { s.dev with pins := { s.dev.pins with smbData := [b] } } ∧
      (bit b.toNat 0 = s.dev.aon.force) ∧ (bit b.toNat 1 = (s.dev.running && (s.dev.aon.force || s.dev.flt.pf ≠ 0)))) ∧
    (∀ (v : Byte), Yields (.smbWriteFaultn v true) s fun d => d = { s.dev with aon := { s.dev.aon with force := bit v.toNat 0 } }) ∧
    (∀ (v : Byte), Yields (.smbWriteFaultn v false) s fun d => d = s.dev) ∧
    (s.dev.pinsOf.smbAlertN = true → Yields .smbAlertResponse s fun d =>
      d = { s.dev with pins := { s.dev.pins with smbData := [BitVec.ofNat 8 (s.dev.aon.smbAddr * 2)] } }) ∧
    (s.dev.pinsOf.smbAlertN = false → Yields .smbAlertResponse s fun d => d = s.dev)) ∧
  (∀ s, s.dev.aon.vddAon = false → Yields .smbIdent s (fun d => d = s.dev) ∧ Yields .smbPfWord s (fun d => d = s.dev) ∧ Yields .smbMode s (fun d => d = s.dev)))

/-! ### Main memory, lifecycle and update -/

/-- The end of a rate change releases the ports and answers with the rate (R461); the end of a rebuild puts the device in service unless the die is in HOLD (R466, R311); a row copy
that ends is remapped and journalled (R464).
The controller's own work (R450, R456, R457, R469): a refresh at its deadline closes the bank's row, a combined write leaves after 1 µs, an idle bank's page counter falls and its
row closes below 2, and scrub moves on, unless main memory is out of service or the die is in HOLD. -/
def Obligations.MemoryEventsComplete : Prop :=
  ((∀ s f, s.dev.cmd.held = [] → s.dev.mem.freq = some f → f.running = true → s.dev.mem.jobs = [] → s.dev.queue.doorbells = [] →
    YieldsCells .memFreqComplete s fun d =>
      d = Device.final { s.dev with mem := { s.dev.mem with freq := none } } f.env stOK (leF32 (rateF32 s.dev.mem.rate))) ∧
  (∀ s, s.dev.cmd.held = [] → s.dev.mem.freq = none → YieldsCells .memFreqComplete s fun d => d = s.dev) ∧
  (∀ s (m : Fin 5), s.dev.cmd.held = [] → (s.dev.memDev m.val).state = .rebuilding → s.dev.imp.die.state ≠ 2 → s.dev.shutDown = false → s.dev.mem.restores = [] →
    YieldsCells (.rebuildComplete m) s fun d => d = s.dev.setMemDev m.val { s.dev.memDev m.val with state := .inService }) ∧
  (∀ s (m : Fin 5), s.dev.cmd.held = [] → ((s.dev.memDev m.val).state ≠ .rebuilding ∨ s.dev.imp.die.state = 2) →
    YieldsCells (.rebuildComplete m) s fun d => d = s.dev) ∧
  (∀ s (m : Fin 5) c, s.dev.cmd.held = [] → (s.dev.memDev m.val).copies = [c] → c.started = true → YieldsCells (.rowCopyComplete m) s fun d =>
    (d.memDev m.val).copies = [] ∧
    (d.memDev m.val).remap = ((s.dev.memDev m.val).remap.filter fun r => r.1 ≠ c.bank * 65536 + c.row) ++ [(c.bank * 65536 + c.row, c.spare)] ∧
    (∀ k, k ≠ m.val → d.memDev k = s.dev.memDev k) ∧
    (s.dev.aon.jbuf.length < 128 → ∃ r, d.aon.jbuf = s.dev.aon.jbuf ++ [r] ∧ r.kind = 5 ∧ r.payload = rowRecord m.val c.bank c.row c.spare false)) ∧
  (∀ s (m : Fin 5), s.dev.cmd.held = [] → (s.dev.memDev m.val).copies = [] → YieldsCells (.rowCopyComplete m) s fun d => d = s.dev)) ∧
  ((∀ s (m : Fin 5) b, (s.dev.memDev m.val).state ≠ .retired → Yields (.refreshDeadline m b) s fun d =>
    d = s.dev.setMemDev m.val { s.dev.memDev m.val with
      banks := tabSet {} (s.dev.memDev m.val).banks b { tabGet {} (s.dev.memDev m.val).banks b with debt := 7, openRow := none } }) ∧
  (∀ s (m : Fin 5) b, (s.dev.memDev m.val).state = .retired → Yields (.refreshDeadline m b) s fun d => d = s.dev) ∧
  (∀ s, Yields .writeCombineTimeout s fun d => d = { s.dev with mem := { s.dev.mem with pending := s.dev.mem.pending.drop 1 } }) ∧
  (∀ s (m : Fin 5) b r, (tabGet {} (s.dev.memDev m.val).banks b).last = some r → Yields (.pageIdleTimeout m b) s fun d =>
    (tabGet {} (d.memDev m.val).banks b).page = (tabGet {} (s.dev.memDev m.val).banks b).page - 1 ∧ (tabGet {} (d.memDev m.val).banks b).last = none ∧
    (tabGet {} (d.memDev m.val).banks b).openRow =
      (if 2 ≤ (tabGet {} (s.dev.memDev m.val).banks b).page - 1 then (tabGet {} (s.dev.memDev m.val).banks b).openRow else none) ∧
    (∀ k, k ≠ m.val → d.memDev k = s.dev.memDev k)) ∧
  (∀ s r, s.dev.blk bMEMCTL = true → s.dev.mem.outOfService = false → s.dev.imp.die.state ≠ 2 → s.dev.shutDown = false → Yields (.scrub r) s fun d =>
    d = { s.dev with mem := { s.dev.mem with scrubAt := r % 32768, scrubFrom := if r = 0 then s.dev.time.now else s.dev.mem.scrubFrom } }) ∧
  (∀ s r, (s.dev.mem.outOfService = true ∨ s.dev.imp.die.state = 2) → Yields (.scrub r) s fun d => d = s.dev))

/-- A lifecycle wipe ends in BRING-UP in the new state, with the state in OTP and, for a returned part, the flash erased but for the boot banks (R517). A staged image that is
authentic and not barred is ready for the switch and any other is refused (R518); the switch makes it the running one, persistently where asked, or leaves the old one (R519). -/
def Obligations.LifecycleAndUpdateComplete : Prop :=
  (∀ s, s.dev.cmd.held = [] → s.dev.mode.phase = .wipe → YieldsCells .wipeComplete s fun d =>
    d.mode.phase = .bringUp ∧ d.otp.lc = s.dev.mode.wipeTarget ∧ d.otp.transitions = s.dev.otp.transitions + 1 ∧ d.flash.banks = s.dev.flash.banks ∧
    (s.dev.mode.wipeTarget ≠ 3 → d.flash.journal = s.dev.flash.journal ∧ d.flash.configs = s.dev.flash.configs) ∧
    (s.dev.mode.wipeTarget = 3 → d.flash.journal = [] ∧ d.flash.configs = [] ∧ d.flash.customer = []) ∧
    d.chans = [] ∧ d.store = {} ∧ d.queue = {} ∧ d.flt.pf = 0 ∧ d.ready = { blk := 1 }) ∧
  (∀ s, s.dev.cmd.held = [] → s.dev.mode.phase ≠ .wipe → YieldsCells .wipeComplete s fun d => d = s.dev) ∧
  (∀ s e up, s.dev.cmd.held = [] → s.dev.update.completing = some e → s.dev.update.upload = some up → s.dev.update.isConfig = false →
    YieldsCells (.updStageComplete true) s fun d =>
      (u32At up.bytes 16 ≤ s.dev.press.version → s.dev.otp.floor ≤ u32At up.bytes 12 →
        d.mode.updStaged = true ∧ d.update.stagedVersion = u32At up.bytes 8 ∧ (tabGet {} d.flash.banks (1 - s.dev.press.bank)).authentic = true ∧
        (tabGet {} d.flash.banks (1 - s.dev.press.bank)).image = up.bytes) ∧
      (¬(u32At up.bytes 16 ≤ s.dev.press.version ∧ s.dev.otp.floor ≤ u32At up.bytes 12) →
        d.mode.updStaged = s.dev.mode.updStaged ∧ (tabGet {} d.flash.banks (1 - s.dev.press.bank)).authentic = false) ∧
      d.update.upload = none ∧ d.update.completing = none ∧ d.press = s.dev.press) ∧
  (∀ s e up, s.dev.cmd.held = [] → s.dev.update.completing = some e → s.dev.update.upload = some up → s.dev.update.isConfig = false →
    YieldsCells (.updStageComplete false) s fun d => d.mode.updStaged = s.dev.mode.updStaged ∧ d.update.completing = none ∧
      (tabGet {} d.flash.banks (1 - s.dev.press.bank)).authentic = false) ∧
  (∀ s, s.dev.cmd.held = [] → s.dev.mode.updActive = true → YieldsCells (.updateEnd true) s fun d =>
    d.press.bank = 1 - s.dev.press.bank ∧ d.press.version = s.dev.update.stagedVersion ∧ d.aon.fwVersion = s.dev.update.stagedVersion ∧
    d.mode.update = false ∧ d.mode.updActive = false ∧ d.mode.updStaged = false ∧
    d.flash.bootBank = (if s.dev.update.persist then 1 - s.dev.press.bank else s.dev.flash.bootBank) ∧
    d.otp.floor = (if s.dev.update.persist then max s.dev.otp.floor s.dev.update.stagedSecurity else s.dev.otp.floor) ∧ d.chans = s.dev.chans) ∧
  (∀ s, s.dev.cmd.held = [] → s.dev.mode.updActive = true → YieldsCells (.updateEnd false) s fun d =>
    d.press = s.dev.press ∧ d.mode.update = false ∧ d.mode.updActive = false ∧ d.flash = s.dev.flash ∧ d.otp = s.dev.otp ∧ d.chans = s.dev.chans) ∧
  (∀ s b, s.dev.cmd.held = [] → s.dev.mode.updActive = false → YieldsCells (.updateEnd b) s fun d => d = s.dev) ∧
  (∀ s j, s.dev.cmd.held = [] → s.dev.ret = some j → YieldsCells .retRecordComplete s fun d =>
    d = Device.final { s.dev with ret := none } j.env stOK (le32 j.len ++ le32 j.crc)) ∧
  (∀ s, s.dev.cmd.held = [] → s.dev.ret = none → YieldsCells .retRecordComplete s fun d => d = s.dev)

/-! ### Faults, the Press and the journal -/

/-- An error line that rises is latched, sets its PF_WORD bit, is written to its error word and drives FAULT_N (R472, R474, R478); an event fed by a block in an open shadow is consequential: it sets no
bit and is kept with the shadow's cause (R488, R489). At the shadow's end a consequential event whose detector still fails becomes an event (R490).
The journal (R313, R521..R524): a buffered record is programmed at the next index, a sector that still holds records is erased first, the hourly record starts the next hour, and an erase runs only below
115 °C outside HOLD and ends with its sector clear. -/
def Obligations.ErrorsAndTheJournal : Prop :=
  ((∀ s e t, s.dev.cmd.held = [] → s.dev.running = true → e.fedBy = none → e.real = true → e.inj = false → YieldsCells (.errorLineRise e t) s fun d =>
    s.dev.Records d e.bit.val e.unit.val e.check.toNat t ∧ d.settle.pins.faultN = true ∧
    (e.bit.val = 47 → bit d.ready.caseBad e.region.val = true ∧ bit d.ready.caseClr e.region.val = true) ∧
    (e.bit.val ≠ 47 → d.ready = s.dev.ready) ∧ d.chans = s.dev.chans ∧ d.mode = s.dev.mode) ∧
  (∀ s e t b x, s.dev.cmd.held = [] → e.fedBy = some b → e.real = true → e.inj = false → neverConseq e = false →
    s.dev.flt.shadows.find? (fun y => y.block == b) = some x → YieldsCells (.errorLineRise e t) s fun d =>
      d.flt.pf = s.dev.flt.pf ∧ d.flt.events = s.dev.flt.events ∧ d.flt.latched = s.dev.flt.latched ∧
      d.flt.shadowFlags = setBit s.dev.flt.shadowFlags e.bit.val ∧ d.flt.conseq = s.dev.flt.conseq ++ [(e, x.cause)]) ∧
  (∀ s b, s.dev.cmd.held = [] → s.dev.flt.shadows.find? (fun y => y.block == b) = none → ∀ l, YieldsCells (.shadowEnd b l) s fun d => d = s.dev) ∧
  (∀ s b x, s.dev.cmd.held = [] → s.dev.flt.shadows.find? (fun y => y.block == b) = some x → YieldsCells (.shadowEnd b []) s fun d =>
    d.flt.shadows = (s.dev.flt.shadows.filter fun y => y.block ≠ b) ∧ d.flt.pf = s.dev.flt.pf ∧ d.chans = s.dev.chans) ∧
  (∀ s b x e, s.dev.cmd.held = [] → s.dev.flt.shadows.find? (fun y => y.block == b) = some x → (e, x.cause) ∈ s.dev.flt.conseq →
    YieldsCells (.shadowEnd b [e]) s fun d => bit d.flt.pf e.bit.val = true)) ∧
  ((∀ s, s.dev.aon.jbuf = [] → Yields .journalProgram s fun d => d = s.dev) ∧
  (∀ s r, s.dev.imp.die.shutdown = false → s.dev.aon.vddAon = true → s.dev.aon.jbuf = [r] → s.dev.flash.jcount % 1024 ≠ 0 → Yields .journalProgram s fun d =>
    d.aon.jbuf = [] ∧ tabGet [] d.flash.journal s.dev.flash.jcount = r.bytes s.dev.flash.jcount ∧ d.flash.jcount = (s.dev.flash.jcount + 1) % 2 ^ 32 ∧
    (∀ k, k ≠ s.dev.flash.jcount → tabGet [] d.flash.journal k = tabGet [] s.dev.flash.journal k)) ∧
  (∀ s, s.dev.imp.die.shutdown = false → s.dev.aon.vddAon = true → s.dev.aon.jbuf ≠ [] → s.dev.flash.needsErase = true → s.dev.flash.erases = [] →
    Yields .journalProgram s fun d => d.flash.erases = [{ sector := 0x202 + s.dev.flash.jcount / 1024 % 64, running := false }] ∧
      d.aon.jbuf = s.dev.aon.jbuf ∧ d.flash.journal = s.dev.flash.journal) ∧
  (∀ s, s.dev.aon.vddAon = true → Yields .hourlyHistory s fun d =>
    d.aon.hours = s.dev.aon.hours + 1 ∧ d.aon.hourCount = 0 ∧ d.aon.hotSeconds = 0 ∧
    (s.dev.aon.jbuf.length < 128 → ∃ r, d.aon.jbuf = s.dev.aon.jbuf ++ [r] ∧ r.kind = 11) ∧ d.flt.pf = s.dev.flt.pf ∧ d.chans = s.dev.chans) ∧
  (∀ s e l, s.dev.flash.erases = e :: l → (∀ x ∈ e :: l, x.running = false) → s.dev.imp.die.shutdown = false → s.dev.imp.die.temp < 115 → s.dev.imp.die.state ≠ 2 →
    Yields .sectorEraseStart s fun d => d = { s.dev with flash := { s.dev.flash with erases := { e with running := true } :: l, busy := true } }) ∧
  (∀ s, (s.dev.imp.die.shutdown = true ∨ 115 ≤ s.dev.imp.die.temp ∨ s.dev.imp.die.state = 2) → Yields .sectorEraseStart s fun d => d = s.dev) ∧
  (∀ s e, s.dev.flash.erases = [e] → e.running = true → Yields .sectorEraseComplete s fun d =>
    d.flash.erases = [] ∧ d.flash.busy = false ∧
    (0x202 ≤ e.sector → e.sector ≤ 0x241 → d.flash.journal = s.dev.flash.journal.filter fun r => r.1 / 1024 % 64 ≠ e.sector - 0x202) ∧
    (e.sector = 0x200 ∨ e.sector = 0x201 → tabFind d.flash.configs (e.sector - 0x200) = none) ∧ d.aon = s.dev.aon ∧ d.chans = s.dev.chans) ∧
  (∀ s, s.dev.flash.erases = [] → Yields .sectorEraseComplete s fun d => d = s.dev))

/-- FAULT_REACTION carries out the reactions of the latched events (R480, R482): LOG does nothing more, PARK_CHANNELS parks its channels with cause 0x2 from 20 ns after the event,
and SAFE asks for SAFE there.
A lockstep mismatch hands over to a ready standby pair or, without one, stops the Press; PRESS_ALT sets and bit 57 rises with CHECK 0x5 (R485). A reload that passes brings the pair
back, as standby or as the only pair, and one that fails keeps it out of service, with SAFE for the only pair (R485). A Proofreader mismatch raises bit 63 with CHECK 0x5 and asks for
SAFE whatever its reaction (R487). -/
def Obligations.ReactionsAndFailover : Prop :=
  ((∀ s, s.dev.cmd.held = [] → s.dev.flt.latched = [] → YieldsCells .faultReaction s fun d => d = s.dev) ∧
  (∀ s l, s.dev.cmd.held = [] → s.dev.flt.latched = [l] → l.ev.inj = false → l.reaction = 0 → YieldsCells .faultReaction s fun d =>
    d = { s.dev with flt := { s.dev.flt with latched := [] } }) ∧
  (∀ s l ch, s.dev.cmd.held = [] → s.dev.flt.latched = [l] → l.ev.inj = false → l.reaction = 2 → s.dev.mode.phase ≠ .returned → ch ∈ s.dev.parkTargets l.ev →
    (s.dev.chan ch).arm ≠ .parked → (s.dev.chan ch).parkPend = none → YieldsCells .faultReaction s fun d =>
      (d.chan ch).parkPend = some (2, l.stamp + 320)) ∧
  (∀ s l, s.dev.cmd.held = [] → s.dev.flt.latched = [l] → l.ev.inj = false → l.reaction = 6 → s.dev.mode.phase ≠ .returned → YieldsCells .faultReaction s fun d =>
    d.mode.pending = s.dev.mode.pending ++ [(l.stamp + 320, s.dev.cmd.nextAcc, .safe 2)] ∧ d.chans = s.dev.chans)) ∧
  ((∀ s t, s.dev.cmd.held = [] → s.dev.mode.updActive = false → s.dev.press.standbyReady = true → YieldsCells (.pressLockstepMismatch false t) s fun d =>
    s.dev.Records d 57 0 5 t ∧ d.press = { s.dev.press with pair := 1 - s.dev.press.pair, standbyReady := false, alt := true, reloading := some false } ∧
    d.cmd = s.dev.cmd ∧ d.chans = s.dev.chans) ∧
  (∀ s t, s.dev.cmd.held = [] → s.dev.mode.updActive = false → s.dev.press.standbyReady = false → YieldsCells (.pressLockstepMismatch false t) s fun d =>
    s.dev.Records d 57 0 5 t ∧ d.press = { s.dev.press with active := false, alt := true, reloading := some true } ∧
    d.ready = { s.dev.ready with blkClr := setBit s.dev.ready.blkClr bPRESS }) ∧
  (∀ s t, s.dev.cmd.held = [] → s.dev.mode.updActive = false → YieldsCells (.pressLockstepMismatch true t) s fun d =>
    s.dev.Records d 57 0 5 t ∧ d.press = { s.dev.press with standbyReady := false, alt := true, reloading := some false } ∧ d.ready = s.dev.ready) ∧
  (∀ s, s.dev.cmd.held = [] → s.dev.press.reloading = some false →
    YieldsCells (.pressReloadComplete true) s (fun d => d = { s.dev with
      press := { s.dev.press with reloading := none, standbyReady := true, standbyOut := false, alt := false }
      ready := { s.dev.ready with blkNext := setBit s.dev.ready.blkNext bPRESSSB } }) ∧
    YieldsCells (.pressReloadComplete false) s (fun d => d = { s.dev with
      press := { s.dev.press with reloading := none, standbyOut := true, alt := true }
      ready := { s.dev.ready with blkClr := setBit s.dev.ready.blkClr bPRESSSB } })) ∧
  (∀ s, s.dev.cmd.held = [] → s.dev.press.reloading = some true →
    YieldsCells (.pressReloadComplete true) s (fun d => d.press = { s.dev.press with reloading := none, active := true } ∧
      d.ready = { s.dev.ready with blkNext := setBit s.dev.ready.blkNext bPRESS }) ∧
    YieldsCells (.pressReloadComplete false) s (fun d => d.press = { s.dev.press with reloading := none, dead := true } ∧
      d.mode.pending = s.dev.mode.pending ++ [(s.dev.nextTick, s.dev.cmd.nextAcc, .safe 2)])) ∧
  (∀ s b, s.dev.cmd.held = [] → s.dev.press.reloading = none → YieldsCells (.pressReloadComplete b) s fun d => d = s.dev) ∧
  (∀ s t, s.dev.cmd.held = [] → YieldsCells (.proofreaderMismatch t) s fun d =>
    s.dev.Records d 63 0 5 t ∧ d.flt.mismatch = true ∧
    (s.dev.mode.phase ≠ .returned → ∃ l ∈ d.flt.latched, l.id = s.dev.flt.nextId ∧ l.reaction = 6) ∧ d.chans = s.dev.chans))

/-! ### The device as a whole -/

/-- A step runs the command at the front of the queue on the rest of the state, and takes it off the queue. That a step on an empty queue
changes nothing is the model's choice (log 2). -/
def Obligations.StepsRunTheFrontCommand : Prop :=
  (∀ (c : Instr) (s : State) (l : List Instr), step { s with pending := c :: l } = exec c { s with pending := l }) ∧
  (∀ s : State, step { s with pending := [] } = .next { s with pending := [] })

/-- Every command answers a next state, whatever the state, and leaves the commands that wait as they are. -/
def Obligations.EveryCommandAnswersANextState : Prop :=
  ∀ (c : Instr) (s : State), ∃ t, exec c s = .next t ∧ t.pending = s.pending

/-- What the model's state after reset holds: BRING-UP (MODE_STATUS reads 0x2 in MODE), LOCAL_TIME, no PF_WORD bit, FORCE clear, no block
or engine ready but the always-on domain, no ring, every channel parked in OFF, no zone or rail enabled, no output
driven, an empty memory. That the model starts where HELD has just been left, and its lifecycle state, are the model's choice (log 1). -/
def Obligations.ResetLeavesTheDeviceInBringUp : Prop :=
  State.reset.pending = [] ∧ State.reset.dev.mode.phase = .bringUp ∧ State.reset.dev.mode.word % 16 = 2 ∧ bit State.reset.dev.mode.word 21 = true ∧
  State.reset.dev.flt.pf = 0 ∧ State.reset.dev.aon.force = false ∧ State.reset.dev.ready.eng = 0 ∧ State.reset.dev.ready.blk = 1 ∧
  State.reset.dev.ready.links = 0 ∧
  (∀ q, State.reset.dev.ring? q = none) ∧ (∀ i, (State.reset.dev.chan i).arm = .parked ∧ (State.reset.dev.chan i).cfg.func = fnOFF) ∧
  (∀ z, (State.reset.dev.zone z).enabled = false ∧ (State.reset.dev.rail z).enabled = false) ∧ State.reset.dev.reg.state = .unjoined ∧
  State.reset.dev.pins.faultN = false ∧ State.reset.dev.pins.evtN = false ∧ State.reset.dev.pins.smbAlertN = false ∧
  State.reset.dev.pins.vfSummary = 0 ∧ (∀ a, cellGet State.reset.dev.store.mem a = 0) ∧ State.reset.dev.pins = State.reset.dev.pinsOf

/-- The outputs follow the state at every step, from every state in which they do: FAULT_N is driven while FORCE is set or a PF_WORD bit is
uncleared (R354), EVT_N while EVTN is set and the PF has a cause that INT_MASK enables (R355), SMB_ALERT_N while DRIVE is set or the die
budget is in THROTTLE or HOLD (R538), none of them in OFF or HELD; bit f of VF_INT_SUMMARY while function f has such a cause (R353). -/
def Obligations.OutputsFollowEveryStep : Prop :=
  ∀ s t : State,
    ((s.dev.pins.faultN = true ↔ s.dev.mode.phase ≠ .off ∧ s.dev.mode.phase ≠ .held ∧ (s.dev.aon.force = true ∨ s.dev.flt.pf ≠ 0)) ∧
     (s.dev.pins.evtN = true ↔ s.dev.mode.phase ≠ .off ∧ s.dev.mode.phase ≠ .held ∧ (s.dev.fn 0).evtn = true ∧
       ((s.dev.fn 0).intStatus &&& (s.dev.fn 0).intMask) % 32 ≠ 0) ∧
     (s.dev.pins.smbAlertN = true ↔ s.dev.mode.phase ≠ .off ∧ s.dev.mode.phase ≠ .held ∧
       (s.dev.aon.force = true ∨ s.dev.flt.pf ≠ 0 ∨ s.dev.imp.die.state ≠ 0)) ∧
     s.dev.pins.vfSummary = s.dev.fns.foldl (fun w f => w + (if (f.2.intStatus &&& f.2.intMask) % 32 = 0 then 0 else 2 ^ f.1)) 0) →
    step s = .next t →
    ((t.dev.pins.faultN = true ↔ t.dev.mode.phase ≠ .off ∧ t.dev.mode.phase ≠ .held ∧ (t.dev.aon.force = true ∨ t.dev.flt.pf ≠ 0)) ∧
     (t.dev.pins.evtN = true ↔ t.dev.mode.phase ≠ .off ∧ t.dev.mode.phase ≠ .held ∧ (t.dev.fn 0).evtn = true ∧
       ((t.dev.fn 0).intStatus &&& (t.dev.fn 0).intMask) % 32 ≠ 0) ∧
     (t.dev.pins.smbAlertN = true ↔ t.dev.mode.phase ≠ .off ∧ t.dev.mode.phase ≠ .held ∧
       (t.dev.aon.force = true ∨ t.dev.flt.pf ≠ 0 ∨ t.dev.imp.die.state ≠ 0)) ∧
     t.dev.pins.vfSummary = t.dev.fns.foldl (fun w f => w + (if (f.2.intStatus &&& f.2.intMask) % 32 = 0 then 0 else 2 ^ f.1)) 0)

/-- FAULTN_CTRL and FAULT_N (R354): the register's three bits and no other, FORCE as the physical function writes it and as no other
function does, FAULT_N driven while FORCE is set or a PF_WORD bit is uncleared and never in OFF or HELD, after every command; and after
reset FORCE and DRIVE clear. -/
def Obligations.FaultnFollowsItsControl : Prop :=
  (∀ d : Device, d.faultnCtrl < 8 ∧ bit d.faultnCtrl 0 = d.aon.force ∧ bit d.faultnCtrl 1 = d.pinsOf.faultN ∧
    bit d.faultnCtrl 2 = (d.pinsOf.faultN || d.aon.faultLineExt)) ∧
  (∀ (c : Instr) (s t : State), exec c s = .next t →
    (t.dev.pins.faultN = true ↔ t.dev.mode.phase ≠ .off ∧ t.dev.mode.phase ≠ .held ∧ (t.dev.aon.force = true ∨ t.dev.flt.pf ≠ 0))) ∧
  (∀ (s : State) (f : Fin 64) (v : BitVec 32), s.dev.cmd.held = [] → s.dev.reg.state ≠ .registered → s.dev.pcieUp = true → s.dev.running = true →
    ∃ t, exec (.faultnCtrlWrite f v) s = .next t ∧ t.dev.aon.force = (if f.val = 0 then bit v.toNat 0 else s.dev.aon.force) ∧ t.dev.flt = s.dev.flt) ∧
  bit State.reset.dev.faultnCtrl 0 = false ∧ bit State.reset.dev.faultnCtrl 1 = false

/-- The reported mode (R24): the first of HELD, BRING-UP, WIPE, RETURNED, SAFE, UPDATE, PROOF, STANDBY, DEGRADED, DERATED and RUN whose
condition holds, STANDBY and the RUN family excluding each other; and the flags of MODE_STATUS show every condition, the mode reported
or not. -/
def Obligations.ModesAreReportedInTheirOrder : Prop :=
  (∀ (m : ModeUnit) (degraded derated : Bool), m.code degraded derated =
    if m.phase = .off then 0 else if m.phase = .held then 1 else if m.phase = .bringUp then 2 else if m.phase = .wipe then 10
    else if m.phase = .returned then 11 else if m.safe = true then 7 else if m.update = true then 9 else if m.proof = true then 8
    else if m.standby = true then 3 else if degraded = true then 6 else if derated = true then 5 else 4) ∧
  (∀ d : Device, d.otp.lc < 4 →
    bits d.modeStatus 3 0 = d.mode.code d.degraded d.derate ∧ bits d.modeStatus 7 4 = 0 ∧ bits d.modeStatus 9 8 = d.otp.lc ∧
    bits d.modeStatus 15 10 = 0 ∧ bit d.modeStatus 16 = d.derate ∧ bit d.modeStatus 17 = d.spareInUse ∧ bit d.modeStatus 18 = d.memRet ∧
    bit d.modeStatus 19 = d.press.alt ∧ bit d.modeStatus 20 = d.oneLink ∧ bit d.modeStatus 21 = d.time.localTime ∧
    (bit d.modeStatus 22 = true ↔ d.flt.pf ≠ 0) ∧ bit d.modeStatus 23 = d.mode.memPark ∧ bit d.modeStatus 24 = d.mode.updStaged ∧
    bit d.modeStatus 25 = d.mode.updActive ∧ (bit d.modeStatus 26 = false ↔ d.proof.injections = [] ∧ d.proof.perturbs = []) ∧
    bit d.modeStatus 27 = d.mode.safePend ∧ bit d.modeStatus 28 = d.mode.recovery ∧
    (bit d.modeStatus 29 = true ↔ ∃ x ∈ d.edge.mons, x.2.wakeEn = true) ∧ d.modeStatus < 2 ^ 30)

/-- A timestamp D acts at the first boundary at or after it, and at the next boundary where D is 0 or past (R60): the boundary of a command
taken in a frame is the first of the boundaries after that frame that is not before D. -/
def Obligations.TimestampsChooseTheFirstBoundary : Prop :=
  ∀ (d : Device) (frame least : Nat), 0 < d.time.n → d.time.frame ≤ frame →
    ∃ k, d.boundaryAt frame least = d.nextTick + (frame - d.time.frame + k) * (160 * d.time.n) ∧ least ≤ d.boundaryAt frame least ∧
      (∀ j, j < k → d.nextTick + (frame - d.time.frame + j) * (160 * d.time.n) < least) ∧
      (least ≤ d.nextTick + (frame - d.time.frame) * (160 * d.time.n) → k = 0)

/-- A refused command changes nothing (R362, R363): where one of the packet's checks fails, the reply gives that failure, the first in
their order, and the device's body stays; where an opcode's own checks refuse, the opcode has changed nothing (CAL_COMMIT keeps the
refused commit withheld, R139, and a MEM_READ of poisoned data has read it, R463); and no packet reaches a device in OFF or HELD. -/
def Obligations.RefusedCommandsChangeNothing : Prop :=
  (∀ (d : Device) (op : Op) (p : Packet) (r : Ring) (st : Nat) (pl : List Byte), d.Starts op p r →
    firstFail ((d.takenBy op p r).headChecks op (d.commandOf op p r) p.body (bodyLengthOk p.body)) = some (st, pl) →
    d.submit op p = (d.takenBy op p r).final (d.commandOf op p r).env st pl ∧ (d.submit op p).body = (d.at p.at_).body) ∧
  (∀ (d : Device) (op : Op) (p : Packet) (r : Ring) (st : Nat) (pl : List Byte), d.Starts op p r →
    firstFail ((d.takenBy op p r).headChecks op (d.commandOf op p r) p.body (bodyLengthOk p.body)) = none →
    ¬((d.arrived p).time.now < (d.commandOf op p r).nb ∧ (!op.leads) = true) →
    firstFail ((d.takenBy op p r).stateChecks op (d.commandOf op p r)) = some (st, pl) →
    d.submit op p = (d.takenBy op p r).final (d.commandOf op p r).env st pl ∧ (d.submit op p).body = (d.at p.at_).body) ∧
  (∀ (op : Op) (c : Cmd) (d : Device) (st : Nat) (pl : List Byte), op ≠ .calCommit → op ≠ .memRead → (op.run c d).1 = .done st pl → st ≠ stOK →
    st ≠ stJUMP_DEFERRED → (op.run c d).2 = d) ∧
  (∀ (d : Device) (op : Op) (p : Packet), d.running = false → d.submit op p = d.at p.at_)

/-- A hard park waits for the link phase of the first frame after its cause (R89); of several that a channel is given, the earliest stands,
and of two of one instant the one given first (R482); a parked channel takes none. -/
def Obligations.TheEarliestHardParkStands : Prop :=
  (∀ (d : Device) (ch cause least : Nat), (d.chan ch).arm = .parked → (d.chan ch).armReq = none → d.park ch cause least = d) ∧
  (∀ (d : Device) (ch cause least : Nat), (d.chan ch).arm ≠ .parked →
    (((d.park ch cause least).chan ch).parkPend =
      match (d.chan ch).parkPend with
      | some (k, t) => if t ≤ least then some (k, t) else some (cause, least)
      | none => some (cause, least)) ∧
    (∀ k, k ≠ ch → (d.park ch cause least).chan k = d.chan k) ∧
    { (d.park ch cause least).chan ch with parkPend := none } = { d.chan ch with parkPend := none } ∧
    { d.park ch cause least with chans := [] } = { d with chans := [] })

/-- The fields of a downstream block's words (R159, R160), each at its bits and none running into another. -/
def Obligations.BlockWordsHoldTheirFields : Prop :=
  (∀ (d : Device) (l : Nat) (apply : Bool) (x : Desc) (q r : Nat) (p n : Int), (d.link l).desc = some x →
    (d.chan (d.chanOfLink l)).loop.clamp.getD ((d.chan (d.chanOfLink l)).clamps x) = (q, r, p, n) → q < 2 → r < 16 →
    (d.chan (d.chanOfLink l)).cfg.tset < 16 →
    bits (d.blockD0 l apply) 3 0 = (d.link l).blockType ∧ bits (d.blockD0 l apply) 7 4 = (d.chan (d.chanOfLink l)).cfg.tset ∧
    bits (d.blockD0 l apply) 14 8 = d.time.frame % 128 ∧
    (bit (d.blockD0 l apply) 15 = true ↔ d.time.n % 2 = 1 ∧ d.time.frame % 2 = 1) ∧
    (∀ g, g < 16 → bit (d.blockD0 l apply) (16 + g) = (d.strobe g).fires) ∧
    bits (d.blockD0 l apply) 33 32 = (if d.time.n < 50 then 1 else if d.time.n < 100 then 2 else 3) ∧ bit (d.blockD0 l apply) 34 = apply ∧
    bits (d.blockD0 l apply) 35 35 = q ∧ bits (d.blockD0 l apply) 39 36 = r ∧
    bits (d.blockD0 l apply) 51 40 = clamp12 p ∧ bits (d.blockD0 l apply) 63 52 = clamp12 n ∧ d.blockD0 l apply < 2 ^ 64) ∧
  (∀ (d : Device) (l mgmt code path : Nat) (relay : Bool) (rs rk : Nat), d.linkUp l = true →
    d.blockState (d.chanOfLink l) = (code, path, relay) → code < 2 ^ 18 → path < 2 → mgmt < 1024 →
    (d.chan (d.chanOfLink l)).cal.ask = some (rs, rk) → rs < 32 → rk < 8 → (d.chan (d.chanOfLink l)).range.change = none →
    (d.chan (d.chanOfLink l)).range.v < 8 → (d.chan (d.chanOfLink l)).range.i < 16 →
    bits (d.blockD1 l mgmt) 17 0 = code ∧ bits (d.blockD1 l mgmt) 18 18 = path ∧ bit (d.blockD1 l mgmt) 19 = relay ∧
    bits (d.blockD1 l mgmt) 22 20 = (d.chan (d.chanOfLink l)).range.v ∧ bits (d.blockD1 l mgmt) 26 23 = (d.chan (d.chanOfLink l)).range.i ∧
    bits (d.blockD1 l mgmt) 32 27 = 0 ∧ bits (d.blockD1 l mgmt) 35 33 = rk ∧ bits (d.blockD1 l mgmt) 40 36 = rs ∧
    bits (d.blockD1 l mgmt) 50 41 = mgmt ∧ bits (d.blockD1 l mgmt) 63 51 = 0)

/-- A packet that a device-side producer writes is read back whole (R428, R429): its length word, its body, the padding and the zero slot
after it, wherever in the ring it lies, wrapped round the ring's end or not; HEAD moves past it, TAIL stays, the copy in the host buffer
agrees byte for byte, and every byte of memory outside the packet and the slot, and every other ring, stays as it was. -/
def Obligations.ProducedPacketsAreReadBackWhole : Prop :=
  ∀ (d : Device) (q : Nat) (r : Ring) (body : List Byte) (entries : Nat) (irq : Bool), d.ring? q = some r → r.headA % 4 = 0 → r.size ≤ 20 →
    r.headA < 2 ^ 32 → r.tailA < 2 ^ 32 → r.pool = false → (d.produceRaw q body entries irq).2 = true →
    ∃ x, (d.produceRaw q body entries irq).1.ring? q = some x ∧ x.headA = (r.headA + 4 + padded body.length) % 2 ^ 32 ∧ x.tailA = r.tailA ∧
      x.level = r.level + 4 + padded body.length ∧ x.packets = (r.packets + 1) % 2 ^ 32 ∧
      (d.produceRaw q body entries irq).1.ringGet x r.headA 4 = le32 body.length ∧
      (d.produceRaw q body entries irq).1.ringGet x (r.headA + 4) body.length = body ∧
      (d.produceRaw q body entries irq).1.ringGet x (r.headA + 4 + body.length) (padded body.length - body.length) =
        zeros (padded body.length - body.length) ∧
      (d.produceRaw q body entries irq).1.ringGet x x.headA 4 = zeros 4 ∧
      (r.kind ≠ 6 → ∀ k, k < padded body.length + 8 →
        cellGet (d.produceRaw q body entries irq).1.store.host (r.hostAddr + (r.headA + k) % r.z) =
          cellGet (d.produceRaw q body entries irq).1.store.mem (r.devAddr + (r.headA + k) % r.z)) ∧
      (∀ a, (∀ k, k < padded body.length + 8 → a ≠ r.devAddr + (r.headA + k) % r.z) →
        cellGet (d.produceRaw q body entries irq).1.store.mem a = cellGet d.store.mem a) ∧
      (∀ k, k ≠ q → (d.produceRaw q body entries irq).1.ring? k = d.ring? k)

/-- Cells are read as they were sent (R322, R324): every field of a header comes back from its bits, and the NEIGHBOR cell that a device
sends on a port is read by its neighbour as the sender's own ID, state, port, system, N, system time and path. -/
def Obligations.CellsAreReadAsTheyWereSent : Prop :=
  (∀ (ty lseq len : Nat) (bcast : Bool) (origin dest seq hops : Nat) (ov : Bool) (words : List Word64) (ok : Bool), ty < 256 → len < 8 →
    origin < 1024 → dest < 1024 → hops < 128 →
    ({ header := mkHeader ty lseq len bcast origin dest seq hops ov, words := words, crcOk := ok } : Cell).type = ty ∧
    ({ header := mkHeader ty lseq len bcast origin dest seq hops ov, words := words, crcOk := ok } : Cell).lseq = lseq % 16 ∧
    bits ({ header := mkHeader ty lseq len bcast origin dest seq hops ov, words := words, crcOk := ok } : Cell).head 14 12 = len ∧
    ({ header := mkHeader ty lseq len bcast origin dest seq hops ov, words := words, crcOk := ok } : Cell).bcast = bcast ∧
    ({ header := mkHeader ty lseq len bcast origin dest seq hops ov, words := words, crcOk := ok } : Cell).origin = origin ∧
    ({ header := mkHeader ty lseq len bcast origin dest seq hops ov, words := words, crcOk := ok } : Cell).dest = dest ∧
    ({ header := mkHeader ty lseq len bcast origin dest seq hops ov, words := words, crcOk := ok } : Cell).cseq = seq % 65536 ∧
    ({ header := mkHeader ty lseq len bcast origin dest seq hops ov, words := words, crcOk := ok } : Cell).hops = hops ∧
    ({ header := mkHeader ty lseq len bcast origin dest seq hops ov, words := words, crcOk := ok } : Cell).originValid = ov) ∧
  (∀ (d : Device) (p id tk : Nat), d.zhepinOn = true → p < 6 → d.reg.state = .registered → d.reg.id = some id → id < 1024 → d.reg.tkId = some tk →
    tk < 1024 → d.reg.n < 64 → d.reg.m < 64 → d.reg.e < 32 → d.time.n < 2 ^ 14 → d.reg.path < 64 → d.estimate d.time.tick < 2 ^ 64 →
    ∃ c, (d.neighborSend p).reg.sent = (p, c) :: d.reg.sent ∧ c.isType ctNEIGHBOR = true ∧ c.crcOk = true ∧ c.bcast = false ∧
      c.origin = id ∧ c.originValid = true ∧ c.hops = 1 ∧ c.lseq = (d.port p).txSeq % 16 ∧
      c.neighbor = { id := some id, state := 3, port := p, n := d.reg.n, m := d.reg.m, e := d.reg.e, timekeeper := tk, frames := d.time.n,
                     sysTime := d.estimate d.time.tick, mark := d.lastMark % 2 ^ 32, path := d.reg.path })
end

