-- ==== Sys2Proof/Laws/State.lean ====
section
/-! SUPPORT. One lemma per field and update: an update of one part of the device leaves every other field as it was. -/

namespace Sys2Proof.Machine

section
variable (d : Device) (i : Nat) (x : HostFn)
@[simp] theorem Device.setFn_aon : (d.setFn i x).aon = d.aon := rfl
@[simp] theorem Device.setFn_otp : (d.setFn i x).otp = d.otp := rfl
@[simp] theorem Device.setFn_flash : (d.setFn i x).flash = d.flash := rfl
@[simp] theorem Device.setFn_time : (d.setFn i x).time = d.time := rfl
@[simp] theorem Device.setFn_mode : (d.setFn i x).mode = d.mode := rfl
@[simp] theorem Device.setFn_ready : (d.setFn i x).ready = d.ready := rfl
@[simp] theorem Device.setFn_press : (d.setFn i x).press = d.press := rfl
@[simp] theorem Device.setFn_update : (d.setFn i x).update = d.update := rfl
@[simp] theorem Device.setFn_fns : (d.setFn i x).fns = tabSet {} d.fns i x := rfl
@[simp] theorem Device.setFn_numVFs : (d.setFn i x).numVFs = d.numVFs := rfl
@[simp] theorem Device.setFn_fast : (d.setFn i x).fast = d.fast := rfl
@[simp] theorem Device.setFn_fastLast : (d.setFn i x).fastLast = d.fastLast := rfl
@[simp] theorem Device.setFn_cmd : (d.setFn i x).cmd = d.cmd := rfl
@[simp] theorem Device.setFn_queue : (d.setFn i x).queue = d.queue := rfl
@[simp] theorem Device.setFn_store : (d.setFn i x).store = d.store := rfl
@[simp] theorem Device.setFn_mem : (d.setFn i x).mem = d.mem := rfl
@[simp] theorem Device.setFn_chans : (d.setFn i x).chans = d.chans := rfl
@[simp] theorem Device.setFn_links : (d.setFn i x).links = d.links := rfl
@[simp] theorem Device.setFn_slots : (d.setFn i x).slots = d.slots := rfl
@[simp] theorem Device.setFn_engines : (d.setFn i x).engines = d.engines := rfl
@[simp] theorem Device.setFn_migrations : (d.setFn i x).migrations = d.migrations := rfl
@[simp] theorem Device.setFn_seq : (d.setFn i x).seq = d.seq := rfl
@[simp] theorem Device.setFn_edge : (d.setFn i x).edge = d.edge := rfl
@[simp] theorem Device.setFn_arms : (d.setFn i x).arms = d.arms := rfl
@[simp] theorem Device.setFn_imp : (d.setFn i x).imp = d.imp := rfl
@[simp] theorem Device.setFn_reg : (d.setFn i x).reg = d.reg := rfl
@[simp] theorem Device.setFn_flt : (d.setFn i x).flt = d.flt := rfl
@[simp] theorem Device.setFn_proof : (d.setFn i x).proof = d.proof := rfl
@[simp] theorem Device.setFn_resets : (d.setFn i x).resets = d.resets := rfl
@[simp] theorem Device.setFn_ret : (d.setFn i x).ret = d.ret := rfl
@[simp] theorem Device.setFn_events : (d.setFn i x).events = d.events := rfl
@[simp] theorem Device.setFn_sched : (d.setFn i x).sched = d.sched := rfl
@[simp] theorem Device.setFn_pins : (d.setFn i x).pins = d.pins := rfl
@[simp] theorem Device.setFn_freeCtr : (d.setFn i x).freeCtr = d.freeCtr := rfl
end

section
variable (d : Device) (i : Nat) (x : Chan)
@[simp] theorem Device.setChan_aon : (d.setChan i x).aon = d.aon := rfl
@[simp] theorem Device.setChan_otp : (d.setChan i x).otp = d.otp := rfl
@[simp] theorem Device.setChan_flash : (d.setChan i x).flash = d.flash := rfl
@[simp] theorem Device.setChan_time : (d.setChan i x).time = d.time := rfl
@[simp] theorem Device.setChan_mode : (d.setChan i x).mode = d.mode := rfl
@[simp] theorem Device.setChan_ready : (d.setChan i x).ready = d.ready := rfl
@[simp] theorem Device.setChan_press : (d.setChan i x).press = d.press := rfl
@[simp] theorem Device.setChan_update : (d.setChan i x).update = d.update := rfl
@[simp] theorem Device.setChan_fns : (d.setChan i x).fns = d.fns := rfl
@[simp] theorem Device.setChan_numVFs : (d.setChan i x).numVFs = d.numVFs := rfl
@[simp] theorem Device.setChan_fast : (d.setChan i x).fast = d.fast := rfl
@[simp] theorem Device.setChan_fastLast : (d.setChan i x).fastLast = d.fastLast := rfl
@[simp] theorem Device.setChan_cmd : (d.setChan i x).cmd = d.cmd := rfl
@[simp] theorem Device.setChan_queue : (d.setChan i x).queue = d.queue := rfl
@[simp] theorem Device.setChan_store : (d.setChan i x).store = d.store := rfl
@[simp] theorem Device.setChan_mem : (d.setChan i x).mem = d.mem := rfl
@[simp] theorem Device.setChan_chans : (d.setChan i x).chans = tabSet {} d.chans i x := rfl
@[simp] theorem Device.setChan_links : (d.setChan i x).links = d.links := rfl
@[simp] theorem Device.setChan_slots : (d.setChan i x).slots = d.slots := rfl
@[simp] theorem Device.setChan_engines : (d.setChan i x).engines = d.engines := rfl
@[simp] theorem Device.setChan_migrations : (d.setChan i x).migrations = d.migrations := rfl
@[simp] theorem Device.setChan_seq : (d.setChan i x).seq = d.seq := rfl
@[simp] theorem Device.setChan_edge : (d.setChan i x).edge = d.edge := rfl
@[simp] theorem Device.setChan_arms : (d.setChan i x).arms = d.arms := rfl
@[simp] theorem Device.setChan_imp : (d.setChan i x).imp = d.imp := rfl
@[simp] theorem Device.setChan_reg : (d.setChan i x).reg = d.reg := rfl
@[simp] theorem Device.setChan_flt : (d.setChan i x).flt = d.flt := rfl
@[simp] theorem Device.setChan_proof : (d.setChan i x).proof = d.proof := rfl
@[simp] theorem Device.setChan_resets : (d.setChan i x).resets = d.resets := rfl
@[simp] theorem Device.setChan_ret : (d.setChan i x).ret = d.ret := rfl
@[simp] theorem Device.setChan_events : (d.setChan i x).events = d.events := rfl
@[simp] theorem Device.setChan_sched : (d.setChan i x).sched = d.sched := rfl
@[simp] theorem Device.setChan_pins : (d.setChan i x).pins = d.pins := rfl
@[simp] theorem Device.setChan_freeCtr : (d.setChan i x).freeCtr = d.freeCtr := rfl
end

section
variable (d : Device) (i : Nat) (x : Link)
@[simp] theorem Device.setLink_aon : (d.setLink i x).aon = d.aon := rfl
@[simp] theorem Device.setLink_otp : (d.setLink i x).otp = d.otp := rfl
@[simp] theorem Device.setLink_flash : (d.setLink i x).flash = d.flash := rfl
@[simp] theorem Device.setLink_time : (d.setLink i x).time = d.time := rfl
@[simp] theorem Device.setLink_mode : (d.setLink i x).mode = d.mode := rfl
@[simp] theorem Device.setLink_ready : (d.setLink i x).ready = d.ready := rfl
@[simp] theorem Device.setLink_press : (d.setLink i x).press = d.press := rfl
@[simp] theorem Device.setLink_update : (d.setLink i x).update = d.update := rfl
@[simp] theorem Device.setLink_fns : (d.setLink i x).fns = d.fns := rfl
@[simp] theorem Device.setLink_numVFs : (d.setLink i x).numVFs = d.numVFs := rfl
@[simp] theorem Device.setLink_fast : (d.setLink i x).fast = d.fast := rfl
@[simp] theorem Device.setLink_fastLast : (d.setLink i x).fastLast = d.fastLast := rfl
@[simp] theorem Device.setLink_cmd : (d.setLink i x).cmd = d.cmd := rfl
@[simp] theorem Device.setLink_queue : (d.setLink i x).queue = d.queue := rfl
@[simp] theorem Device.setLink_store : (d.setLink i x).store = d.store := rfl
@[simp] theorem Device.setLink_mem : (d.setLink i x).mem = d.mem := rfl
@[simp] theorem Device.setLink_chans : (d.setLink i x).chans = d.chans := rfl
@[simp] theorem Device.setLink_links : (d.setLink i x).links = tabSet {} d.links i x := rfl
@[simp] theorem Device.setLink_slots : (d.setLink i x).slots = d.slots := rfl
@[simp] theorem Device.setLink_engines : (d.setLink i x).engines = d.engines := rfl
@[simp] theorem Device.setLink_migrations : (d.setLink i x).migrations = d.migrations := rfl
@[simp] theorem Device.setLink_seq : (d.setLink i x).seq = d.seq := rfl
@[simp] theorem Device.setLink_edge : (d.setLink i x).edge = d.edge := rfl
@[simp] theorem Device.setLink_arms : (d.setLink i x).arms = d.arms := rfl
@[simp] theorem Device.setLink_imp : (d.setLink i x).imp = d.imp := rfl
@[simp] theorem Device.setLink_reg : (d.setLink i x).reg = d.reg := rfl
@[simp] theorem Device.setLink_flt : (d.setLink i x).flt = d.flt := rfl
@[simp] theorem Device.setLink_proof : (d.setLink i x).proof = d.proof := rfl
@[simp] theorem Device.setLink_resets : (d.setLink i x).resets = d.resets := rfl
@[simp] theorem Device.setLink_ret : (d.setLink i x).ret = d.ret := rfl
@[simp] theorem Device.setLink_events : (d.setLink i x).events = d.events := rfl
@[simp] theorem Device.setLink_sched : (d.setLink i x).sched = d.sched := rfl
@[simp] theorem Device.setLink_pins : (d.setLink i x).pins = d.pins := rfl
@[simp] theorem Device.setLink_freeCtr : (d.setLink i x).freeCtr = d.freeCtr := rfl
end

section
variable (d : Device) (i : Nat) (x : Slot)
@[simp] theorem Device.setSlot_aon : (d.setSlot i x).aon = d.aon := rfl
@[simp] theorem Device.setSlot_otp : (d.setSlot i x).otp = d.otp := rfl
@[simp] theorem Device.setSlot_flash : (d.setSlot i x).flash = d.flash := rfl
@[simp] theorem Device.setSlot_time : (d.setSlot i x).time = d.time := rfl
@[simp] theorem Device.setSlot_mode : (d.setSlot i x).mode = d.mode := rfl
@[simp] theorem Device.setSlot_ready : (d.setSlot i x).ready = d.ready := rfl
@[simp] theorem Device.setSlot_press : (d.setSlot i x).press = d.press := rfl
@[simp] theorem Device.setSlot_update : (d.setSlot i x).update = d.update := rfl
@[simp] theorem Device.setSlot_fns : (d.setSlot i x).fns = d.fns := rfl
@[simp] theorem Device.setSlot_numVFs : (d.setSlot i x).numVFs = d.numVFs := rfl
@[simp] theorem Device.setSlot_fast : (d.setSlot i x).fast = d.fast := rfl
@[simp] theorem Device.setSlot_fastLast : (d.setSlot i x).fastLast = d.fastLast := rfl
@[simp] theorem Device.setSlot_cmd : (d.setSlot i x).cmd = d.cmd := rfl
@[simp] theorem Device.setSlot_queue : (d.setSlot i x).queue = d.queue := rfl
@[simp] theorem Device.setSlot_store : (d.setSlot i x).store = d.store := rfl
@[simp] theorem Device.setSlot_mem : (d.setSlot i x).mem = d.mem := rfl
@[simp] theorem Device.setSlot_chans : (d.setSlot i x).chans = d.chans := rfl
@[simp] theorem Device.setSlot_links : (d.setSlot i x).links = d.links := rfl
@[simp] theorem Device.setSlot_slots : (d.setSlot i x).slots = tabSet {} d.slots i x := rfl
@[simp] theorem Device.setSlot_engines : (d.setSlot i x).engines = d.engines := rfl
@[simp] theorem Device.setSlot_migrations : (d.setSlot i x).migrations = d.migrations := rfl
@[simp] theorem Device.setSlot_seq : (d.setSlot i x).seq = d.seq := rfl
@[simp] theorem Device.setSlot_edge : (d.setSlot i x).edge = d.edge := rfl
@[simp] theorem Device.setSlot_arms : (d.setSlot i x).arms = d.arms := rfl
@[simp] theorem Device.setSlot_imp : (d.setSlot i x).imp = d.imp := rfl
@[simp] theorem Device.setSlot_reg : (d.setSlot i x).reg = d.reg := rfl
@[simp] theorem Device.setSlot_flt : (d.setSlot i x).flt = d.flt := rfl
@[simp] theorem Device.setSlot_proof : (d.setSlot i x).proof = d.proof := rfl
@[simp] theorem Device.setSlot_resets : (d.setSlot i x).resets = d.resets := rfl
@[simp] theorem Device.setSlot_ret : (d.setSlot i x).ret = d.ret := rfl
@[simp] theorem Device.setSlot_events : (d.setSlot i x).events = d.events := rfl
@[simp] theorem Device.setSlot_sched : (d.setSlot i x).sched = d.sched := rfl
@[simp] theorem Device.setSlot_pins : (d.setSlot i x).pins = d.pins := rfl
@[simp] theorem Device.setSlot_freeCtr : (d.setSlot i x).freeCtr = d.freeCtr := rfl
end

section
variable (d : Device) (i : Nat) (x : Engine)
@[simp] theorem Device.setEngine_aon : (d.setEngine i x).aon = d.aon := rfl
@[simp] theorem Device.setEngine_otp : (d.setEngine i x).otp = d.otp := rfl
@[simp] theorem Device.setEngine_flash : (d.setEngine i x).flash = d.flash := rfl
@[simp] theorem Device.setEngine_time : (d.setEngine i x).time = d.time := rfl
@[simp] theorem Device.setEngine_mode : (d.setEngine i x).mode = d.mode := rfl
@[simp] theorem Device.setEngine_ready : (d.setEngine i x).ready = d.ready := rfl
@[simp] theorem Device.setEngine_press : (d.setEngine i x).press = d.press := rfl
@[simp] theorem Device.setEngine_update : (d.setEngine i x).update = d.update := rfl
@[simp] theorem Device.setEngine_fns : (d.setEngine i x).fns = d.fns := rfl
@[simp] theorem Device.setEngine_numVFs : (d.setEngine i x).numVFs = d.numVFs := rfl
@[simp] theorem Device.setEngine_fast : (d.setEngine i x).fast = d.fast := rfl
@[simp] theorem Device.setEngine_fastLast : (d.setEngine i x).fastLast = d.fastLast := rfl
@[simp] theorem Device.setEngine_cmd : (d.setEngine i x).cmd = d.cmd := rfl
@[simp] theorem Device.setEngine_queue : (d.setEngine i x).queue = d.queue := rfl
@[simp] theorem Device.setEngine_store : (d.setEngine i x).store = d.store := rfl
@[simp] theorem Device.setEngine_mem : (d.setEngine i x).mem = d.mem := rfl
@[simp] theorem Device.setEngine_chans : (d.setEngine i x).chans = d.chans := rfl
@[simp] theorem Device.setEngine_links : (d.setEngine i x).links = d.links := rfl
@[simp] theorem Device.setEngine_slots : (d.setEngine i x).slots = d.slots := rfl
@[simp] theorem Device.setEngine_engines : (d.setEngine i x).engines = tabSet {} d.engines i x := rfl
@[simp] theorem Device.setEngine_migrations : (d.setEngine i x).migrations = d.migrations := rfl
@[simp] theorem Device.setEngine_seq : (d.setEngine i x).seq = d.seq := rfl
@[simp] theorem Device.setEngine_edge : (d.setEngine i x).edge = d.edge := rfl
@[simp] theorem Device.setEngine_arms : (d.setEngine i x).arms = d.arms := rfl
@[simp] theorem Device.setEngine_imp : (d.setEngine i x).imp = d.imp := rfl
@[simp] theorem Device.setEngine_reg : (d.setEngine i x).reg = d.reg := rfl
@[simp] theorem Device.setEngine_flt : (d.setEngine i x).flt = d.flt := rfl
@[simp] theorem Device.setEngine_proof : (d.setEngine i x).proof = d.proof := rfl
@[simp] theorem Device.setEngine_resets : (d.setEngine i x).resets = d.resets := rfl
@[simp] theorem Device.setEngine_ret : (d.setEngine i x).ret = d.ret := rfl
@[simp] theorem Device.setEngine_events : (d.setEngine i x).events = d.events := rfl
@[simp] theorem Device.setEngine_sched : (d.setEngine i x).sched = d.sched := rfl
@[simp] theorem Device.setEngine_pins : (d.setEngine i x).pins = d.pins := rfl
@[simp] theorem Device.setEngine_freeCtr : (d.setEngine i x).freeCtr = d.freeCtr := rfl
end

section
variable (d : Device) (i : Nat) (x : Zone)
@[simp] theorem Device.setZone_aon : (d.setZone i x).aon = d.aon := rfl
@[simp] theorem Device.setZone_otp : (d.setZone i x).otp = d.otp := rfl
@[simp] theorem Device.setZone_flash : (d.setZone i x).flash = d.flash := rfl
@[simp] theorem Device.setZone_time : (d.setZone i x).time = d.time := rfl
@[simp] theorem Device.setZone_mode : (d.setZone i x).mode = d.mode := rfl
@[simp] theorem Device.setZone_ready : (d.setZone i x).ready = d.ready := rfl
@[simp] theorem Device.setZone_press : (d.setZone i x).press = d.press := rfl
@[simp] theorem Device.setZone_update : (d.setZone i x).update = d.update := rfl
@[simp] theorem Device.setZone_fns : (d.setZone i x).fns = d.fns := rfl
@[simp] theorem Device.setZone_numVFs : (d.setZone i x).numVFs = d.numVFs := rfl
@[simp] theorem Device.setZone_fast : (d.setZone i x).fast = d.fast := rfl
@[simp] theorem Device.setZone_fastLast : (d.setZone i x).fastLast = d.fastLast := rfl
@[simp] theorem Device.setZone_cmd : (d.setZone i x).cmd = d.cmd := rfl
@[simp] theorem Device.setZone_queue : (d.setZone i x).queue = d.queue := rfl
@[simp] theorem Device.setZone_store : (d.setZone i x).store = d.store := rfl
@[simp] theorem Device.setZone_mem : (d.setZone i x).mem = d.mem := rfl
@[simp] theorem Device.setZone_chans : (d.setZone i x).chans = d.chans := rfl
@[simp] theorem Device.setZone_links : (d.setZone i x).links = d.links := rfl
@[simp] theorem Device.setZone_slots : (d.setZone i x).slots = d.slots := rfl
@[simp] theorem Device.setZone_engines : (d.setZone i x).engines = d.engines := rfl
@[simp] theorem Device.setZone_migrations : (d.setZone i x).migrations = d.migrations := rfl
@[simp] theorem Device.setZone_seq : (d.setZone i x).seq = d.seq := rfl
@[simp] theorem Device.setZone_edge : (d.setZone i x).edge = d.edge := rfl
@[simp] theorem Device.setZone_arms : (d.setZone i x).arms = d.arms := rfl
@[simp] theorem Device.setZone_imp : (d.setZone i x).imp = { d.imp with zones := tabSet {} d.imp.zones i x } := rfl
@[simp] theorem Device.setZone_reg : (d.setZone i x).reg = d.reg := rfl
@[simp] theorem Device.setZone_flt : (d.setZone i x).flt = d.flt := rfl
@[simp] theorem Device.setZone_proof : (d.setZone i x).proof = d.proof := rfl
@[simp] theorem Device.setZone_resets : (d.setZone i x).resets = d.resets := rfl
@[simp] theorem Device.setZone_ret : (d.setZone i x).ret = d.ret := rfl
@[simp] theorem Device.setZone_events : (d.setZone i x).events = d.events := rfl
@[simp] theorem Device.setZone_sched : (d.setZone i x).sched = d.sched := rfl
@[simp] theorem Device.setZone_pins : (d.setZone i x).pins = d.pins := rfl
@[simp] theorem Device.setZone_freeCtr : (d.setZone i x).freeCtr = d.freeCtr := rfl
end

section
variable (d : Device) (i : Nat) (x : Rail)
@[simp] theorem Device.setRail_aon : (d.setRail i x).aon = d.aon := rfl
@[simp] theorem Device.setRail_otp : (d.setRail i x).otp = d.otp := rfl
@[simp] theorem Device.setRail_flash : (d.setRail i x).flash = d.flash := rfl
@[simp] theorem Device.setRail_time : (d.setRail i x).time = d.time := rfl
@[simp] theorem Device.setRail_mode : (d.setRail i x).mode = d.mode := rfl
@[simp] theorem Device.setRail_ready : (d.setRail i x).ready = d.ready := rfl
@[simp] theorem Device.setRail_press : (d.setRail i x).press = d.press := rfl
@[simp] theorem Device.setRail_update : (d.setRail i x).update = d.update := rfl
@[simp] theorem Device.setRail_fns : (d.setRail i x).fns = d.fns := rfl
@[simp] theorem Device.setRail_numVFs : (d.setRail i x).numVFs = d.numVFs := rfl
@[simp] theorem Device.setRail_fast : (d.setRail i x).fast = d.fast := rfl
@[simp] theorem Device.setRail_fastLast : (d.setRail i x).fastLast = d.fastLast := rfl
@[simp] theorem Device.setRail_cmd : (d.setRail i x).cmd = d.cmd := rfl
@[simp] theorem Device.setRail_queue : (d.setRail i x).queue = d.queue := rfl
@[simp] theorem Device.setRail_store : (d.setRail i x).store = d.store := rfl
@[simp] theorem Device.setRail_mem : (d.setRail i x).mem = d.mem := rfl
@[simp] theorem Device.setRail_chans : (d.setRail i x).chans = d.chans := rfl
@[simp] theorem Device.setRail_links : (d.setRail i x).links = d.links := rfl
@[simp] theorem Device.setRail_slots : (d.setRail i x).slots = d.slots := rfl
@[simp] theorem Device.setRail_engines : (d.setRail i x).engines = d.engines := rfl
@[simp] theorem Device.setRail_migrations : (d.setRail i x).migrations = d.migrations := rfl
@[simp] theorem Device.setRail_seq : (d.setRail i x).seq = d.seq := rfl
@[simp] theorem Device.setRail_edge : (d.setRail i x).edge = d.edge := rfl
@[simp] theorem Device.setRail_arms : (d.setRail i x).arms = d.arms := rfl
@[simp] theorem Device.setRail_imp : (d.setRail i x).imp = { d.imp with rails := tabSet {} d.imp.rails i x } := rfl
@[simp] theorem Device.setRail_reg : (d.setRail i x).reg = d.reg := rfl
@[simp] theorem Device.setRail_flt : (d.setRail i x).flt = d.flt := rfl
@[simp] theorem Device.setRail_proof : (d.setRail i x).proof = d.proof := rfl
@[simp] theorem Device.setRail_resets : (d.setRail i x).resets = d.resets := rfl
@[simp] theorem Device.setRail_ret : (d.setRail i x).ret = d.ret := rfl
@[simp] theorem Device.setRail_events : (d.setRail i x).events = d.events := rfl
@[simp] theorem Device.setRail_sched : (d.setRail i x).sched = d.sched := rfl
@[simp] theorem Device.setRail_pins : (d.setRail i x).pins = d.pins := rfl
@[simp] theorem Device.setRail_freeCtr : (d.setRail i x).freeCtr = d.freeCtr := rfl
end

section
variable (d : Device) (i : Nat) (x : Model)
@[simp] theorem Device.setModel_aon : (d.setModel i x).aon = d.aon := rfl
@[simp] theorem Device.setModel_otp : (d.setModel i x).otp = d.otp := rfl
@[simp] theorem Device.setModel_flash : (d.setModel i x).flash = d.flash := rfl
@[simp] theorem Device.setModel_time : (d.setModel i x).time = d.time := rfl
@[simp] theorem Device.setModel_mode : (d.setModel i x).mode = d.mode := rfl
@[simp] theorem Device.setModel_ready : (d.setModel i x).ready = d.ready := rfl
@[simp] theorem Device.setModel_press : (d.setModel i x).press = d.press := rfl
@[simp] theorem Device.setModel_update : (d.setModel i x).update = d.update := rfl
@[simp] theorem Device.setModel_fns : (d.setModel i x).fns = d.fns := rfl
@[simp] theorem Device.setModel_numVFs : (d.setModel i x).numVFs = d.numVFs := rfl
@[simp] theorem Device.setModel_fast : (d.setModel i x).fast = d.fast := rfl
@[simp] theorem Device.setModel_fastLast : (d.setModel i x).fastLast = d.fastLast := rfl
@[simp] theorem Device.setModel_cmd : (d.setModel i x).cmd = d.cmd := rfl
@[simp] theorem Device.setModel_queue : (d.setModel i x).queue = d.queue := rfl
@[simp] theorem Device.setModel_store : (d.setModel i x).store = d.store := rfl
@[simp] theorem Device.setModel_mem : (d.setModel i x).mem = d.mem := rfl
@[simp] theorem Device.setModel_chans : (d.setModel i x).chans = d.chans := rfl
@[simp] theorem Device.setModel_links : (d.setModel i x).links = d.links := rfl
@[simp] theorem Device.setModel_slots : (d.setModel i x).slots = d.slots := rfl
@[simp] theorem Device.setModel_engines : (d.setModel i x).engines = d.engines := rfl
@[simp] theorem Device.setModel_migrations : (d.setModel i x).migrations = d.migrations := rfl
@[simp] theorem Device.setModel_seq : (d.setModel i x).seq = d.seq := rfl
@[simp] theorem Device.setModel_edge : (d.setModel i x).edge = d.edge := rfl
@[simp] theorem Device.setModel_arms : (d.setModel i x).arms = d.arms := rfl
@[simp] theorem Device.setModel_imp : (d.setModel i x).imp = { d.imp with models := tabSet {} d.imp.models i x } := rfl
@[simp] theorem Device.setModel_reg : (d.setModel i x).reg = d.reg := rfl
@[simp] theorem Device.setModel_flt : (d.setModel i x).flt = d.flt := rfl
@[simp] theorem Device.setModel_proof : (d.setModel i x).proof = d.proof := rfl
@[simp] theorem Device.setModel_resets : (d.setModel i x).resets = d.resets := rfl
@[simp] theorem Device.setModel_ret : (d.setModel i x).ret = d.ret := rfl
@[simp] theorem Device.setModel_events : (d.setModel i x).events = d.events := rfl
@[simp] theorem Device.setModel_sched : (d.setModel i x).sched = d.sched := rfl
@[simp] theorem Device.setModel_pins : (d.setModel i x).pins = d.pins := rfl
@[simp] theorem Device.setModel_freeCtr : (d.setModel i x).freeCtr = d.freeCtr := rfl
end

section
variable (d : Device) (i : Nat) (x : Share)
@[simp] theorem Device.setShare_aon : (d.setShare i x).aon = d.aon := rfl
@[simp] theorem Device.setShare_otp : (d.setShare i x).otp = d.otp := rfl
@[simp] theorem Device.setShare_flash : (d.setShare i x).flash = d.flash := rfl
@[simp] theorem Device.setShare_time : (d.setShare i x).time = d.time := rfl
@[simp] theorem Device.setShare_mode : (d.setShare i x).mode = d.mode := rfl
@[simp] theorem Device.setShare_ready : (d.setShare i x).ready = d.ready := rfl
@[simp] theorem Device.setShare_press : (d.setShare i x).press = d.press := rfl
@[simp] theorem Device.setShare_update : (d.setShare i x).update = d.update := rfl
@[simp] theorem Device.setShare_fns : (d.setShare i x).fns = d.fns := rfl
@[simp] theorem Device.setShare_numVFs : (d.setShare i x).numVFs = d.numVFs := rfl
@[simp] theorem Device.setShare_fast : (d.setShare i x).fast = d.fast := rfl
@[simp] theorem Device.setShare_fastLast : (d.setShare i x).fastLast = d.fastLast := rfl
@[simp] theorem Device.setShare_cmd : (d.setShare i x).cmd = d.cmd := rfl
@[simp] theorem Device.setShare_queue : (d.setShare i x).queue = d.queue := rfl
@[simp] theorem Device.setShare_store : (d.setShare i x).store = d.store := rfl
@[simp] theorem Device.setShare_mem : (d.setShare i x).mem = d.mem := rfl
@[simp] theorem Device.setShare_chans : (d.setShare i x).chans = d.chans := rfl
@[simp] theorem Device.setShare_links : (d.setShare i x).links = d.links := rfl
@[simp] theorem Device.setShare_slots : (d.setShare i x).slots = d.slots := rfl
@[simp] theorem Device.setShare_engines : (d.setShare i x).engines = d.engines := rfl
@[simp] theorem Device.setShare_migrations : (d.setShare i x).migrations = d.migrations := rfl
@[simp] theorem Device.setShare_seq : (d.setShare i x).seq = d.seq := rfl
@[simp] theorem Device.setShare_edge : (d.setShare i x).edge = d.edge := rfl
@[simp] theorem Device.setShare_arms : (d.setShare i x).arms = d.arms := rfl
@[simp] theorem Device.setShare_imp : (d.setShare i x).imp = { d.imp with shares := tabSet {} d.imp.shares i x } := rfl
@[simp] theorem Device.setShare_reg : (d.setShare i x).reg = d.reg := rfl
@[simp] theorem Device.setShare_flt : (d.setShare i x).flt = d.flt := rfl
@[simp] theorem Device.setShare_proof : (d.setShare i x).proof = d.proof := rfl
@[simp] theorem Device.setShare_resets : (d.setShare i x).resets = d.resets := rfl
@[simp] theorem Device.setShare_ret : (d.setShare i x).ret = d.ret := rfl
@[simp] theorem Device.setShare_events : (d.setShare i x).events = d.events := rfl
@[simp] theorem Device.setShare_sched : (d.setShare i x).sched = d.sched := rfl
@[simp] theorem Device.setShare_pins : (d.setShare i x).pins = d.pins := rfl
@[simp] theorem Device.setShare_freeCtr : (d.setShare i x).freeCtr = d.freeCtr := rfl
end

section
variable (d : Device) (i : Nat) (x : MkPin)
@[simp] theorem Device.setPin_aon : (d.setPin i x).aon = d.aon := rfl
@[simp] theorem Device.setPin_otp : (d.setPin i x).otp = d.otp := rfl
@[simp] theorem Device.setPin_flash : (d.setPin i x).flash = d.flash := rfl
@[simp] theorem Device.setPin_time : (d.setPin i x).time = d.time := rfl
@[simp] theorem Device.setPin_mode : (d.setPin i x).mode = d.mode := rfl
@[simp] theorem Device.setPin_ready : (d.setPin i x).ready = d.ready := rfl
@[simp] theorem Device.setPin_press : (d.setPin i x).press = d.press := rfl
@[simp] theorem Device.setPin_update : (d.setPin i x).update = d.update := rfl
@[simp] theorem Device.setPin_fns : (d.setPin i x).fns = d.fns := rfl
@[simp] theorem Device.setPin_numVFs : (d.setPin i x).numVFs = d.numVFs := rfl
@[simp] theorem Device.setPin_fast : (d.setPin i x).fast = d.fast := rfl
@[simp] theorem Device.setPin_fastLast : (d.setPin i x).fastLast = d.fastLast := rfl
@[simp] theorem Device.setPin_cmd : (d.setPin i x).cmd = d.cmd := rfl
@[simp] theorem Device.setPin_queue : (d.setPin i x).queue = d.queue := rfl
@[simp] theorem Device.setPin_store : (d.setPin i x).store = d.store := rfl
@[simp] theorem Device.setPin_mem : (d.setPin i x).mem = d.mem := rfl
@[simp] theorem Device.setPin_chans : (d.setPin i x).chans = d.chans := rfl
@[simp] theorem Device.setPin_links : (d.setPin i x).links = d.links := rfl
@[simp] theorem Device.setPin_slots : (d.setPin i x).slots = d.slots := rfl
@[simp] theorem Device.setPin_engines : (d.setPin i x).engines = d.engines := rfl
@[simp] theorem Device.setPin_migrations : (d.setPin i x).migrations = d.migrations := rfl
@[simp] theorem Device.setPin_seq : (d.setPin i x).seq = d.seq := rfl
@[simp] theorem Device.setPin_edge : (d.setPin i x).edge = { d.edge with pins := tabSet {} d.edge.pins i x } := rfl
@[simp] theorem Device.setPin_arms : (d.setPin i x).arms = d.arms := rfl
@[simp] theorem Device.setPin_imp : (d.setPin i x).imp = d.imp := rfl
@[simp] theorem Device.setPin_reg : (d.setPin i x).reg = d.reg := rfl
@[simp] theorem Device.setPin_flt : (d.setPin i x).flt = d.flt := rfl
@[simp] theorem Device.setPin_proof : (d.setPin i x).proof = d.proof := rfl
@[simp] theorem Device.setPin_resets : (d.setPin i x).resets = d.resets := rfl
@[simp] theorem Device.setPin_ret : (d.setPin i x).ret = d.ret := rfl
@[simp] theorem Device.setPin_events : (d.setPin i x).events = d.events := rfl
@[simp] theorem Device.setPin_sched : (d.setPin i x).sched = d.sched := rfl
@[simp] theorem Device.setPin_pins : (d.setPin i x).pins = d.pins := rfl
@[simp] theorem Device.setPin_freeCtr : (d.setPin i x).freeCtr = d.freeCtr := rfl
end

section
variable (d : Device) (i : Nat) (x : Strobe)
@[simp] theorem Device.setStrobe_aon : (d.setStrobe i x).aon = d.aon := rfl
@[simp] theorem Device.setStrobe_otp : (d.setStrobe i x).otp = d.otp := rfl
@[simp] theorem Device.setStrobe_flash : (d.setStrobe i x).flash = d.flash := rfl
@[simp] theorem Device.setStrobe_time : (d.setStrobe i x).time = d.time := rfl
@[simp] theorem Device.setStrobe_mode : (d.setStrobe i x).mode = d.mode := rfl
@[simp] theorem Device.setStrobe_ready : (d.setStrobe i x).ready = d.ready := rfl
@[simp] theorem Device.setStrobe_press : (d.setStrobe i x).press = d.press := rfl
@[simp] theorem Device.setStrobe_update : (d.setStrobe i x).update = d.update := rfl
@[simp] theorem Device.setStrobe_fns : (d.setStrobe i x).fns = d.fns := rfl
@[simp] theorem Device.setStrobe_numVFs : (d.setStrobe i x).numVFs = d.numVFs := rfl
@[simp] theorem Device.setStrobe_fast : (d.setStrobe i x).fast = d.fast := rfl
@[simp] theorem Device.setStrobe_fastLast : (d.setStrobe i x).fastLast = d.fastLast := rfl
@[simp] theorem Device.setStrobe_cmd : (d.setStrobe i x).cmd = d.cmd := rfl
@[simp] theorem Device.setStrobe_queue : (d.setStrobe i x).queue = d.queue := rfl
@[simp] theorem Device.setStrobe_store : (d.setStrobe i x).store = d.store := rfl
@[simp] theorem Device.setStrobe_mem : (d.setStrobe i x).mem = d.mem := rfl
@[simp] theorem Device.setStrobe_chans : (d.setStrobe i x).chans = d.chans := rfl
@[simp] theorem Device.setStrobe_links : (d.setStrobe i x).links = d.links := rfl
@[simp] theorem Device.setStrobe_slots : (d.setStrobe i x).slots = d.slots := rfl
@[simp] theorem Device.setStrobe_engines : (d.setStrobe i x).engines = d.engines := rfl
@[simp] theorem Device.setStrobe_migrations : (d.setStrobe i x).migrations = d.migrations := rfl
@[simp] theorem Device.setStrobe_seq : (d.setStrobe i x).seq = d.seq := rfl
@[simp] theorem Device.setStrobe_edge : (d.setStrobe i x).edge = { d.edge with strobes := tabSet (strobeDflt i) d.edge.strobes i x } := rfl
@[simp] theorem Device.setStrobe_arms : (d.setStrobe i x).arms = d.arms := rfl
@[simp] theorem Device.setStrobe_imp : (d.setStrobe i x).imp = d.imp := rfl
@[simp] theorem Device.setStrobe_reg : (d.setStrobe i x).reg = d.reg := rfl
@[simp] theorem Device.setStrobe_flt : (d.setStrobe i x).flt = d.flt := rfl
@[simp] theorem Device.setStrobe_proof : (d.setStrobe i x).proof = d.proof := rfl
@[simp] theorem Device.setStrobe_resets : (d.setStrobe i x).resets = d.resets := rfl
@[simp] theorem Device.setStrobe_ret : (d.setStrobe i x).ret = d.ret := rfl
@[simp] theorem Device.setStrobe_events : (d.setStrobe i x).events = d.events := rfl
@[simp] theorem Device.setStrobe_sched : (d.setStrobe i x).sched = d.sched := rfl
@[simp] theorem Device.setStrobe_pins : (d.setStrobe i x).pins = d.pins := rfl
@[simp] theorem Device.setStrobe_freeCtr : (d.setStrobe i x).freeCtr = d.freeCtr := rfl
end

section
variable (d : Device) (i : Nat) (x : Axd)
@[simp] theorem Device.setAxd_aon : (d.setAxd i x).aon = d.aon := rfl
@[simp] theorem Device.setAxd_otp : (d.setAxd i x).otp = d.otp := rfl
@[simp] theorem Device.setAxd_flash : (d.setAxd i x).flash = d.flash := rfl
@[simp] theorem Device.setAxd_time : (d.setAxd i x).time = d.time := rfl
@[simp] theorem Device.setAxd_mode : (d.setAxd i x).mode = d.mode := rfl
@[simp] theorem Device.setAxd_ready : (d.setAxd i x).ready = d.ready := rfl
@[simp] theorem Device.setAxd_press : (d.setAxd i x).press = d.press := rfl
@[simp] theorem Device.setAxd_update : (d.setAxd i x).update = d.update := rfl
@[simp] theorem Device.setAxd_fns : (d.setAxd i x).fns = d.fns := rfl
@[simp] theorem Device.setAxd_numVFs : (d.setAxd i x).numVFs = d.numVFs := rfl
@[simp] theorem Device.setAxd_fast : (d.setAxd i x).fast = d.fast := rfl
@[simp] theorem Device.setAxd_fastLast : (d.setAxd i x).fastLast = d.fastLast := rfl
@[simp] theorem Device.setAxd_cmd : (d.setAxd i x).cmd = d.cmd := rfl
@[simp] theorem Device.setAxd_queue : (d.setAxd i x).queue = d.queue := rfl
@[simp] theorem Device.setAxd_store : (d.setAxd i x).store = d.store := rfl
@[simp] theorem Device.setAxd_mem : (d.setAxd i x).mem = d.mem := rfl
@[simp] theorem Device.setAxd_chans : (d.setAxd i x).chans = d.chans := rfl
@[simp] theorem Device.setAxd_links : (d.setAxd i x).links = d.links := rfl
@[simp] theorem Device.setAxd_slots : (d.setAxd i x).slots = d.slots := rfl
@[simp] theorem Device.setAxd_engines : (d.setAxd i x).engines = d.engines := rfl
@[simp] theorem Device.setAxd_migrations : (d.setAxd i x).migrations = d.migrations := rfl
@[simp] theorem Device.setAxd_seq : (d.setAxd i x).seq = d.seq := rfl
@[simp] theorem Device.setAxd_edge : (d.setAxd i x).edge = { d.edge with axds := tabSet {} d.edge.axds i x } := rfl
@[simp] theorem Device.setAxd_arms : (d.setAxd i x).arms = d.arms := rfl
@[simp] theorem Device.setAxd_imp : (d.setAxd i x).imp = d.imp := rfl
@[simp] theorem Device.setAxd_reg : (d.setAxd i x).reg = d.reg := rfl
@[simp] theorem Device.setAxd_flt : (d.setAxd i x).flt = d.flt := rfl
@[simp] theorem Device.setAxd_proof : (d.setAxd i x).proof = d.proof := rfl
@[simp] theorem Device.setAxd_resets : (d.setAxd i x).resets = d.resets := rfl
@[simp] theorem Device.setAxd_ret : (d.setAxd i x).ret = d.ret := rfl
@[simp] theorem Device.setAxd_events : (d.setAxd i x).events = d.events := rfl
@[simp] theorem Device.setAxd_sched : (d.setAxd i x).sched = d.sched := rfl
@[simp] theorem Device.setAxd_pins : (d.setAxd i x).pins = d.pins := rfl
@[simp] theorem Device.setAxd_freeCtr : (d.setAxd i x).freeCtr = d.freeCtr := rfl
end

section
variable (d : Device) (i : Nat) (x : Mon)
@[simp] theorem Device.setMon_aon : (d.setMon i x).aon = d.aon := rfl
@[simp] theorem Device.setMon_otp : (d.setMon i x).otp = d.otp := rfl
@[simp] theorem Device.setMon_flash : (d.setMon i x).flash = d.flash := rfl
@[simp] theorem Device.setMon_time : (d.setMon i x).time = d.time := rfl
@[simp] theorem Device.setMon_mode : (d.setMon i x).mode = d.mode := rfl
@[simp] theorem Device.setMon_ready : (d.setMon i x).ready = d.ready := rfl
@[simp] theorem Device.setMon_press : (d.setMon i x).press = d.press := rfl
@[simp] theorem Device.setMon_update : (d.setMon i x).update = d.update := rfl
@[simp] theorem Device.setMon_fns : (d.setMon i x).fns = d.fns := rfl
@[simp] theorem Device.setMon_numVFs : (d.setMon i x).numVFs = d.numVFs := rfl
@[simp] theorem Device.setMon_fast : (d.setMon i x).fast = d.fast := rfl
@[simp] theorem Device.setMon_fastLast : (d.setMon i x).fastLast = d.fastLast := rfl
@[simp] theorem Device.setMon_cmd : (d.setMon i x).cmd = d.cmd := rfl
@[simp] theorem Device.setMon_queue : (d.setMon i x).queue = d.queue := rfl
@[simp] theorem Device.setMon_store : (d.setMon i x).store = d.store := rfl
@[simp] theorem Device.setMon_mem : (d.setMon i x).mem = d.mem := rfl
@[simp] theorem Device.setMon_chans : (d.setMon i x).chans = d.chans := rfl
@[simp] theorem Device.setMon_links : (d.setMon i x).links = d.links := rfl
@[simp] theorem Device.setMon_slots : (d.setMon i x).slots = d.slots := rfl
@[simp] theorem Device.setMon_engines : (d.setMon i x).engines = d.engines := rfl
@[simp] theorem Device.setMon_migrations : (d.setMon i x).migrations = d.migrations := rfl
@[simp] theorem Device.setMon_seq : (d.setMon i x).seq = d.seq := rfl
@[simp] theorem Device.setMon_edge : (d.setMon i x).edge = { d.edge with mons := tabSet {} d.edge.mons i x } := rfl
@[simp] theorem Device.setMon_arms : (d.setMon i x).arms = d.arms := rfl
@[simp] theorem Device.setMon_imp : (d.setMon i x).imp = d.imp := rfl
@[simp] theorem Device.setMon_reg : (d.setMon i x).reg = d.reg := rfl
@[simp] theorem Device.setMon_flt : (d.setMon i x).flt = d.flt := rfl
@[simp] theorem Device.setMon_proof : (d.setMon i x).proof = d.proof := rfl
@[simp] theorem Device.setMon_resets : (d.setMon i x).resets = d.resets := rfl
@[simp] theorem Device.setMon_ret : (d.setMon i x).ret = d.ret := rfl
@[simp] theorem Device.setMon_events : (d.setMon i x).events = d.events := rfl
@[simp] theorem Device.setMon_sched : (d.setMon i x).sched = d.sched := rfl
@[simp] theorem Device.setMon_pins : (d.setMon i x).pins = d.pins := rfl
@[simp] theorem Device.setMon_freeCtr : (d.setMon i x).freeCtr = d.freeCtr := rfl
end

section
variable (d : Device) (i : Nat) (x : ZPort)
@[simp] theorem Device.setPort_aon : (d.setPort i x).aon = d.aon := rfl
@[simp] theorem Device.setPort_otp : (d.setPort i x).otp = d.otp := rfl
@[simp] theorem Device.setPort_flash : (d.setPort i x).flash = d.flash := rfl
@[simp] theorem Device.setPort_time : (d.setPort i x).time = d.time := rfl
@[simp] theorem Device.setPort_mode : (d.setPort i x).mode = d.mode := rfl
@[simp] theorem Device.setPort_ready : (d.setPort i x).ready = d.ready := rfl
@[simp] theorem Device.setPort_press : (d.setPort i x).press = d.press := rfl
@[simp] theorem Device.setPort_update : (d.setPort i x).update = d.update := rfl
@[simp] theorem Device.setPort_fns : (d.setPort i x).fns = d.fns := rfl
@[simp] theorem Device.setPort_numVFs : (d.setPort i x).numVFs = d.numVFs := rfl
@[simp] theorem Device.setPort_fast : (d.setPort i x).fast = d.fast := rfl
@[simp] theorem Device.setPort_fastLast : (d.setPort i x).fastLast = d.fastLast := rfl
@[simp] theorem Device.setPort_cmd : (d.setPort i x).cmd = d.cmd := rfl
@[simp] theorem Device.setPort_queue : (d.setPort i x).queue = d.queue := rfl
@[simp] theorem Device.setPort_store : (d.setPort i x).store = d.store := rfl
@[simp] theorem Device.setPort_mem : (d.setPort i x).mem = d.mem := rfl
@[simp] theorem Device.setPort_chans : (d.setPort i x).chans = d.chans := rfl
@[simp] theorem Device.setPort_links : (d.setPort i x).links = d.links := rfl
@[simp] theorem Device.setPort_slots : (d.setPort i x).slots = d.slots := rfl
@[simp] theorem Device.setPort_engines : (d.setPort i x).engines = d.engines := rfl
@[simp] theorem Device.setPort_migrations : (d.setPort i x).migrations = d.migrations := rfl
@[simp] theorem Device.setPort_seq : (d.setPort i x).seq = d.seq := rfl
@[simp] theorem Device.setPort_edge : (d.setPort i x).edge = d.edge := rfl
@[simp] theorem Device.setPort_arms : (d.setPort i x).arms = d.arms := rfl
@[simp] theorem Device.setPort_imp : (d.setPort i x).imp = d.imp := rfl
@[simp] theorem Device.setPort_reg : (d.setPort i x).reg = { d.reg with ports := tabSet {} d.reg.ports i x } := rfl
@[simp] theorem Device.setPort_flt : (d.setPort i x).flt = d.flt := rfl
@[simp] theorem Device.setPort_proof : (d.setPort i x).proof = d.proof := rfl
@[simp] theorem Device.setPort_resets : (d.setPort i x).resets = d.resets := rfl
@[simp] theorem Device.setPort_ret : (d.setPort i x).ret = d.ret := rfl
@[simp] theorem Device.setPort_events : (d.setPort i x).events = d.events := rfl
@[simp] theorem Device.setPort_sched : (d.setPort i x).sched = d.sched := rfl
@[simp] theorem Device.setPort_pins : (d.setPort i x).pins = d.pins := rfl
@[simp] theorem Device.setPort_freeCtr : (d.setPort i x).freeCtr = d.freeCtr := rfl
end

section
variable (d : Device) (i : Nat) (x : MemDev)
@[simp] theorem Device.setMemDev_aon : (d.setMemDev i x).aon = d.aon := rfl
@[simp] theorem Device.setMemDev_otp : (d.setMemDev i x).otp = d.otp := rfl
@[simp] theorem Device.setMemDev_flash : (d.setMemDev i x).flash = d.flash := rfl
@[simp] theorem Device.setMemDev_time : (d.setMemDev i x).time = d.time := rfl
@[simp] theorem Device.setMemDev_mode : (d.setMemDev i x).mode = d.mode := rfl
@[simp] theorem Device.setMemDev_ready : (d.setMemDev i x).ready = d.ready := rfl
@[simp] theorem Device.setMemDev_press : (d.setMemDev i x).press = d.press := rfl
@[simp] theorem Device.setMemDev_update : (d.setMemDev i x).update = d.update := rfl
@[simp] theorem Device.setMemDev_fns : (d.setMemDev i x).fns = d.fns := rfl
@[simp] theorem Device.setMemDev_numVFs : (d.setMemDev i x).numVFs = d.numVFs := rfl
@[simp] theorem Device.setMemDev_fast : (d.setMemDev i x).fast = d.fast := rfl
@[simp] theorem Device.setMemDev_fastLast : (d.setMemDev i x).fastLast = d.fastLast := rfl
@[simp] theorem Device.setMemDev_cmd : (d.setMemDev i x).cmd = d.cmd := rfl
@[simp] theorem Device.setMemDev_queue : (d.setMemDev i x).queue = d.queue := rfl
@[simp] theorem Device.setMemDev_store : (d.setMemDev i x).store = d.store := rfl
@[simp] theorem Device.setMemDev_mem : (d.setMemDev i x).mem = { d.mem with devs := tabSet {} d.mem.devs i x } := rfl
@[simp] theorem Device.setMemDev_chans : (d.setMemDev i x).chans = d.chans := rfl
@[simp] theorem Device.setMemDev_links : (d.setMemDev i x).links = d.links := rfl
@[simp] theorem Device.setMemDev_slots : (d.setMemDev i x).slots = d.slots := rfl
@[simp] theorem Device.setMemDev_engines : (d.setMemDev i x).engines = d.engines := rfl
@[simp] theorem Device.setMemDev_migrations : (d.setMemDev i x).migrations = d.migrations := rfl
@[simp] theorem Device.setMemDev_seq : (d.setMemDev i x).seq = d.seq := rfl
@[simp] theorem Device.setMemDev_edge : (d.setMemDev i x).edge = d.edge := rfl
@[simp] theorem Device.setMemDev_arms : (d.setMemDev i x).arms = d.arms := rfl
@[simp] theorem Device.setMemDev_imp : (d.setMemDev i x).imp = d.imp := rfl
@[simp] theorem Device.setMemDev_reg : (d.setMemDev i x).reg = d.reg := rfl
@[simp] theorem Device.setMemDev_flt : (d.setMemDev i x).flt = d.flt := rfl
@[simp] theorem Device.setMemDev_proof : (d.setMemDev i x).proof = d.proof := rfl
@[simp] theorem Device.setMemDev_resets : (d.setMemDev i x).resets = d.resets := rfl
@[simp] theorem Device.setMemDev_ret : (d.setMemDev i x).ret = d.ret := rfl
@[simp] theorem Device.setMemDev_events : (d.setMemDev i x).events = d.events := rfl
@[simp] theorem Device.setMemDev_sched : (d.setMemDev i x).sched = d.sched := rfl
@[simp] theorem Device.setMemDev_pins : (d.setMemDev i x).pins = d.pins := rfl
@[simp] theorem Device.setMemDev_freeCtr : (d.setMemDev i x).freeCtr = d.freeCtr := rfl
end

section
variable (d : Device) (i : Nat) (x : Ring)
@[simp] theorem Device.setRing_aon : (d.setRing i x).aon = d.aon := rfl
@[simp] theorem Device.setRing_otp : (d.setRing i x).otp = d.otp := rfl
@[simp] theorem Device.setRing_flash : (d.setRing i x).flash = d.flash := rfl
@[simp] theorem Device.setRing_time : (d.setRing i x).time = d.time := rfl
@[simp] theorem Device.setRing_mode : (d.setRing i x).mode = d.mode := rfl
@[simp] theorem Device.setRing_ready : (d.setRing i x).ready = d.ready := rfl
@[simp] theorem Device.setRing_press : (d.setRing i x).press = d.press := rfl
@[simp] theorem Device.setRing_update : (d.setRing i x).update = d.update := rfl
@[simp] theorem Device.setRing_fns : (d.setRing i x).fns = d.fns := rfl
@[simp] theorem Device.setRing_numVFs : (d.setRing i x).numVFs = d.numVFs := rfl
@[simp] theorem Device.setRing_fast : (d.setRing i x).fast = d.fast := rfl
@[simp] theorem Device.setRing_fastLast : (d.setRing i x).fastLast = d.fastLast := rfl
@[simp] theorem Device.setRing_cmd : (d.setRing i x).cmd = d.cmd := rfl
@[simp] theorem Device.setRing_queue : (d.setRing i x).queue = { d.queue with rings := tabInsert d.queue.rings i x } := rfl
@[simp] theorem Device.setRing_store : (d.setRing i x).store = d.store := rfl
@[simp] theorem Device.setRing_mem : (d.setRing i x).mem = d.mem := rfl
@[simp] theorem Device.setRing_chans : (d.setRing i x).chans = d.chans := rfl
@[simp] theorem Device.setRing_links : (d.setRing i x).links = d.links := rfl
@[simp] theorem Device.setRing_slots : (d.setRing i x).slots = d.slots := rfl
@[simp] theorem Device.setRing_engines : (d.setRing i x).engines = d.engines := rfl
@[simp] theorem Device.setRing_migrations : (d.setRing i x).migrations = d.migrations := rfl
@[simp] theorem Device.setRing_seq : (d.setRing i x).seq = d.seq := rfl
@[simp] theorem Device.setRing_edge : (d.setRing i x).edge = d.edge := rfl
@[simp] theorem Device.setRing_arms : (d.setRing i x).arms = d.arms := rfl
@[simp] theorem Device.setRing_imp : (d.setRing i x).imp = d.imp := rfl
@[simp] theorem Device.setRing_reg : (d.setRing i x).reg = d.reg := rfl
@[simp] theorem Device.setRing_flt : (d.setRing i x).flt = d.flt := rfl
@[simp] theorem Device.setRing_proof : (d.setRing i x).proof = d.proof := rfl
@[simp] theorem Device.setRing_resets : (d.setRing i x).resets = d.resets := rfl
@[simp] theorem Device.setRing_ret : (d.setRing i x).ret = d.ret := rfl
@[simp] theorem Device.setRing_events : (d.setRing i x).events = d.events := rfl
@[simp] theorem Device.setRing_sched : (d.setRing i x).sched = d.sched := rfl
@[simp] theorem Device.setRing_pins : (d.setRing i x).pins = d.pins := rfl
@[simp] theorem Device.setRing_freeCtr : (d.setRing i x).freeCtr = d.freeCtr := rfl
end

section
variable (d : Device) (i : Nat) (x : Option Segment)
@[simp] theorem Device.setSeg_aon : (d.setSeg i x).aon = d.aon := rfl
@[simp] theorem Device.setSeg_otp : (d.setSeg i x).otp = d.otp := rfl
@[simp] theorem Device.setSeg_flash : (d.setSeg i x).flash = d.flash := rfl
@[simp] theorem Device.setSeg_time : (d.setSeg i x).time = d.time := rfl
@[simp] theorem Device.setSeg_mode : (d.setSeg i x).mode = d.mode := rfl
@[simp] theorem Device.setSeg_ready : (d.setSeg i x).ready = d.ready := rfl
@[simp] theorem Device.setSeg_press : (d.setSeg i x).press = d.press := rfl
@[simp] theorem Device.setSeg_update : (d.setSeg i x).update = d.update := rfl
@[simp] theorem Device.setSeg_fns : (d.setSeg i x).fns = d.fns := rfl
@[simp] theorem Device.setSeg_numVFs : (d.setSeg i x).numVFs = d.numVFs := rfl
@[simp] theorem Device.setSeg_fast : (d.setSeg i x).fast = d.fast := rfl
@[simp] theorem Device.setSeg_fastLast : (d.setSeg i x).fastLast = d.fastLast := rfl
@[simp] theorem Device.setSeg_cmd : (d.setSeg i x).cmd = d.cmd := rfl
@[simp] theorem Device.setSeg_queue : (d.setSeg i x).queue = d.queue := rfl
@[simp] theorem Device.setSeg_store : (d.setSeg i x).store = d.store := rfl
@[simp] theorem Device.setSeg_mem : (d.setSeg i x).mem = d.mem := rfl
@[simp] theorem Device.setSeg_chans : (d.setSeg i x).chans = d.chans := rfl
@[simp] theorem Device.setSeg_links : (d.setSeg i x).links = d.links := rfl
@[simp] theorem Device.setSeg_slots : (d.setSeg i x).slots = d.slots := rfl
@[simp] theorem Device.setSeg_engines : (d.setSeg i x).engines = d.engines := rfl
@[simp] theorem Device.setSeg_migrations : (d.setSeg i x).migrations = d.migrations := rfl
@[simp] theorem Device.setSeg_seq : (d.setSeg i x).seq = { d.seq with segments := tabSet none d.seq.segments i x } := rfl
@[simp] theorem Device.setSeg_edge : (d.setSeg i x).edge = d.edge := rfl
@[simp] theorem Device.setSeg_arms : (d.setSeg i x).arms = d.arms := rfl
@[simp] theorem Device.setSeg_imp : (d.setSeg i x).imp = d.imp := rfl
@[simp] theorem Device.setSeg_reg : (d.setSeg i x).reg = d.reg := rfl
@[simp] theorem Device.setSeg_flt : (d.setSeg i x).flt = d.flt := rfl
@[simp] theorem Device.setSeg_proof : (d.setSeg i x).proof = d.proof := rfl
@[simp] theorem Device.setSeg_resets : (d.setSeg i x).resets = d.resets := rfl
@[simp] theorem Device.setSeg_ret : (d.setSeg i x).ret = d.ret := rfl
@[simp] theorem Device.setSeg_events : (d.setSeg i x).events = d.events := rfl
@[simp] theorem Device.setSeg_sched : (d.setSeg i x).sched = d.sched := rfl
@[simp] theorem Device.setSeg_pins : (d.setSeg i x).pins = d.pins := rfl
@[simp] theorem Device.setSeg_freeCtr : (d.setSeg i x).freeCtr = d.freeCtr := rfl
end

section
variable (d : Device) (t : Nat)
@[simp] theorem Device.at_aon : (d.at t).aon = d.aon := rfl
@[simp] theorem Device.at_otp : (d.at t).otp = d.otp := rfl
@[simp] theorem Device.at_flash : (d.at t).flash = d.flash := rfl
@[simp] theorem Device.at_mode : (d.at t).mode = d.mode := rfl
@[simp] theorem Device.at_ready : (d.at t).ready = d.ready := rfl
@[simp] theorem Device.at_press : (d.at t).press = d.press := rfl
@[simp] theorem Device.at_update : (d.at t).update = d.update := rfl
@[simp] theorem Device.at_fns : (d.at t).fns = d.fns := rfl
@[simp] theorem Device.at_numVFs : (d.at t).numVFs = d.numVFs := rfl
@[simp] theorem Device.at_fast : (d.at t).fast = d.fast := rfl
@[simp] theorem Device.at_fastLast : (d.at t).fastLast = d.fastLast := rfl
@[simp] theorem Device.at_cmd : (d.at t).cmd = d.cmd := rfl
@[simp] theorem Device.at_queue : (d.at t).queue = d.queue := rfl
@[simp] theorem Device.at_store : (d.at t).store = d.store := rfl
@[simp] theorem Device.at_mem : (d.at t).mem = d.mem := rfl
@[simp] theorem Device.at_chans : (d.at t).chans = d.chans := rfl
@[simp] theorem Device.at_links : (d.at t).links = d.links := rfl
@[simp] theorem Device.at_slots : (d.at t).slots = d.slots := rfl
@[simp] theorem Device.at_engines : (d.at t).engines = d.engines := rfl
@[simp] theorem Device.at_migrations : (d.at t).migrations = d.migrations := rfl
@[simp] theorem Device.at_seq : (d.at t).seq = d.seq := rfl
@[simp] theorem Device.at_edge : (d.at t).edge = d.edge := rfl
@[simp] theorem Device.at_arms : (d.at t).arms = d.arms := rfl
@[simp] theorem Device.at_imp : (d.at t).imp = d.imp := rfl
@[simp] theorem Device.at_reg : (d.at t).reg = d.reg := rfl
@[simp] theorem Device.at_flt : (d.at t).flt = d.flt := rfl
@[simp] theorem Device.at_proof : (d.at t).proof = d.proof := rfl
@[simp] theorem Device.at_resets : (d.at t).resets = d.resets := rfl
@[simp] theorem Device.at_ret : (d.at t).ret = d.ret := rfl
@[simp] theorem Device.at_events : (d.at t).events = d.events := rfl
@[simp] theorem Device.at_sched : (d.at t).sched = d.sched := rfl
@[simp] theorem Device.at_pins : (d.at t).pins = d.pins := rfl
@[simp] theorem Device.at_freeCtr : (d.at t).freeCtr = d.freeCtr := rfl
end

end Sys2Proof.Machine
end

