-- ==== Sys2Proof/Laws/Tab.lean ====
section
/-! SUPPORT. Sparse tables and byte stores: a read after a write, what a write leaves alone, and the canonical form. -/

namespace Sys2Proof.Machine

section
variable {α : Type} (e : α) (t : Tab α) (i j : Nat) (v : α)

@[simp] theorem tabGet_insert_self : tabGet e (tabInsert t i v) i = v := by
  induction t with
  | nil => simp [tabInsert, tabGet]
  | cons x t ih =>
    obtain ⟨k, w⟩ := x
    unfold tabInsert
    split
    · simp only [tabGet, ih, ite_eq_right_iff]; omega
    · split <;> simp [tabGet]

@[simp] theorem tabFind_insert_self : tabFind (tabInsert t i v) i = some v := by
  induction t with
  | nil => simp [tabInsert, tabFind]
  | cons x t ih =>
    obtain ⟨k, w⟩ := x
    unfold tabInsert
    split
    · simp only [tabFind, ih, ite_eq_right_iff]; omega
    · split <;> simp [tabFind]

theorem tabGet_insert_ne (h : i ≠ j) : tabGet e (tabInsert t i v) j = tabGet e t j := by
  induction t with
  | nil => simp [tabInsert, tabGet, h]
  | cons x t ih =>
    obtain ⟨k, w⟩ := x
    unfold tabInsert
    split
    · simp [tabGet, ih]
    · split
      · rename_i hk; subst hk; simp [tabGet, h]
      · simp [tabGet, h]

theorem tabFind_insert_ne (h : i ≠ j) : tabFind (tabInsert t i v) j = tabFind t j := by
  induction t with
  | nil => simp [tabInsert, tabFind, h]
  | cons x t ih =>
    obtain ⟨k, w⟩ := x
    unfold tabInsert
    split
    · simp [tabFind, ih]
    · split
      · rename_i hk; subst hk; simp [tabFind, h]
      · simp [tabFind, h]

@[simp] theorem tabGet_erase_self : tabGet e (tabErase t i) i = e := by
  induction t with
  | nil => rfl
  | cons x t ih =>
    simp only [tabErase, ne_eq, decide_not] at ih ⊢
    by_cases h : x.1 = i
    · simp [h, ih]
    · simp [h, tabGet, ih]

@[simp] theorem tabFind_erase_self : tabFind (tabErase t i) i = none := by
  induction t with
  | nil => rfl
  | cons x t ih =>
    simp only [tabErase, ne_eq, decide_not] at ih ⊢
    by_cases h : x.1 = i
    · simp [h, ih]
    · simp [h, tabFind, ih]

theorem tabGet_erase_ne (h : i ≠ j) : tabGet e (tabErase t i) j = tabGet e t j := by
  induction t with
  | nil => rfl
  | cons x t ih =>
    simp only [tabErase, ne_eq, decide_not] at ih ⊢
    by_cases hk : x.1 = i
    · have : ¬ x.1 = j := by omega
      simp [hk, tabGet, ih, h]
    · simp [hk, tabGet, ih]

theorem tabFind_erase_ne (h : i ≠ j) : tabFind (tabErase t i) j = tabFind t j := by
  induction t with
  | nil => rfl
  | cons x t ih =>
    simp only [tabErase, ne_eq, decide_not] at ih ⊢
    by_cases hk : x.1 = i
    · have : ¬ x.1 = j := by omega
      simp [hk, tabFind, ih, h]
    · simp [hk, tabFind, ih]

variable [DecidableEq α]

/-- A read after a write to the same index. -/
@[simp] theorem tabGet_set_self : tabGet e (tabSet e t i v) i = v := by
  unfold tabSet; split
  · rename_i h; rw [h]; simp
  · simp

/-- A write leaves every other index alone. -/
theorem tabGet_set_ne (h : i ≠ j) : tabGet e (tabSet e t i v) j = tabGet e t j := by
  unfold tabSet; split
  · exact tabGet_erase_ne e t i j h
  · exact tabGet_insert_ne e t i j v h

end

/-! ### The canonical form -/

/-- The canonical form as a fact about the list: rising indices, no default value. -/
theorem tabWf_iff {α : Type} [DecidableEq α] (e : α) (t : Tab α) :
    tabWf e t = true ↔ t.Pairwise (fun x y => x.1 < y.1) ∧ ∀ x ∈ t, x.2 ≠ e := by
  induction t with
  | nil => simp [tabWf]
  | cons x t ih =>
    obtain ⟨k, v⟩ := x
    cases t with
    | nil => simp [tabWf]
    | cons y t =>
      obtain ⟨m, w⟩ := y
      simp only [tabWf, Bool.and_eq_true, decide_eq_true_eq, ih, List.pairwise_cons, List.mem_cons, forall_eq_or_imp]
      constructor
      · rintro ⟨⟨h1, h2⟩, ⟨h3, h4⟩, h5⟩
        exact ⟨⟨⟨h1, fun a ha => Nat.lt_trans h1 (h3 a ha)⟩, h3, h4⟩, h2, h5⟩
      · rintro ⟨⟨⟨h1, _⟩, h3, h4⟩, h2, h5⟩
        exact ⟨⟨h1, h2⟩, ⟨h3, h4⟩, h5⟩

theorem mem_tabInsert {α : Type} (t : Tab α) (i : Nat) (v : α) (x : Nat × α) (h : x ∈ tabInsert t i v) : x = (i, v) ∨ x ∈ t := by
  induction t with
  | nil => simpa [tabInsert] using h
  | cons y t ih =>
    obtain ⟨k, w⟩ := y
    unfold tabInsert at h
    split at h
    · rcases List.mem_cons.mp h with h | h
      · exact .inr (h ▸ List.mem_cons_self)
      · rcases ih h with h | h
        · exact .inl h
        · exact .inr (List.mem_cons_of_mem _ h)
    · split at h
      · rcases List.mem_cons.mp h with h | h
        · exact .inl h
        · exact .inr (List.mem_cons_of_mem _ h)
      · rcases List.mem_cons.mp h with h | h
        · exact .inl h
        · exact .inr h

theorem tabInsert_rising {α : Type} (t : Tab α) (i : Nat) (v : α) (h : t.Pairwise (fun x y => x.1 < y.1)) :
    (tabInsert t i v).Pairwise (fun x y => x.1 < y.1) := by
  induction t with
  | nil => simp [tabInsert]
  | cons y t ih =>
    obtain ⟨k, w⟩ := y
    rw [List.pairwise_cons] at h
    unfold tabInsert
    split
    · rename_i hk
      rw [List.pairwise_cons]
      refine ⟨fun x hx => ?_, ih h.2⟩
      rcases mem_tabInsert t i v x hx with rfl | hx
      · exact hk
      · exact h.1 x hx
    · split
      · rename_i hk; subst hk
        exact List.pairwise_cons.mpr ⟨h.1, h.2⟩
      · refine List.pairwise_cons.mpr ⟨fun x hx => ?_, List.pairwise_cons.mpr h⟩
        rcases List.mem_cons.mp hx with rfl | hx
        · show i < k; omega
        · have := h.1 x hx; show i < x.1; simp at this; omega

/-- A write keeps the canonical form. -/
theorem tabSet_wf {α : Type} [DecidableEq α] (e : α) (t : Tab α) (i : Nat) (v : α) (h : tabWf e t = true) : tabWf e (tabSet e t i v) = true := by
  rw [tabWf_iff] at h ⊢
  unfold tabSet
  split
  · exact ⟨h.1.filter _, fun x hx => h.2 x (List.mem_filter.mp hx).1⟩
  · rename_i hv
    refine ⟨tabInsert_rising t i v h.1, fun x hx => ?_⟩
    rcases mem_tabInsert t i v x hx with rfl | hx
    · exact hv
    · exact h.2 x hx

/-! ### Byte stores (R18, R447) -/

/-- Writing one byte keeps the canonical form of a store. -/
theorem cellSet_wf (m : List Host.Cell) (a : Nat) (b : Byte) (h : Memory.wf m = true) : Memory.wf (cellSet m a b) = true := tabSet_wf 0 m a b h

/-- Writing bytes keeps the canonical form of a store. -/
theorem cellsWrite_wf (m : List Host.Cell) (a : Nat) (l : List Byte) (h : Memory.wf m = true) : Memory.wf (cellsWrite m a l) = true := by
  induction l generalizing m a with
  | nil => exact h
  | cons b l ih => exact ih _ _ (cellSet_wf m a b h)

/-- A byte outside the bytes written reads as before. -/
theorem cellGet_write_out (m : List Host.Cell) (a k : Nat) (l : List Byte) (h : k < a ∨ a + l.length ≤ k) :
    cellGet (cellsWrite m a l) k = cellGet m k := by
  induction l generalizing m a with
  | nil => rfl
  | cons b l ih =>
    simp only [List.length_cons] at h
    unfold cellsWrite
    rw [ih _ _ (by omega)]
    exact tabGet_set_ne 0 m a k b (by omega)

/-- A byte written reads as written. -/
theorem cellGet_write_in (m : List Host.Cell) (a : Nat) (l : List Byte) (k : Nat) (h : k < l.length) :
    cellGet (cellsWrite m a l) (a + k) = l[k] := by
  induction l generalizing m a k with
  | nil => simp at h
  | cons b l ih =>
    unfold cellsWrite
    cases k with
    | zero =>
      rw [cellGet_write_out _ _ _ _ (by omega)]
      exact tabGet_set_self 0 m a b
    | succ k =>
      have := ih (cellSet m a b) (a + 1) k (by simpa using h)
      rw [show a + (k + 1) = a + 1 + k by omega]
      simpa using this

theorem cellsRead_length (m : List Host.Cell) (a n : Nat) : (cellsRead m a n).length = n := by
  induction n generalizing a with
  | zero => rfl
  | succ n ih => simp [cellsRead, ih]

theorem cellsRead_get (m : List Host.Cell) (a n k : Nat) (h : k < (cellsRead m a n).length) : (cellsRead m a n)[k] = cellGet m (a + k) := by
  induction n generalizing a k with
  | zero => simp [cellsRead] at h
  | succ n ih =>
    cases k with
    | zero => rfl
    | succ k =>
      simp only [cellsRead, List.getElem_cons_succ]
      rw [ih]; congr 1; omega

/-- What was written reads back. -/
theorem cellsRead_write (m : List Host.Cell) (a : Nat) (l : List Byte) : cellsRead (cellsWrite m a l) a l.length = l := by
  apply List.ext_getElem (cellsRead_length _ _ _)
  intro k h1 h2
  rw [cellsRead_get, cellGet_write_in _ _ _ _ h2]

end Sys2Proof.Machine
end

