-- ==== Sys2Proof/Laws/Access.lean ====
section
/-! SUPPORT. Reading a part of the device after a part was written: the one written, and every other. -/

namespace Sys2Proof.Machine

@[simp] theorem Device.setFn_get (d : Device) (i : Nat) (x : HostFn) : (d.setFn i x).fn i = x := by simp [Device.fn]
theorem Device.setFn_get_ne (d : Device) (i k : Nat) (x : HostFn) (h : k ≠ i) : (d.setFn i x).fn k = d.fn k := by
  simp only [Device.fn, Device.setFn]; exact tabGet_set_ne _ _ _ _ _ h.symm
@[simp] theorem Device.setChan_get (d : Device) (i : Nat) (x : Chan) : (d.setChan i x).chan i = x := by simp [Device.chan]
theorem Device.setChan_get_ne (d : Device) (i k : Nat) (x : Chan) (h : k ≠ i) : (d.setChan i x).chan k = d.chan k := by
  simp only [Device.chan, Device.setChan]; exact tabGet_set_ne _ _ _ _ _ h.symm
@[simp] theorem Device.setLink_get (d : Device) (i : Nat) (x : Link) : (d.setLink i x).link i = x := by simp [Device.link]
theorem Device.setLink_get_ne (d : Device) (i k : Nat) (x : Link) (h : k ≠ i) : (d.setLink i x).link k = d.link k := by
  simp only [Device.link, Device.setLink]; exact tabGet_set_ne _ _ _ _ _ h.symm
@[simp] theorem Device.setSlot_get (d : Device) (i : Nat) (x : Slot) : (d.setSlot i x).slot i = x := by simp [Device.slot]
theorem Device.setSlot_get_ne (d : Device) (i k : Nat) (x : Slot) (h : k ≠ i) : (d.setSlot i x).slot k = d.slot k := by
  simp only [Device.slot, Device.setSlot]; exact tabGet_set_ne _ _ _ _ _ h.symm
@[simp] theorem Device.setEngine_get (d : Device) (i : Nat) (x : Engine) : (d.setEngine i x).engine i = x := by simp [Device.engine]
theorem Device.setEngine_get_ne (d : Device) (i k : Nat) (x : Engine) (h : k ≠ i) : (d.setEngine i x).engine k = d.engine k := by
  simp only [Device.engine, Device.setEngine]; exact tabGet_set_ne _ _ _ _ _ h.symm
@[simp] theorem Device.setZone_get (d : Device) (i : Nat) (x : Zone) : (d.setZone i x).zone i = x := by simp [Device.zone]
theorem Device.setZone_get_ne (d : Device) (i k : Nat) (x : Zone) (h : k ≠ i) : (d.setZone i x).zone k = d.zone k := by
  simp only [Device.zone, Device.setZone]; exact tabGet_set_ne _ _ _ _ _ h.symm
@[simp] theorem Device.setRail_get (d : Device) (i : Nat) (x : Rail) : (d.setRail i x).rail i = x := by simp [Device.rail]
theorem Device.setRail_get_ne (d : Device) (i k : Nat) (x : Rail) (h : k ≠ i) : (d.setRail i x).rail k = d.rail k := by
  simp only [Device.rail, Device.setRail]; exact tabGet_set_ne _ _ _ _ _ h.symm
@[simp] theorem Device.setModel_get (d : Device) (i : Nat) (x : Model) : (d.setModel i x).model i = x := by simp [Device.model]
theorem Device.setModel_get_ne (d : Device) (i k : Nat) (x : Model) (h : k ≠ i) : (d.setModel i x).model k = d.model k := by
  simp only [Device.model, Device.setModel]; exact tabGet_set_ne _ _ _ _ _ h.symm
@[simp] theorem Device.setShare_get (d : Device) (i : Nat) (x : Share) : (d.setShare i x).share i = x := by simp [Device.share]
theorem Device.setShare_get_ne (d : Device) (i k : Nat) (x : Share) (h : k ≠ i) : (d.setShare i x).share k = d.share k := by
  simp only [Device.share, Device.setShare]; exact tabGet_set_ne _ _ _ _ _ h.symm
@[simp] theorem Device.setPin_get (d : Device) (i : Nat) (x : MkPin) : (d.setPin i x).pin i = x := by simp [Device.pin]
theorem Device.setPin_get_ne (d : Device) (i k : Nat) (x : MkPin) (h : k ≠ i) : (d.setPin i x).pin k = d.pin k := by
  simp only [Device.pin, Device.setPin]; exact tabGet_set_ne _ _ _ _ _ h.symm
@[simp] theorem Device.setStrobe_get (d : Device) (i : Nat) (x : Strobe) : (d.setStrobe i x).strobe i = x := by simp [Device.strobe]
theorem Device.setStrobe_get_ne (d : Device) (i k : Nat) (x : Strobe) (h : k ≠ i) : (d.setStrobe i x).strobe k = d.strobe k := by
  unfold Device.strobe Device.setStrobe tabSet
  dsimp only
  split
  · rw [tabGet_erase_ne _ _ _ _ h.symm]
  · rw [tabGet_insert_ne _ _ _ _ _ h.symm]
@[simp] theorem Device.setAxd_get (d : Device) (i : Nat) (x : Axd) : (d.setAxd i x).axd i = x := by simp [Device.axd]
theorem Device.setAxd_get_ne (d : Device) (i k : Nat) (x : Axd) (h : k ≠ i) : (d.setAxd i x).axd k = d.axd k := by
  simp only [Device.axd, Device.setAxd]; exact tabGet_set_ne _ _ _ _ _ h.symm
@[simp] theorem Device.setMon_get (d : Device) (i : Nat) (x : Mon) : (d.setMon i x).mon i = x := by simp [Device.mon]
theorem Device.setMon_get_ne (d : Device) (i k : Nat) (x : Mon) (h : k ≠ i) : (d.setMon i x).mon k = d.mon k := by
  simp only [Device.mon, Device.setMon]; exact tabGet_set_ne _ _ _ _ _ h.symm
@[simp] theorem Device.setPort_get (d : Device) (i : Nat) (x : ZPort) : (d.setPort i x).port i = x := by simp [Device.port]
theorem Device.setPort_get_ne (d : Device) (i k : Nat) (x : ZPort) (h : k ≠ i) : (d.setPort i x).port k = d.port k := by
  simp only [Device.port, Device.setPort]; exact tabGet_set_ne _ _ _ _ _ h.symm
@[simp] theorem Device.setMemDev_get (d : Device) (i : Nat) (x : MemDev) : (d.setMemDev i x).memDev i = x := by simp [Device.memDev]
theorem Device.setMemDev_get_ne (d : Device) (i k : Nat) (x : MemDev) (h : k ≠ i) : (d.setMemDev i x).memDev k = d.memDev k := by
  simp only [Device.memDev, Device.setMemDev]; exact tabGet_set_ne _ _ _ _ _ h.symm
@[simp] theorem Device.setSeg_get (d : Device) (i : Nat) (x : Option Segment) : (d.setSeg i x).seg? i = x := by simp [Device.seg?]
theorem Device.setSeg_get_ne (d : Device) (i k : Nat) (x : Option Segment) (h : k ≠ i) : (d.setSeg i x).seg? k = d.seg? k := by
  simp only [Device.seg?, Device.setSeg]; exact tabGet_set_ne _ _ _ _ _ h.symm

section
variable (d : Device) (i k : Nat) (x : HostFn)
@[simp] theorem Device.setFn_chan : (d.setFn i x).chan k = d.chan k := rfl
@[simp] theorem Device.setFn_link : (d.setFn i x).link k = d.link k := rfl
@[simp] theorem Device.setFn_slot : (d.setFn i x).slot k = d.slot k := rfl
@[simp] theorem Device.setFn_engine : (d.setFn i x).engine k = d.engine k := rfl
@[simp] theorem Device.setFn_zone : (d.setFn i x).zone k = d.zone k := rfl
@[simp] theorem Device.setFn_rail : (d.setFn i x).rail k = d.rail k := rfl
@[simp] theorem Device.setFn_model : (d.setFn i x).model k = d.model k := rfl
@[simp] theorem Device.setFn_share : (d.setFn i x).share k = d.share k := rfl
@[simp] theorem Device.setFn_pin : (d.setFn i x).pin k = d.pin k := rfl
@[simp] theorem Device.setFn_strobe : (d.setFn i x).strobe k = d.strobe k := rfl
@[simp] theorem Device.setFn_axd : (d.setFn i x).axd k = d.axd k := rfl
@[simp] theorem Device.setFn_mon : (d.setFn i x).mon k = d.mon k := rfl
@[simp] theorem Device.setFn_port : (d.setFn i x).port k = d.port k := rfl
@[simp] theorem Device.setFn_memDev : (d.setFn i x).memDev k = d.memDev k := rfl
@[simp] theorem Device.setFn_seg : (d.setFn i x).seg? k = d.seg? k := rfl
@[simp] theorem Device.setFn_ring : (d.setFn i x).ring? k = d.ring? k := rfl
end

section
variable (d : Device) (i k : Nat) (x : Chan)
@[simp] theorem Device.setChan_fn : (d.setChan i x).fn k = d.fn k := rfl
@[simp] theorem Device.setChan_link : (d.setChan i x).link k = d.link k := rfl
@[simp] theorem Device.setChan_slot : (d.setChan i x).slot k = d.slot k := rfl
@[simp] theorem Device.setChan_engine : (d.setChan i x).engine k = d.engine k := rfl
@[simp] theorem Device.setChan_zone : (d.setChan i x).zone k = d.zone k := rfl
@[simp] theorem Device.setChan_rail : (d.setChan i x).rail k = d.rail k := rfl
@[simp] theorem Device.setChan_model : (d.setChan i x).model k = d.model k := rfl
@[simp] theorem Device.setChan_share : (d.setChan i x).share k = d.share k := rfl
@[simp] theorem Device.setChan_pin : (d.setChan i x).pin k = d.pin k := rfl
@[simp] theorem Device.setChan_strobe : (d.setChan i x).strobe k = d.strobe k := rfl
@[simp] theorem Device.setChan_axd : (d.setChan i x).axd k = d.axd k := rfl
@[simp] theorem Device.setChan_mon : (d.setChan i x).mon k = d.mon k := rfl
@[simp] theorem Device.setChan_port : (d.setChan i x).port k = d.port k := rfl
@[simp] theorem Device.setChan_memDev : (d.setChan i x).memDev k = d.memDev k := rfl
@[simp] theorem Device.setChan_seg : (d.setChan i x).seg? k = d.seg? k := rfl
@[simp] theorem Device.setChan_ring : (d.setChan i x).ring? k = d.ring? k := rfl
end

section
variable (d : Device) (i k : Nat) (x : Link)
@[simp] theorem Device.setLink_fn : (d.setLink i x).fn k = d.fn k := rfl
@[simp] theorem Device.setLink_chan : (d.setLink i x).chan k = d.chan k := rfl
@[simp] theorem Device.setLink_slot : (d.setLink i x).slot k = d.slot k := rfl
@[simp] theorem Device.setLink_engine : (d.setLink i x).engine k = d.engine k := rfl
@[simp] theorem Device.setLink_zone : (d.setLink i x).zone k = d.zone k := rfl
@[simp] theorem Device.setLink_rail : (d.setLink i x).rail k = d.rail k := rfl
@[simp] theorem Device.setLink_model : (d.setLink i x).model k = d.model k := rfl
@[simp] theorem Device.setLink_share : (d.setLink i x).share k = d.share k := rfl
@[simp] theorem Device.setLink_pin : (d.setLink i x).pin k = d.pin k := rfl
@[simp] theorem Device.setLink_strobe : (d.setLink i x).strobe k = d.strobe k := rfl
@[simp] theorem Device.setLink_axd : (d.setLink i x).axd k = d.axd k := rfl
@[simp] theorem Device.setLink_mon : (d.setLink i x).mon k = d.mon k := rfl
@[simp] theorem Device.setLink_port : (d.setLink i x).port k = d.port k := rfl
@[simp] theorem Device.setLink_memDev : (d.setLink i x).memDev k = d.memDev k := rfl
@[simp] theorem Device.setLink_seg : (d.setLink i x).seg? k = d.seg? k := rfl
@[simp] theorem Device.setLink_ring : (d.setLink i x).ring? k = d.ring? k := rfl
end

section
variable (d : Device) (i k : Nat) (x : Slot)
@[simp] theorem Device.setSlot_fn : (d.setSlot i x).fn k = d.fn k := rfl
@[simp] theorem Device.setSlot_chan : (d.setSlot i x).chan k = d.chan k := rfl
@[simp] theorem Device.setSlot_link : (d.setSlot i x).link k = d.link k := rfl
@[simp] theorem Device.setSlot_engine : (d.setSlot i x).engine k = d.engine k := rfl
@[simp] theorem Device.setSlot_zone : (d.setSlot i x).zone k = d.zone k := rfl
@[simp] theorem Device.setSlot_rail : (d.setSlot i x).rail k = d.rail k := rfl
@[simp] theorem Device.setSlot_model : (d.setSlot i x).model k = d.model k := rfl
@[simp] theorem Device.setSlot_share : (d.setSlot i x).share k = d.share k := rfl
@[simp] theorem Device.setSlot_pin : (d.setSlot i x).pin k = d.pin k := rfl
@[simp] theorem Device.setSlot_strobe : (d.setSlot i x).strobe k = d.strobe k := rfl
@[simp] theorem Device.setSlot_axd : (d.setSlot i x).axd k = d.axd k := rfl
@[simp] theorem Device.setSlot_mon : (d.setSlot i x).mon k = d.mon k := rfl
@[simp] theorem Device.setSlot_port : (d.setSlot i x).port k = d.port k := rfl
@[simp] theorem Device.setSlot_memDev : (d.setSlot i x).memDev k = d.memDev k := rfl
@[simp] theorem Device.setSlot_seg : (d.setSlot i x).seg? k = d.seg? k := rfl
@[simp] theorem Device.setSlot_ring : (d.setSlot i x).ring? k = d.ring? k := rfl
end

section
variable (d : Device) (i k : Nat) (x : Engine)
@[simp] theorem Device.setEngine_fn : (d.setEngine i x).fn k = d.fn k := rfl
@[simp] theorem Device.setEngine_chan : (d.setEngine i x).chan k = d.chan k := rfl
@[simp] theorem Device.setEngine_link : (d.setEngine i x).link k = d.link k := rfl
@[simp] theorem Device.setEngine_slot : (d.setEngine i x).slot k = d.slot k := rfl
@[simp] theorem Device.setEngine_zone : (d.setEngine i x).zone k = d.zone k := rfl
@[simp] theorem Device.setEngine_rail : (d.setEngine i x).rail k = d.rail k := rfl
@[simp] theorem Device.setEngine_model : (d.setEngine i x).model k = d.model k := rfl
@[simp] theorem Device.setEngine_share : (d.setEngine i x).share k = d.share k := rfl
@[simp] theorem Device.setEngine_pin : (d.setEngine i x).pin k = d.pin k := rfl
@[simp] theorem Device.setEngine_strobe : (d.setEngine i x).strobe k = d.strobe k := rfl
@[simp] theorem Device.setEngine_axd : (d.setEngine i x).axd k = d.axd k := rfl
@[simp] theorem Device.setEngine_mon : (d.setEngine i x).mon k = d.mon k := rfl
@[simp] theorem Device.setEngine_port : (d.setEngine i x).port k = d.port k := rfl
@[simp] theorem Device.setEngine_memDev : (d.setEngine i x).memDev k = d.memDev k := rfl
@[simp] theorem Device.setEngine_seg : (d.setEngine i x).seg? k = d.seg? k := rfl
@[simp] theorem Device.setEngine_ring : (d.setEngine i x).ring? k = d.ring? k := rfl
end

section
variable (d : Device) (i k : Nat) (x : Zone)
@[simp] theorem Device.setZone_fn : (d.setZone i x).fn k = d.fn k := rfl
@[simp] theorem Device.setZone_chan : (d.setZone i x).chan k = d.chan k := rfl
@[simp] theorem Device.setZone_link : (d.setZone i x).link k = d.link k := rfl
@[simp] theorem Device.setZone_slot : (d.setZone i x).slot k = d.slot k := rfl
@[simp] theorem Device.setZone_engine : (d.setZone i x).engine k = d.engine k := rfl
@[simp] theorem Device.setZone_rail : (d.setZone i x).rail k = d.rail k := rfl
@[simp] theorem Device.setZone_model : (d.setZone i x).model k = d.model k := rfl
@[simp] theorem Device.setZone_share : (d.setZone i x).share k = d.share k := rfl
@[simp] theorem Device.setZone_pin : (d.setZone i x).pin k = d.pin k := rfl
@[simp] theorem Device.setZone_strobe : (d.setZone i x).strobe k = d.strobe k := rfl
@[simp] theorem Device.setZone_axd : (d.setZone i x).axd k = d.axd k := rfl
@[simp] theorem Device.setZone_mon : (d.setZone i x).mon k = d.mon k := rfl
@[simp] theorem Device.setZone_port : (d.setZone i x).port k = d.port k := rfl
@[simp] theorem Device.setZone_memDev : (d.setZone i x).memDev k = d.memDev k := rfl
@[simp] theorem Device.setZone_seg : (d.setZone i x).seg? k = d.seg? k := rfl
@[simp] theorem Device.setZone_ring : (d.setZone i x).ring? k = d.ring? k := rfl
end

section
variable (d : Device) (i k : Nat) (x : Rail)
@[simp] theorem Device.setRail_fn : (d.setRail i x).fn k = d.fn k := rfl
@[simp] theorem Device.setRail_chan : (d.setRail i x).chan k = d.chan k := rfl
@[simp] theorem Device.setRail_link : (d.setRail i x).link k = d.link k := rfl
@[simp] theorem Device.setRail_slot : (d.setRail i x).slot k = d.slot k := rfl
@[simp] theorem Device.setRail_engine : (d.setRail i x).engine k = d.engine k := rfl
@[simp] theorem Device.setRail_zone : (d.setRail i x).zone k = d.zone k := rfl
@[simp] theorem Device.setRail_model : (d.setRail i x).model k = d.model k := rfl
@[simp] theorem Device.setRail_share : (d.setRail i x).share k = d.share k := rfl
@[simp] theorem Device.setRail_pin : (d.setRail i x).pin k = d.pin k := rfl
@[simp] theorem Device.setRail_strobe : (d.setRail i x).strobe k = d.strobe k := rfl
@[simp] theorem Device.setRail_axd : (d.setRail i x).axd k = d.axd k := rfl
@[simp] theorem Device.setRail_mon : (d.setRail i x).mon k = d.mon k := rfl
@[simp] theorem Device.setRail_port : (d.setRail i x).port k = d.port k := rfl
@[simp] theorem Device.setRail_memDev : (d.setRail i x).memDev k = d.memDev k := rfl
@[simp] theorem Device.setRail_seg : (d.setRail i x).seg? k = d.seg? k := rfl
@[simp] theorem Device.setRail_ring : (d.setRail i x).ring? k = d.ring? k := rfl
end

section
variable (d : Device) (i k : Nat) (x : Model)
@[simp] theorem Device.setModel_fn : (d.setModel i x).fn k = d.fn k := rfl
@[simp] theorem Device.setModel_chan : (d.setModel i x).chan k = d.chan k := rfl
@[simp] theorem Device.setModel_link : (d.setModel i x).link k = d.link k := rfl
@[simp] theorem Device.setModel_slot : (d.setModel i x).slot k = d.slot k := rfl
@[simp] theorem Device.setModel_engine : (d.setModel i x).engine k = d.engine k := rfl
@[simp] theorem Device.setModel_zone : (d.setModel i x).zone k = d.zone k := rfl
@[simp] theorem Device.setModel_rail : (d.setModel i x).rail k = d.rail k := rfl
@[simp] theorem Device.setModel_share : (d.setModel i x).share k = d.share k := rfl
@[simp] theorem Device.setModel_pin : (d.setModel i x).pin k = d.pin k := rfl
@[simp] theorem Device.setModel_strobe : (d.setModel i x).strobe k = d.strobe k := rfl
@[simp] theorem Device.setModel_axd : (d.setModel i x).axd k = d.axd k := rfl
@[simp] theorem Device.setModel_mon : (d.setModel i x).mon k = d.mon k := rfl
@[simp] theorem Device.setModel_port : (d.setModel i x).port k = d.port k := rfl
@[simp] theorem Device.setModel_memDev : (d.setModel i x).memDev k = d.memDev k := rfl
@[simp] theorem Device.setModel_seg : (d.setModel i x).seg? k = d.seg? k := rfl
@[simp] theorem Device.setModel_ring : (d.setModel i x).ring? k = d.ring? k := rfl
end

section
variable (d : Device) (i k : Nat) (x : Share)
@[simp] theorem Device.setShare_fn : (d.setShare i x).fn k = d.fn k := rfl
@[simp] theorem Device.setShare_chan : (d.setShare i x).chan k = d.chan k := rfl
@[simp] theorem Device.setShare_link : (d.setShare i x).link k = d.link k := rfl
@[simp] theorem Device.setShare_slot : (d.setShare i x).slot k = d.slot k := rfl
@[simp] theorem Device.setShare_engine : (d.setShare i x).engine k = d.engine k := rfl
@[simp] theorem Device.setShare_zone : (d.setShare i x).zone k = d.zone k := rfl
@[simp] theorem Device.setShare_rail : (d.setShare i x).rail k = d.rail k := rfl
@[simp] theorem Device.setShare_model : (d.setShare i x).model k = d.model k := rfl
@[simp] theorem Device.setShare_pin : (d.setShare i x).pin k = d.pin k := rfl
@[simp] theorem Device.setShare_strobe : (d.setShare i x).strobe k = d.strobe k := rfl
@[simp] theorem Device.setShare_axd : (d.setShare i x).axd k = d.axd k := rfl
@[simp] theorem Device.setShare_mon : (d.setShare i x).mon k = d.mon k := rfl
@[simp] theorem Device.setShare_port : (d.setShare i x).port k = d.port k := rfl
@[simp] theorem Device.setShare_memDev : (d.setShare i x).memDev k = d.memDev k := rfl
@[simp] theorem Device.setShare_seg : (d.setShare i x).seg? k = d.seg? k := rfl
@[simp] theorem Device.setShare_ring : (d.setShare i x).ring? k = d.ring? k := rfl
end

section
variable (d : Device) (i k : Nat) (x : MkPin)
@[simp] theorem Device.setPin_fn : (d.setPin i x).fn k = d.fn k := rfl
@[simp] theorem Device.setPin_chan : (d.setPin i x).chan k = d.chan k := rfl
@[simp] theorem Device.setPin_link : (d.setPin i x).link k = d.link k := rfl
@[simp] theorem Device.setPin_slot : (d.setPin i x).slot k = d.slot k := rfl
@[simp] theorem Device.setPin_engine : (d.setPin i x).engine k = d.engine k := rfl
@[simp] theorem Device.setPin_zone : (d.setPin i x).zone k = d.zone k := rfl
@[simp] theorem Device.setPin_rail : (d.setPin i x).rail k = d.rail k := rfl
@[simp] theorem Device.setPin_model : (d.setPin i x).model k = d.model k := rfl
@[simp] theorem Device.setPin_share : (d.setPin i x).share k = d.share k := rfl
@[simp] theorem Device.setPin_strobe : (d.setPin i x).strobe k = d.strobe k := rfl
@[simp] theorem Device.setPin_axd : (d.setPin i x).axd k = d.axd k := rfl
@[simp] theorem Device.setPin_mon : (d.setPin i x).mon k = d.mon k := rfl
@[simp] theorem Device.setPin_port : (d.setPin i x).port k = d.port k := rfl
@[simp] theorem Device.setPin_memDev : (d.setPin i x).memDev k = d.memDev k := rfl
@[simp] theorem Device.setPin_seg : (d.setPin i x).seg? k = d.seg? k := rfl
@[simp] theorem Device.setPin_ring : (d.setPin i x).ring? k = d.ring? k := rfl
end

section
variable (d : Device) (i k : Nat) (x : Strobe)
@[simp] theorem Device.setStrobe_fn : (d.setStrobe i x).fn k = d.fn k := rfl
@[simp] theorem Device.setStrobe_chan : (d.setStrobe i x).chan k = d.chan k := rfl
@[simp] theorem Device.setStrobe_link : (d.setStrobe i x).link k = d.link k := rfl
@[simp] theorem Device.setStrobe_slot : (d.setStrobe i x).slot k = d.slot k := rfl
@[simp] theorem Device.setStrobe_engine : (d.setStrobe i x).engine k = d.engine k := rfl
@[simp] theorem Device.setStrobe_zone : (d.setStrobe i x).zone k = d.zone k := rfl
@[simp] theorem Device.setStrobe_rail : (d.setStrobe i x).rail k = d.rail k := rfl
@[simp] theorem Device.setStrobe_model : (d.setStrobe i x).model k = d.model k := rfl
@[simp] theorem Device.setStrobe_share : (d.setStrobe i x).share k = d.share k := rfl
@[simp] theorem Device.setStrobe_pin : (d.setStrobe i x).pin k = d.pin k := rfl
@[simp] theorem Device.setStrobe_axd : (d.setStrobe i x).axd k = d.axd k := rfl
@[simp] theorem Device.setStrobe_mon : (d.setStrobe i x).mon k = d.mon k := rfl
@[simp] theorem Device.setStrobe_port : (d.setStrobe i x).port k = d.port k := rfl
@[simp] theorem Device.setStrobe_memDev : (d.setStrobe i x).memDev k = d.memDev k := rfl
@[simp] theorem Device.setStrobe_seg : (d.setStrobe i x).seg? k = d.seg? k := rfl
@[simp] theorem Device.setStrobe_ring : (d.setStrobe i x).ring? k = d.ring? k := rfl
end

section
variable (d : Device) (i k : Nat) (x : Axd)
@[simp] theorem Device.setAxd_fn : (d.setAxd i x).fn k = d.fn k := rfl
@[simp] theorem Device.setAxd_chan : (d.setAxd i x).chan k = d.chan k := rfl
@[simp] theorem Device.setAxd_link : (d.setAxd i x).link k = d.link k := rfl
@[simp] theorem Device.setAxd_slot : (d.setAxd i x).slot k = d.slot k := rfl
@[simp] theorem Device.setAxd_engine : (d.setAxd i x).engine k = d.engine k := rfl
@[simp] theorem Device.setAxd_zone : (d.setAxd i x).zone k = d.zone k := rfl
@[simp] theorem Device.setAxd_rail : (d.setAxd i x).rail k = d.rail k := rfl
@[simp] theorem Device.setAxd_model : (d.setAxd i x).model k = d.model k := rfl
@[simp] theorem Device.setAxd_share : (d.setAxd i x).share k = d.share k := rfl
@[simp] theorem Device.setAxd_pin : (d.setAxd i x).pin k = d.pin k := rfl
@[simp] theorem Device.setAxd_strobe : (d.setAxd i x).strobe k = d.strobe k := rfl
@[simp] theorem Device.setAxd_mon : (d.setAxd i x).mon k = d.mon k := rfl
@[simp] theorem Device.setAxd_port : (d.setAxd i x).port k = d.port k := rfl
@[simp] theorem Device.setAxd_memDev : (d.setAxd i x).memDev k = d.memDev k := rfl
@[simp] theorem Device.setAxd_seg : (d.setAxd i x).seg? k = d.seg? k := rfl
@[simp] theorem Device.setAxd_ring : (d.setAxd i x).ring? k = d.ring? k := rfl
end

section
variable (d : Device) (i k : Nat) (x : Mon)
@[simp] theorem Device.setMon_fn : (d.setMon i x).fn k = d.fn k := rfl
@[simp] theorem Device.setMon_chan : (d.setMon i x).chan k = d.chan k := rfl
@[simp] theorem Device.setMon_link : (d.setMon i x).link k = d.link k := rfl
@[simp] theorem Device.setMon_slot : (d.setMon i x).slot k = d.slot k := rfl
@[simp] theorem Device.setMon_engine : (d.setMon i x).engine k = d.engine k := rfl
@[simp] theorem Device.setMon_zone : (d.setMon i x).zone k = d.zone k := rfl
@[simp] theorem Device.setMon_rail : (d.setMon i x).rail k = d.rail k := rfl
@[simp] theorem Device.setMon_model : (d.setMon i x).model k = d.model k := rfl
@[simp] theorem Device.setMon_share : (d.setMon i x).share k = d.share k := rfl
@[simp] theorem Device.setMon_pin : (d.setMon i x).pin k = d.pin k := rfl
@[simp] theorem Device.setMon_strobe : (d.setMon i x).strobe k = d.strobe k := rfl
@[simp] theorem Device.setMon_axd : (d.setMon i x).axd k = d.axd k := rfl
@[simp] theorem Device.setMon_port : (d.setMon i x).port k = d.port k := rfl
@[simp] theorem Device.setMon_memDev : (d.setMon i x).memDev k = d.memDev k := rfl
@[simp] theorem Device.setMon_seg : (d.setMon i x).seg? k = d.seg? k := rfl
@[simp] theorem Device.setMon_ring : (d.setMon i x).ring? k = d.ring? k := rfl
end

section
variable (d : Device) (i k : Nat) (x : ZPort)
@[simp] theorem Device.setPort_fn : (d.setPort i x).fn k = d.fn k := rfl
@[simp] theorem Device.setPort_chan : (d.setPort i x).chan k = d.chan k := rfl
@[simp] theorem Device.setPort_link : (d.setPort i x).link k = d.link k := rfl
@[simp] theorem Device.setPort_slot : (d.setPort i x).slot k = d.slot k := rfl
@[simp] theorem Device.setPort_engine : (d.setPort i x).engine k = d.engine k := rfl
@[simp] theorem Device.setPort_zone : (d.setPort i x).zone k = d.zone k := rfl
@[simp] theorem Device.setPort_rail : (d.setPort i x).rail k = d.rail k := rfl
@[simp] theorem Device.setPort_model : (d.setPort i x).model k = d.model k := rfl
@[simp] theorem Device.setPort_share : (d.setPort i x).share k = d.share k := rfl
@[simp] theorem Device.setPort_pin : (d.setPort i x).pin k = d.pin k := rfl
@[simp] theorem Device.setPort_strobe : (d.setPort i x).strobe k = d.strobe k := rfl
@[simp] theorem Device.setPort_axd : (d.setPort i x).axd k = d.axd k := rfl
@[simp] theorem Device.setPort_mon : (d.setPort i x).mon k = d.mon k := rfl
@[simp] theorem Device.setPort_memDev : (d.setPort i x).memDev k = d.memDev k := rfl
@[simp] theorem Device.setPort_seg : (d.setPort i x).seg? k = d.seg? k := rfl
@[simp] theorem Device.setPort_ring : (d.setPort i x).ring? k = d.ring? k := rfl
end

section
variable (d : Device) (i k : Nat) (x : MemDev)
@[simp] theorem Device.setMemDev_fn : (d.setMemDev i x).fn k = d.fn k := rfl
@[simp] theorem Device.setMemDev_chan : (d.setMemDev i x).chan k = d.chan k := rfl
@[simp] theorem Device.setMemDev_link : (d.setMemDev i x).link k = d.link k := rfl
@[simp] theorem Device.setMemDev_slot : (d.setMemDev i x).slot k = d.slot k := rfl
@[simp] theorem Device.setMemDev_engine : (d.setMemDev i x).engine k = d.engine k := rfl
@[simp] theorem Device.setMemDev_zone : (d.setMemDev i x).zone k = d.zone k := rfl
@[simp] theorem Device.setMemDev_rail : (d.setMemDev i x).rail k = d.rail k := rfl
@[simp] theorem Device.setMemDev_model : (d.setMemDev i x).model k = d.model k := rfl
@[simp] theorem Device.setMemDev_share : (d.setMemDev i x).share k = d.share k := rfl
@[simp] theorem Device.setMemDev_pin : (d.setMemDev i x).pin k = d.pin k := rfl
@[simp] theorem Device.setMemDev_strobe : (d.setMemDev i x).strobe k = d.strobe k := rfl
@[simp] theorem Device.setMemDev_axd : (d.setMemDev i x).axd k = d.axd k := rfl
@[simp] theorem Device.setMemDev_mon : (d.setMemDev i x).mon k = d.mon k := rfl
@[simp] theorem Device.setMemDev_port : (d.setMemDev i x).port k = d.port k := rfl
@[simp] theorem Device.setMemDev_seg : (d.setMemDev i x).seg? k = d.seg? k := rfl
@[simp] theorem Device.setMemDev_ring : (d.setMemDev i x).ring? k = d.ring? k := rfl
end

section
variable (d : Device) (i k : Nat) (x : Option Segment)
@[simp] theorem Device.setSeg_fn : (d.setSeg i x).fn k = d.fn k := rfl
@[simp] theorem Device.setSeg_chan : (d.setSeg i x).chan k = d.chan k := rfl
@[simp] theorem Device.setSeg_link : (d.setSeg i x).link k = d.link k := rfl
@[simp] theorem Device.setSeg_slot : (d.setSeg i x).slot k = d.slot k := rfl
@[simp] theorem Device.setSeg_engine : (d.setSeg i x).engine k = d.engine k := rfl
@[simp] theorem Device.setSeg_zone : (d.setSeg i x).zone k = d.zone k := rfl
@[simp] theorem Device.setSeg_rail : (d.setSeg i x).rail k = d.rail k := rfl
@[simp] theorem Device.setSeg_model : (d.setSeg i x).model k = d.model k := rfl
@[simp] theorem Device.setSeg_share : (d.setSeg i x).share k = d.share k := rfl
@[simp] theorem Device.setSeg_pin : (d.setSeg i x).pin k = d.pin k := rfl
@[simp] theorem Device.setSeg_strobe : (d.setSeg i x).strobe k = d.strobe k := rfl
@[simp] theorem Device.setSeg_axd : (d.setSeg i x).axd k = d.axd k := rfl
@[simp] theorem Device.setSeg_mon : (d.setSeg i x).mon k = d.mon k := rfl
@[simp] theorem Device.setSeg_port : (d.setSeg i x).port k = d.port k := rfl
@[simp] theorem Device.setSeg_memDev : (d.setSeg i x).memDev k = d.memDev k := rfl
@[simp] theorem Device.setSeg_ring : (d.setSeg i x).ring? k = d.ring? k := rfl
end

section
variable (d : Device) (i k : Nat) (x : Ring)
@[simp] theorem Device.setRing_fn : (d.setRing i x).fn k = d.fn k := rfl
@[simp] theorem Device.setRing_chan : (d.setRing i x).chan k = d.chan k := rfl
@[simp] theorem Device.setRing_link : (d.setRing i x).link k = d.link k := rfl
@[simp] theorem Device.setRing_slot : (d.setRing i x).slot k = d.slot k := rfl
@[simp] theorem Device.setRing_engine : (d.setRing i x).engine k = d.engine k := rfl
@[simp] theorem Device.setRing_zone : (d.setRing i x).zone k = d.zone k := rfl
@[simp] theorem Device.setRing_rail : (d.setRing i x).rail k = d.rail k := rfl
@[simp] theorem Device.setRing_model : (d.setRing i x).model k = d.model k := rfl
@[simp] theorem Device.setRing_share : (d.setRing i x).share k = d.share k := rfl
@[simp] theorem Device.setRing_pin : (d.setRing i x).pin k = d.pin k := rfl
@[simp] theorem Device.setRing_strobe : (d.setRing i x).strobe k = d.strobe k := rfl
@[simp] theorem Device.setRing_axd : (d.setRing i x).axd k = d.axd k := rfl
@[simp] theorem Device.setRing_mon : (d.setRing i x).mon k = d.mon k := rfl
@[simp] theorem Device.setRing_port : (d.setRing i x).port k = d.port k := rfl
@[simp] theorem Device.setRing_memDev : (d.setRing i x).memDev k = d.memDev k := rfl
@[simp] theorem Device.setRing_seg : (d.setRing i x).seg? k = d.seg? k := rfl
end

@[simp] theorem Device.setRing_get (d : Device) (q : Nat) (r : Ring) : (d.setRing q r).ring? q = some r := by simp [Device.ring?]
theorem Device.setRing_get_ne (d : Device) (q k : Nat) (r : Ring) (h : k ≠ q) : (d.setRing q r).ring? k = d.ring? k := by
  simp only [Device.ring?, Device.setRing]; exact tabFind_insert_ne _ _ _ _ h.symm
@[simp] theorem Device.dropRing_get (d : Device) (q : Nat) : (d.dropRing q).ring? q = none := by simp [Device.ring?, Device.dropRing]
theorem Device.dropRing_get_ne (d : Device) (q k : Nat) (h : k ≠ q) : (d.dropRing q).ring? k = d.ring? k := by
  simp only [Device.ring?, Device.dropRing]; exact tabFind_erase_ne _ _ _ h.symm

end Sys2Proof.Machine
end

