-- ==== Sys2Proof/Laws/Body.lean ====
section
/-! SUPPORT. Taking, answering and noticing leave the body of the device alone (`Device.body`), and what an accepted packet does. -/

namespace Sys2Proof.Machine

/-! ### Operations that leave the body alone -/

@[simp] theorem Device.setFn_body (d : Device) (f : Nat) (x : HostFn) : (d.setFn f x).body = d.body := rfl
@[simp] theorem Device.onFn_body (d : Device) (f : Nat) (g : HostFn → HostFn) : (d.onFn f g).body = d.body := rfl
@[simp] theorem Device.setRing_body (d : Device) (q : Nat) (r : Ring) : (d.setRing q r).body = d.body := rfl
@[simp] theorem Device.settle_body (d : Device) : d.settle.body = d.body := rfl
@[simp] theorem Device.usePtrInjection_body (d : Device) (q : Nat) : (d.usePtrInjection q).body = d.body := rfl

@[simp] theorem Device.onRing_body (d : Device) (q : Nat) (f : Ring → Ring) : (d.onRing q f).body = d.body := by
  unfold Device.onRing; split <;> rfl

@[simp] theorem Device.touch_body (d : Device) (q : Nat) : (d.touch q).body = d.body := by
  unfold Device.touch; split <;> rfl

@[simp] theorem Device.msi_body (d : Device) (f v : Nat) : (d.msi f v).body = d.body := by
  unfold Device.msi; split <;> rfl

@[simp] theorem Device.cause_body (d : Device) (f b : Nat) : (d.cause f b).body = d.body := by
  unfold Device.cause; dsimp only; split <;> simp

@[simp] theorem Device.ringPut_body (d : Device) (r : Ring) (p : Nat) (l : List Byte) (h : Bool) : (d.ringPut r p l h).body = d.body := rfl
@[simp] theorem Device.zeroSlot_body (d : Device) (r : Ring) : (d.zeroSlot r).body = d.body := rfl

@[simp] theorem Device.journal_body (d : Device) (k m b s e c w : Nat) (l : List Byte) : (d.journal k m b s e c w l).body = d.body := by
  unfold Device.journal; dsimp only; split <;> rfl

theorem Device.flt_body (d : Device) (x : Proofreader) (h : x.settings = d.flt.settings) : ({ d with flt := x } : Device).body = d.body := by
  simp only [Device.body, h]

theorem Device.raiseErrAs_body (d : Device) (e : ErrEvent) (t : Nat) (ov : Option Nat) (f : Nat) (h : ¬ e.bit.val ≤ 8) :
    (d.raiseErrAs e t ov f).body = d.body := by
  unfold Device.raiseErrAs
  simp only [h, if_false]
  have key : ∀ x : Proofreader, x.settings = d.flt.settings → ∀ k m b s e c w l,
      (({ d with flt := x } : Device).journal k m b s e c w l).body = d.body :=
    fun x hx k m b s e c w l => by rw [Device.journal_body, Device.flt_body d x hx]
  have pick : ∀ (b : Prop) [Decidable b] (x y : Proofreader), x.settings = d.flt.settings → y.settings = d.flt.settings →
      (if b then x else y).settings = d.flt.settings := fun b _ x y hx hy => by by_cases h : b <;> simp [h, hx, hy]
  refine (apply_ite Device.body _ _ _).trans
    ((congr (congrArg (ite _) (key _ ?_ _ _ _ _ _ _ _ _)) (Device.flt_body _ _ ?_)).trans (ite_self _)) <;> exact pick _ _ _ rfl rfl

@[simp] theorem Device.mismatchReset_body (d : Device) (q : Nat) (i r : Bool) : (d.mismatchReset q i r).body = d.body := by
  unfold Device.mismatchReset
  split
  · rfl
  · simp only [Device.raiseErr]
    rw [Device.raiseErrAs_body _ _ _ _ _ (by simp [errAt, plainErr] <;> decide)]
    rfl

@[simp] theorem Device.produceRaw_body (d : Device) (q : Nat) (l : List Byte) (n : Nat) (irq : Bool) : (d.produceRaw q l n irq).1.body = d.body := by
  unfold Device.produceRaw
  split
  · rfl
  · dsimp only
    split
    · dsimp only; split <;> simp
    · dsimp only; split <;> simp

@[simp] theorem Device.notice_body (d : Device) (f k i s : Nat) (l : List Byte) : (d.notice f k i s l).body = d.body := by
  unfold Device.notice
  dsimp only
  split
  · rfl
  · simp [apply_ite Device.body]

@[simp] theorem Device.queueNotice_body (d : Device) (q c : Nat) : (d.queueNotice q c).body = d.body := by
  unfold Device.queueNotice
  split
  · rfl
  · split <;> simp

@[simp] theorem Device.checkPtr_body (d : Device) (q : Nat) : (d.checkPtr q).body = d.body := by
  unfold Device.checkPtr
  split
  · rfl
  · dsimp only; split <;> simp

@[simp] theorem Device.produce_body (d : Device) (q : Nat) (l : List Byte) (n : Nat) (irq : Bool) : (d.produce q l n irq).1.body = d.body := by
  simp [Device.produce]

@[simp] theorem Device.outstanding_body (d : Device) (l : List (Env × Nat)) : ({ d with cmd := { d.cmd with outstanding := l } } : Device).body = d.body := rfl

theorem Device.onRing_fold_body (l : List (Env × Nat)) (q : Nat) (d : Device) :
    (l.foldl (fun d x => d.onRing q fun r => { r with reserved := r.reserved - x.2 }) d).body = d.body := by
  induction l generalizing d with
  | nil => rfl
  | cons x l ih => simp [ih]

@[simp] theorem Device.reply_body (d : Device) (e : Env) (s : Nat) (l : List Byte) (i : Bool) : (d.reply e s l i).body = d.body := by
  unfold Device.reply
  dsimp only
  split
  · simp [apply_ite Device.body]
  · rw [Device.onRing_fold_body, Device.outstanding_body]
    simp [apply_ite Device.body]

@[simp] theorem Device.final_body (d : Device) (e : Env) (s : Nat) (l : List Byte) : (d.final e s l).body = d.body := Device.reply_body d e s l false

@[simp] theorem Device.final?_body (d : Device) (e : Option Env) (s : Nat) (l : List Byte) : (d.final? e s l).body = d.body := by
  cases e <;> simp [Device.final?]

@[simp] theorem Device.answer_body (d : Device) (c : Cmd) (a : Ans) : (d.answer c a).body = d.body := by
  cases a <;> simp [Device.answer]

@[simp] theorem Device.watermark_body (d : Device) (q b : Nat) : (d.watermark q b).body = d.body := by
  unfold Device.watermark
  split
  · rfl
  · repeat' split
    all_goals simp

@[simp] theorem Device.freeBytes_body (d : Device) (q n : Nat) (e : Bool) : (d.freeBytes q n e).body = d.body := by
  unfold Device.freeBytes
  split
  · rfl
  · dsimp only; split
    · split <;> simp
    · simp

theorem Device.taken_body (d : Device) (op : Op) (f q : Nat) (r : Ring) (l : List Byte) : (d.taken op f q r l).1.body = d.body := by
  unfold Device.taken
  dsimp only
  show (Device.onRing _ _ _).body = _
  rw [Device.onRing_body]
  split <;> simp

@[simp] theorem Device.takenBy_body (d : Device) (op : Op) (p : Packet) (r : Ring) : (d.takenBy op p r).body = (d.at p.at_).body := by
  simp [Device.takenBy, Device.taken_body, Device.arrived]

/-! ### What an accepted packet does -/

@[simp] theorem Device.follow_calm {old : Device} (h : old.Calm) (d : Device) : old.follow d = d.settle := by
  have h2 : (old.reg.state == RegState.registered) = false := by simpa using h.2
  simp [Device.follow, h.1, h2]

theorem Device.follow_unheld {old : Device} (h : old.cmd.held = []) (d : Device) : old.follow d = (old.afterwards d).settle := by
  simp only [Device.follow, Device.afterwards, h, List.isEmpty_nil, if_true, beq_iff_eq]

@[simp] theorem Device.afterwards_off {old : Device} (h : old.reg.state ≠ .registered) (d : Device) : old.afterwards d = d := by
  simp [Device.afterwards, h]

@[simp] theorem Device.touch_ring? (d : Device) (q k : Nat) : (d.touch q).ring? k = d.ring? k := by
  unfold Device.touch; split <;> rfl

@[simp] theorem Device.touch_mode (d : Device) (q : Nat) : (d.touch q).mode = d.mode := by
  unfold Device.touch; split <;> rfl

@[simp] theorem Device.touch_time (d : Device) (q : Nat) : (d.touch q).time = d.time := by
  unfold Device.touch; split <;> rfl

@[simp] theorem Device.touch_cmd (d : Device) (q : Nat) : (d.touch q).cmd = d.cmd := by
  unfold Device.touch; split <;> rfl

@[simp] theorem Device.touch_proof (d : Device) (q : Nat) : (d.touch q).proof = d.proof := by
  unfold Device.touch; split <;> rfl

theorem Device.checkPtr_sound {d : Device} {q : Nat} (h : d.ringSound q = true) : d.checkPtr q = d := by
  unfold Device.checkPtr
  unfold Device.ringSound at h
  split
  · rfl
  · rename_i r e
    simp only [e] at h
    dsimp only
    rw [if_neg]
    simpa using h

theorem Device.submit_starts {d : Device} {op : Op} {p : Packet} {r : Ring} (h : d.Starts op p r) :
    d.submit op p = (d.takenBy op p r).proceed op (d.commandOf op p r) (d.arrived p).time.now p.body := by
  have hs : (d.at p.at_).ringSound p.qid.toNat = true := h.sound
  have hr : (d.at p.at_).running = true := h.running
  have hq : (d.at p.at_).ring? p.qid.toNat = some r := h.ring
  have hc : d.cmd.held = [] := h.unheld
  have hf := h.free
  unfold Device.arrived at hf
  unfold Device.submit
  simp only [hr, if_true, Device.checkPtr_sound hs, hq, h.mine.1, h.mine.2.1, h.mine.2.2, Bool.not_true, ne_eq,
    not_true_eq_false, decide_false, Bool.or_self, Bool.false_eq_true, if_false]
  simp [Device.start, hq, hc, hf, Device.takenBy, Device.commandOf, Device.arrived]

/-- An accepted packet: the opcode's own effect on the device that took it, the answer, the cells that follow, and the outputs. -/
theorem State.submit_accepted {s : State} {op : Op} {p : Packet} {r : Ring} (h : s.dev.Accepted op p r) :
    (s.onDevX fun d => d.submit op p) =
      { s with dev := (s.dev.afterwards ((op.run (s.dev.commandOf op p r) (s.dev.takenBy op p r)).2.answer (s.dev.commandOf op p r)
        (op.run (s.dev.commandOf op p r) (s.dev.takenBy op p r)).1)).settle } := by
  unfold State.onDevX
  simp only [Device.follow_unheld h.unheld, Device.submit_starts h.toStarts]
  unfold Device.proceed
  simp only [h.header, if_neg h.now, Device.carryOut, checked, h.allowed, h.plain, Bool.false_eq_true, if_false]

/-- The body that an accepted packet leaves. -/
theorem State.submit_accepted_body {s : State} {op : Op} {p : Packet} {r : Ring} (h : s.dev.Accepted op p r) (hr : s.dev.reg.state ≠ .registered) :
    (s.onDevX fun d => d.submit op p).dev.body = (op.run (s.dev.commandOf op p r) (s.dev.takenBy op p r)).2.body := by
  rw [State.submit_accepted h]; simp [hr]

end Sys2Proof.Machine
end

