-- ==== Sys2Proof/Laws/Checks.lean ====
section
/-! SUPPORT. The refusals of an opcode's checks are refusals: where an opcode's answer accepts, every check has passed. -/

namespace Sys2Proof.Machine

/-- No check of the list refuses with a status that accepts. -/
def saneChecks (l : List Check) : Bool := l.all fun x => !x.1 || (x.2.1 != stOK && x.2.1 != stJUMP_DEFERRED)

/-- One check that does not refuse with a status that accepts. -/
def saneCheck (x : Check) : Bool := !x.1 || (x.2.1 != stOK && x.2.1 != stJUMP_DEFERRED)

@[simp] theorem saneChecks_nil : saneChecks [] = true := rfl
@[simp] theorem saneChecks_cons (x : Check) (l : List Check) : saneChecks (x :: l) = (saneCheck x && saneChecks l) := by simp [saneChecks, saneCheck]
@[simp] theorem saneChecks_append (l m : List Check) : saneChecks (l ++ m) = (saneChecks l && saneChecks m) := by simp [saneChecks]
@[simp] theorem saneCheck_bad (b : Bool) (o : Nat) : saneCheck (bad b o) = true := by cases b <;> rfl
@[simp] theorem saneCheck_badAny (b : Bool) : saneCheck (badAny b) = true := by cases b <;> rfl
@[simp] theorem saneCheck_resv (os : List Nat) (par : List Byte) : saneCheck (resv par os) = true := by unfold resv; split <;> simp
@[simp] theorem saneCheck_badF32 (par : List Byte) (o : Nat) : saneCheck (badF32 par o) = true := by simp [badF32]
@[simp] theorem saneCheck_pass (s : Nat) (p : List Byte) : saneCheck (false, s, p) = true := rfl
@[simp] theorem saneCheck_no (b : Bool) (s : Nat) : saneCheck (no b s) = (!b || (s != stOK && s != stJUMP_DEFERRED)) := rfl
@[simp] theorem saneCheck_mk (b : Bool) (s : Nat) (p : List Byte) : saneCheck (b, s, p) = (!b || (s != stOK && s != stJUMP_DEFERRED)) := rfl
@[simp] theorem saneCheck_budget (d : Device) : saneCheck (budgetCheck d) = true := by unfold budgetCheck; split <;> rfl
@[simp] theorem saneCheck_loop (d : Device) (ch : Nat) (c : Chan) (f : Nat) : saneCheck (d.loopCheck ch c f) = true := by
  unfold Device.loopCheck; repeat' split
  all_goals rfl
@[simp] theorem saneCheck_f32 (c : Cmd) (o : Nat) (a b : Rat) : saneCheck (f32Check c o a b) = true := by simp [f32Check]

@[simp] theorem saneChecks_map {α : Type} (l : List α) (f : α → Bool) (g : α → Nat) : saneChecks (l.map fun p => bad (f p) (g p)) = true := by
  induction l with
  | nil => rfl
  | cons x l ih => simp [ih]

/-- Where the answer accepts, the checks have passed and the effect is taken. -/
theorem checked_good {d : Device} {l : List Check} {k : Res} (hl : saneChecks l = true) (h : (checked d l k).1.good = true) : checked d l k = k := by
  unfold checked at h ⊢
  cases hf : firstFail l with
  | none => rfl
  | some r =>
    exfalso
    simp only [hf, refuse, Ans.good] at h
    induction l with
    | nil => simp [firstFail] at hf
    | cons x l ih =>
      obtain ⟨b, s, p⟩ := x
      simp only [saneChecks_cons, Bool.and_eq_true] at hl
      cases b with
      | false => exact ih hl.2 (by simpa [firstFail] using hf)
      | true =>
        simp only [firstFail, if_true, Option.some.injEq] at hf
        subst hf
        simp [saneCheck] at hl
        simp_all

@[simp] theorem setModeStatic_sane (c : Cmd) : saneChecks (setModeStatic c) = true := by
  unfold setModeStatic; first | (simp; done) | ((repeat' split) <;> simp; done) | (repeat' split) <;> simp <;> split <;> simp
@[simp] theorem setFrameStatic_sane (c : Cmd) : saneChecks (setFrameStatic c) = true := by
  unfold setFrameStatic; first | (simp; done) | ((repeat' split) <;> simp; done) | (repeat' split) <;> simp <;> split <;> simp
@[simp] theorem resetBlockStatic_sane (c : Cmd) : saneChecks (resetBlockStatic c) = true := by
  unfold resetBlockStatic; first | (simp; done) | ((repeat' split) <;> simp; done) | (repeat' split) <;> simp <;> split <;> simp
@[simp] theorem chConfigStatic_sane (c : Cmd) : saneChecks (chConfigStatic c) = true := by
  unfold chConfigStatic; first | (simp; done) | ((repeat' split) <;> simp; done) | (repeat' split) <;> simp <;> split <;> simp
@[simp] theorem chFunctionStatic_sane (c : Cmd) : saneChecks (chFunctionStatic c) = true := by
  unfold chFunctionStatic; first | (simp; done) | ((repeat' split) <;> simp; done) | (repeat' split) <;> simp <;> split <;> simp
@[simp] theorem chSetpointStatic_sane (c : Cmd) : saneChecks (chSetpointStatic c) = true := by
  unfold chSetpointStatic; first | (simp; done) | ((repeat' split) <;> simp; done) | (repeat' split) <;> simp <;> split <;> simp
@[simp] theorem chLimitsStatic_sane (c : Cmd) : saneChecks (chLimitsStatic c) = true := by
  unfold chLimitsStatic; first | (simp; done) | ((repeat' split) <;> simp; done) | (repeat' split) <;> simp <;> split <;> simp
@[simp] theorem chRangeStatic_sane (c : Cmd) : saneChecks (chRangeStatic c) = true := by
  unfold chRangeStatic; first | (simp; done) | ((repeat' split) <;> simp; done) | (repeat' split) <;> simp <;> split <;> simp
@[simp] theorem chAutorangeStatic_sane (c : Cmd) : saneChecks (chAutorangeStatic c) = true := by
  unfold chAutorangeStatic; first | (simp; done) | ((repeat' split) <;> simp; done) | (repeat' split) <;> simp <;> split <;> simp
@[simp] theorem chParkStatic_sane (c : Cmd) : saneChecks (chParkStatic c) = true := by
  unfold chParkStatic; first | (simp; done) | ((repeat' split) <;> simp; done) | (repeat' split) <;> simp <;> split <;> simp
@[simp] theorem chMeasureStatic_sane (c : Cmd) : saneChecks (chMeasureStatic c) = true := by
  unfold chMeasureStatic; first | (simp; done) | ((repeat' split) <;> simp; done) | (repeat' split) <;> simp <;> split <;> simp
@[simp] theorem chApertureStatic_sane (c : Cmd) : saneChecks (chApertureStatic c) = true := by
  unfold chApertureStatic; first | (simp; done) | ((repeat' split) <;> simp; done) | (repeat' split) <;> simp <;> split <;> simp
@[simp] theorem chStrobeStatic_sane (c : Cmd) : saneChecks (chStrobeStatic c) = true := by
  unfold chStrobeStatic; first | (simp; done) | ((repeat' split) <;> simp; done) | (repeat' split) <;> simp <;> split <;> simp
@[simp] theorem chMigrateStatic_sane (c : Cmd) : saneChecks (chMigrateStatic c) = true := by
  unfold chMigrateStatic; first | (simp; done) | ((repeat' split) <;> simp; done) | (repeat' split) <;> simp <;> split <;> simp
@[simp] theorem fmLoadStatic_sane (c : Cmd) : saneChecks (fmLoadStatic c) = true := by
  unfold fmLoadStatic; first | (simp; done) | ((repeat' split) <;> simp; done) | (repeat' split) <;> simp <;> split <;> simp
@[simp] theorem fmSegmentStatic_sane (c : Cmd) : saneChecks (fmSegmentStatic c) = true := by
  unfold fmSegmentStatic; first | (simp; done) | ((repeat' split) <;> simp; done) | (repeat' split) <;> simp <;> split <;> simp
@[simp] theorem fmJumpStatic_sane (c : Cmd) : saneChecks (fmJumpStatic c) = true := by
  unfold fmJumpStatic; first | (simp; done) | ((repeat' split) <;> simp; done) | (repeat' split) <;> simp <;> split <;> simp
@[simp] theorem fmStreamBindStatic_sane (c : Cmd) : saneChecks (fmStreamBindStatic c) = true := by
  unfold fmStreamBindStatic; first | (simp; done) | ((repeat' split) <;> simp; done) | (repeat' split) <;> simp <;> split <;> simp
@[simp] theorem qCreateStatic_sane (c : Cmd) : saneChecks (qCreateStatic c) = true := by
  unfold qCreateStatic; first | (simp; done) | ((repeat' split) <;> simp; done) | (repeat' split) <;> simp <;> split <;> simp
@[simp] theorem qNotifyStatic_sane (c : Cmd) : saneChecks (qNotifyStatic c) = true := by
  unfold qNotifyStatic; first | (simp; done) | ((repeat' split) <;> simp; done) | (repeat' split) <;> simp <;> split <;> simp
@[simp] theorem imZoneStatic_sane (c : Cmd) : saneChecks (imZoneStatic c) = true := by
  unfold imZoneStatic; first | (simp; done) | ((repeat' split) <;> simp; done) | (repeat' split) <;> simp <;> split <;> simp
@[simp] theorem imRailStatic_sane (c : Cmd) : saneChecks (imRailStatic c) = true := by
  unfold imRailStatic; first | (simp; done) | ((repeat' split) <;> simp; done) | (repeat' split) <;> simp <;> split <;> simp
@[simp] theorem imSensorStatic_sane (c : Cmd) : saneChecks (imSensorStatic c) = true := by
  unfold imSensorStatic; first | (simp; done) | ((repeat' split) <;> simp; done) | (repeat' split) <;> simp <;> split <;> simp
@[simp] theorem imPolicyStatic_sane (c : Cmd) : saneChecks (imPolicyStatic c) = true := by
  unfold imPolicyStatic; first | (simp; done) | ((repeat' split) <;> simp; done) | (repeat' split) <;> simp <;> split <;> simp
@[simp] theorem calModeStatic_sane (c : Cmd) : saneChecks (calModeStatic c) = true := by
  unfold calModeStatic; first | (simp; done) | ((repeat' split) <;> simp; done) | (repeat' split) <;> simp <;> split <;> simp
@[simp] theorem calWriteStatic_sane (c : Cmd) : saneChecks (calWriteStatic c) = true := by
  unfold calWriteStatic; first | (simp; done) | ((repeat' split) <;> simp; done) | (repeat' split) <;> simp <;> split <;> simp
@[simp] theorem tsWriteStatic_sane (c : Cmd) : saneChecks (tsWriteStatic c) = true := by
  unfold tsWriteStatic; first | (simp; done) | ((repeat' split) <;> simp; done) | (repeat' split) <;> simp <;> split <;> simp
@[simp] theorem tsSelectStatic_sane (c : Cmd) : saneChecks (tsSelectStatic c) = true := by
  unfold tsSelectStatic; first | (simp; done) | ((repeat' split) <;> simp; done) | (repeat' split) <;> simp <;> split <;> simp
@[simp] theorem mkRouteStatic_sane (c : Cmd) : saneChecks (mkRouteStatic c) = true := by
  unfold mkRouteStatic; first | (simp; done) | ((repeat' split) <;> simp; done) | (repeat' split) <;> simp <;> split <;> simp
@[simp] theorem trigConfigStatic_sane (c : Cmd) : saneChecks (trigConfigStatic c) = true := by
  unfold trigConfigStatic; first | (simp; done) | ((repeat' split) <;> simp; done) | (repeat' split) <;> simp <;> split <;> simp
@[simp] theorem regJoinStatic_sane (c : Cmd) : saneChecks (regJoinStatic c) = true := by
  unfold regJoinStatic; first | (simp; done) | ((repeat' split) <;> simp; done) | (repeat' split) <;> simp <;> split <;> simp
@[simp] theorem regSkewStatic_sane (c : Cmd) : saneChecks (regSkewStatic c) = true := by
  unfold regSkewStatic; first | (simp; done) | ((repeat' split) <;> simp; done) | (repeat' split) <;> simp <;> split <;> simp
@[simp] theorem regArmStatic_sane (c : Cmd) : saneChecks (regArmStatic c) = true := by
  unfold regArmStatic; first | (simp; done) | ((repeat' split) <;> simp; done) | (repeat' split) <;> simp <;> split <;> simp
@[simp] theorem monConfigStatic_sane (c : Cmd) : saneChecks (monConfigStatic c) = true := by
  unfold monConfigStatic; first | (simp; done) | ((repeat' split) <;> simp; done) | (repeat' split) <;> simp <;> split <;> simp
@[simp] theorem axdWriteStatic_sane (c : Cmd) : saneChecks (axdWriteStatic c) = true := by
  unfold axdWriteStatic; first | (simp; done) | ((repeat' split) <;> simp; done) | (repeat' split) <;> simp <;> split <;> simp
@[simp] theorem axdStrobeStatic_sane (c : Cmd) : saneChecks (axdStrobeStatic c) = true := by
  unfold axdStrobeStatic; first | (simp; done) | ((repeat' split) <;> simp; done) | (repeat' split) <;> simp <;> split <;> simp
@[simp] theorem fltReactionStatic_sane (c : Cmd) : saneChecks (fltReactionStatic c) = true := by
  unfold fltReactionStatic; first | (simp; done) | ((repeat' split) <;> simp; done) | (repeat' split) <;> simp <;> split <;> simp
@[simp] theorem memDelaysStatic_sane (c : Cmd) : saneChecks (memDelaysStatic c) = true := by
  unfold memDelaysStatic; first | (simp; done) | ((repeat' split) <;> simp; done) | (repeat' split) <;> simp <;> split <;> simp
@[simp] theorem memScanStatic_sane (c : Cmd) : saneChecks (memScanStatic c) = true := by
  unfold memScanStatic; first | (simp; done) | ((repeat' split) <;> simp; done) | (repeat' split) <;> simp <;> split <;> simp
@[simp] theorem memFreqStatic_sane (c : Cmd) : saneChecks (memFreqStatic c) = true := by
  unfold memFreqStatic; first | (simp; done) | ((repeat' split) <;> simp; done) | (repeat' split) <;> simp <;> split <;> simp
@[simp] theorem memRetireStatic_sane (c : Cmd) : saneChecks (memRetireStatic c) = true := by
  unfold memRetireStatic; first | (simp; done) | ((repeat' split) <;> simp; done) | (repeat' split) <;> simp <;> split <;> simp
@[simp] theorem memReadStatic_sane (c : Cmd) : saneChecks (memReadStatic c) = true := by
  unfold memReadStatic; first | (simp; done) | ((repeat' split) <;> simp; done) | (repeat' split) <;> simp <;> split <;> simp
@[simp] theorem memWriteStatic_sane (c : Cmd) : saneChecks (memWriteStatic c) = true := by
  unfold memWriteStatic; first | (simp; done) | ((repeat' split) <;> simp; done) | (repeat' split) <;> simp <;> split <;> simp
@[simp] theorem lcAdvanceStatic_sane (c : Cmd) : saneChecks (lcAdvanceStatic c) = true := by
  unfold lcAdvanceStatic; first | (simp; done) | ((repeat' split) <;> simp; done) | (repeat' split) <;> simp <;> split <;> simp
@[simp] theorem updStageStatic_sane (c : Cmd) : saneChecks (updStageStatic c) = true := by
  unfold updStageStatic; first | (simp; done) | ((repeat' split) <;> simp; done) | (repeat' split) <;> simp <;> split <;> simp
@[simp] theorem updSwitchStatic_sane (c : Cmd) : saneChecks (updSwitchStatic c) = true := by
  unfold updSwitchStatic; first | (simp; done) | ((repeat' split) <;> simp; done) | (repeat' split) <;> simp <;> split <;> simp
@[simp] theorem prfEnterStatic_sane (c : Cmd) : saneChecks (prfEnterStatic c) = true := by
  unfold prfEnterStatic; first | (simp; done) | ((repeat' split) <;> simp; done) | (repeat' split) <;> simp <;> split <;> simp
@[simp] theorem prfInjectStatic_sane (c : Cmd) : saneChecks (prfInjectStatic c) = true := by
  unfold prfInjectStatic; first | (simp; done) | ((repeat' split) <;> simp; done) | (repeat' split) <;> simp <;> split <;> simp
@[simp] theorem prfPerturbStatic_sane (c : Cmd) : saneChecks (prfPerturbStatic c) = true := by
  unfold prfPerturbStatic; first | (simp; done) | ((repeat' split) <;> simp; done) | (repeat' split) <;> simp <;> split <;> simp
@[simp] theorem elDescriptorStatic_sane (c : Cmd) : saneChecks (elDescriptorStatic c) = true := by
  unfold elDescriptorStatic; first | (simp; done) | ((repeat' split) <;> simp; done) | (repeat' split) <;> simp <;> split <;> simp
@[simp] theorem elSkewStatic_sane (c : Cmd) : saneChecks (elSkewStatic c) = true := by
  unfold elSkewStatic; first | (simp; done) | ((repeat' split) <;> simp; done) | (repeat' split) <;> simp <;> split <;> simp

@[simp] theorem qCheck_sane (d : Device) (c : Cmd) (o : Nat) (b : Bool) : saneChecks (d.qCheck c o b) = true := by
  simp [Device.qCheck, stBAD_TARGET, stOK, stJUMP_DEFERRED]
@[simp] theorem bindCheck_sane (d : Device) (c : Cmd) (o k : Nat) : saneChecks (d.bindCheck c o k) = true := by
  unfold Device.bindCheck; dsimp only; split <;> simp
@[simp] theorem segChecks_sane (d : Device) (c : Cmd) (i o : Nat) : saneChecks (d.segChecks c i o) = true := by
  simp [Device.segChecks, stBAD_TARGET, stOK, stJUMP_DEFERRED]
@[simp] theorem spanChecks_sane (d : Device) (a n : Nat) : saneChecks (spanChecks d a n) = true := by
  simp [spanChecks, stNOT_READY, stOK, stJUMP_DEFERRED]
@[simp] theorem chunkChecks_sane (c : Cmd) (r t : Nat) : saneChecks (chunkChecks c r t) = true := by simp [chunkChecks]
@[simp] theorem armChecks_sane (d : Device) (ch : Nat) : saneChecks (d.armChecks ch) = true := by
  simp [Device.armChecks, stWRONG_MODE, stNOT_READY, stFAULT_ACTIVE, stBUSY, stBUDGET_REFUSED, stOK, stJUMP_DEFERRED]
@[simp] theorem setpointChecks_sane (d : Device) (ch s : Nat) (v : Rat) : saneChecks (d.setpointChecks ch s v) = true := by
  unfold Device.setpointChecks
  dsimp only
  split
  · rfl
  · split
    · split <;> simp [stBUSY, stOK, stJUMP_DEFERRED]
    · simp

end Sys2Proof.Machine
end

