-- ==== Sys2Proof/Laws/Completion.lean ====
section
/-! SUPPORT. From what an opcode's function answers to what its row's `exec` answers. -/

namespace Sys2Proof.Machine

theorem Device.commandOf_atNow (d : Device) (op : Op) (p : Packet) (r : Ring) : (d.commandOf op p r).atNow = false := rfl

/-- A row completes if its opcode's function, whenever it accepts a command of the form, answers so and has this effect. -/
theorem completes_of_run {row : Packet → Instr} {op : Op} {form : Cmd → Device → Prop} {effect : Cmd → Device → Device}
    {answer : Cmd → Device → Ans} (hx : ∀ p s, exec (row p) s = .next (s.onDevX fun d => d.submit op p))
    (h : ∀ c d, c.atNow = false → form c d → (op.run c d).1.good = true → op.run c d = (answer c d, effect c d)) :
    Completes row op form effect answer := by
  intro s p r ha hf
  have hr := h _ _ (Device.commandOf_atNow s.dev op p r) hf ha.good
  refine ⟨s.onDevX fun d => d.submit op p, hx p s, rfl, ?_, ?_⟩
  · rw [State.submit_accepted ha, hr]
  · intro hs; rw [State.submit_accepted_body ha hs, hr]

theorem Device.boundary_ahead {c : Cmd} (h : c.atNow = false) (d : Device) : d.boundary c = d.nextBoundary c := by
  simp [Device.boundary, Device.nextBoundary, h]

theorem Device.atBoundary_ahead {c : Cmd} (h : c.atNow = false) (d : Device) (op : Op) (f : Cmd → Device → Device) :
    d.atBoundary op c f = d.waits op c (d.nextBoundary c) := by
  simp [Device.atBoundary, Device.waits, Device.boundary_ahead h, h]

theorem Device.commandMode_ahead {c : Cmd} (h : c.atNow = false) (d : Device) (r : ModeReq) (t : Nat) : d.commandMode c r t = d.askMode t c.acc r := by
  simp [Device.commandMode, h]

end Sys2Proof.Machine
end

