-- ==== Sys2Proof/Laws/Exec.lean ====
section
/-! SUPPORT. What `exec` can do: every command answers a next state whose outputs are settled and whose queue is the one it had; and from the
operation that a row's `exec` applies to what the statements ask of it. -/

namespace Sys2Proof.Machine

/-- Every command answers a next state: another device with its outputs settled, the same queue. -/
theorem exec_settles (c : Instr) (s : State) : ∃ d : Device, exec c s = .next { s with dev := d.settle } := by
  cases c <;> exact ⟨_, rfl⟩

@[simp] theorem State.onDev_pending (s : State) (f : Device → Device) : (s.onDev f).pending = s.pending := rfl
@[simp] theorem State.onDevX_pending (s : State) (f : Device → Device) : (s.onDevX f).pending = s.pending := rfl
@[simp] theorem State.onHost_pending (s : State) (f : Device → Device) : (s.onHost f).pending = s.pending := rfl
@[simp] theorem State.onDev_dev (s : State) (f : Device → Device) : (s.onDev f).dev = (f s.dev).settle := rfl

/-- A row whose command applies an operation and settles the outputs. -/
theorem yields_of_exec {i : Instr} {s : State} {f : Device → Device} {p : Device → Prop} (hx : exec i s = .next (s.onDev f)) (hp : p (f s.dev)) :
    Yields i s p := ⟨f s.dev, hx, hp⟩

/-- A row whose command may let held commands start and cells follow, where no command is held. -/
theorem yieldsCells_of_exec {i : Instr} {s : State} {f : Device → Device} {p : Device → Prop} (hx : exec i s = .next (s.onDevX f))
    (h : s.dev.cmd.held = []) (hp : p (f s.dev)) : YieldsCells i s p := by
  refine ⟨f s.dev, ?_, hp⟩
  rw [hx]
  simp [State.onDevX, Device.follow, Device.afterwards, h]

/-- The same of a row of the host's port, while the endpoint serves. -/
theorem yieldsCells_of_host {i : Instr} {s : State} {f : Device → Device} {p : Device → Prop} (hx : exec i s = .next (s.onHost f))
    (h : s.dev.cmd.held = []) (hu : s.dev.pcieUp = true) (hr : s.dev.running = true) (hp : p (f s.dev)) : YieldsCells i s p := by
  refine yieldsCells_of_exec (f := fun d => if d.pcieUp && d.running then f d else d) hx h ?_
  simpa [hu, hr] using hp

/-- The same while the endpoint does not serve: nothing reaches the device. -/
theorem yieldsCells_of_host_down {i : Instr} {s : State} {f : Device → Device} {p : Device → Prop} (hx : exec i s = .next (s.onHost f))
    (h : s.dev.cmd.held = []) (hu : s.dev.pcieUp = false) (hp : p s.dev) : YieldsCells i s p := by
  refine yieldsCells_of_exec (f := fun d => if d.pcieUp && d.running then f d else d) hx h ?_
  simpa [hu] using hp

/-- A cell addressed to the device is carried out with time come to its instant. -/
theorem Device.receive_addressed {d : Device} {p : Port} {c : Cell} {ty : Nat} (h : d.Addressed p c ty) (t : Nat) (k : Device → Device) :
    d.receive p.val c t ty k = k (d.at t) := by
  obtain ⟨⟨a1, a2, a3, a4⟩, a5, a6, a7⟩ := h
  have hp : ∀ k, (d.at t).port k = d.port k := fun _ => rfl
  have hi : (d.at t).reg.id = some c.dest := a7
  simp [Device.receive, a1, a2, a3, a4, hp, a5, a6, a7, hi]

end Sys2Proof.Machine
end

