-- ==== Sys2Proof/Laws/Faults.lean ====
section
/-! SUPPORT. What writing a journal record and raising an error event change, and that they change nothing else. -/

namespace Sys2Proof.Machine

section
variable (d : Device) (k m b s e c w : Nat) (l : List Byte)
@[simp] theorem Device.journal_otp : (d.journal k m b s e c w l).otp = d.otp := by unfold Device.journal; dsimp only; split <;> rfl
@[simp] theorem Device.journal_flash : (d.journal k m b s e c w l).flash = d.flash := by unfold Device.journal; dsimp only; split <;> rfl
@[simp] theorem Device.journal_time : (d.journal k m b s e c w l).time = d.time := by unfold Device.journal; dsimp only; split <;> rfl
@[simp] theorem Device.journal_mode : (d.journal k m b s e c w l).mode = d.mode := by unfold Device.journal; dsimp only; split <;> rfl
@[simp] theorem Device.journal_ready : (d.journal k m b s e c w l).ready = d.ready := by unfold Device.journal; dsimp only; split <;> rfl
@[simp] theorem Device.journal_press : (d.journal k m b s e c w l).press = d.press := by unfold Device.journal; dsimp only; split <;> rfl
@[simp] theorem Device.journal_update : (d.journal k m b s e c w l).update = d.update := by unfold Device.journal; dsimp only; split <;> rfl
@[simp] theorem Device.journal_fns : (d.journal k m b s e c w l).fns = d.fns := by unfold Device.journal; dsimp only; split <;> rfl
@[simp] theorem Device.journal_numVFs : (d.journal k m b s e c w l).numVFs = d.numVFs := by unfold Device.journal; dsimp only; split <;> rfl
@[simp] theorem Device.journal_fast : (d.journal k m b s e c w l).fast = d.fast := by unfold Device.journal; dsimp only; split <;> rfl
@[simp] theorem Device.journal_fastLast : (d.journal k m b s e c w l).fastLast = d.fastLast := by unfold Device.journal; dsimp only; split <;> rfl
@[simp] theorem Device.journal_cmd : (d.journal k m b s e c w l).cmd = d.cmd := by unfold Device.journal; dsimp only; split <;> rfl
@[simp] theorem Device.journal_queue : (d.journal k m b s e c w l).queue = d.queue := by unfold Device.journal; dsimp only; split <;> rfl
@[simp] theorem Device.journal_store : (d.journal k m b s e c w l).store = d.store := by unfold Device.journal; dsimp only; split <;> rfl
@[simp] theorem Device.journal_mem : (d.journal k m b s e c w l).mem = d.mem := by unfold Device.journal; dsimp only; split <;> rfl
@[simp] theorem Device.journal_chans : (d.journal k m b s e c w l).chans = d.chans := by unfold Device.journal; dsimp only; split <;> rfl
@[simp] theorem Device.journal_links : (d.journal k m b s e c w l).links = d.links := by unfold Device.journal; dsimp only; split <;> rfl
@[simp] theorem Device.journal_slots : (d.journal k m b s e c w l).slots = d.slots := by unfold Device.journal; dsimp only; split <;> rfl
@[simp] theorem Device.journal_engines : (d.journal k m b s e c w l).engines = d.engines := by unfold Device.journal; dsimp only; split <;> rfl
@[simp] theorem Device.journal_migrations : (d.journal k m b s e c w l).migrations = d.migrations := by unfold Device.journal; dsimp only; split <;> rfl
@[simp] theorem Device.journal_seq : (d.journal k m b s e c w l).seq = d.seq := by unfold Device.journal; dsimp only; split <;> rfl
@[simp] theorem Device.journal_edge : (d.journal k m b s e c w l).edge = d.edge := by unfold Device.journal; dsimp only; split <;> rfl
@[simp] theorem Device.journal_arms : (d.journal k m b s e c w l).arms = d.arms := by unfold Device.journal; dsimp only; split <;> rfl
@[simp] theorem Device.journal_imp : (d.journal k m b s e c w l).imp = d.imp := by unfold Device.journal; dsimp only; split <;> rfl
@[simp] theorem Device.journal_reg : (d.journal k m b s e c w l).reg = d.reg := by unfold Device.journal; dsimp only; split <;> rfl
@[simp] theorem Device.journal_proof : (d.journal k m b s e c w l).proof = d.proof := by unfold Device.journal; dsimp only; split <;> rfl
@[simp] theorem Device.journal_resets : (d.journal k m b s e c w l).resets = d.resets := by unfold Device.journal; dsimp only; split <;> rfl
@[simp] theorem Device.journal_ret : (d.journal k m b s e c w l).ret = d.ret := by unfold Device.journal; dsimp only; split <;> rfl
@[simp] theorem Device.journal_events : (d.journal k m b s e c w l).events = d.events := by unfold Device.journal; dsimp only; split <;> rfl
@[simp] theorem Device.journal_sched : (d.journal k m b s e c w l).sched = d.sched := by unfold Device.journal; dsimp only; split <;> rfl
@[simp] theorem Device.journal_pins : (d.journal k m b s e c w l).pins = d.pins := by unfold Device.journal; dsimp only; split <;> rfl
@[simp] theorem Device.journal_freeCtr : (d.journal k m b s e c w l).freeCtr = d.freeCtr := by unfold Device.journal; dsimp only; split <;> rfl
@[simp] theorem Device.journal_flt_pf : (d.journal k m b s e c w l).flt.pf = d.flt.pf := by unfold Device.journal; dsimp only; split <;> rfl
@[simp] theorem Device.journal_flt_words : (d.journal k m b s e c w l).flt.words = d.flt.words := by unfold Device.journal; dsimp only; split <;> rfl
@[simp] theorem Device.journal_flt_nextId : (d.journal k m b s e c w l).flt.nextId = d.flt.nextId := by unfold Device.journal; dsimp only; split <;> rfl
@[simp] theorem Device.journal_flt_events : (d.journal k m b s e c w l).flt.events = d.flt.events := by unfold Device.journal; dsimp only; split <;> rfl
@[simp] theorem Device.journal_flt_shadowFlags : (d.journal k m b s e c w l).flt.shadowFlags = d.flt.shadowFlags := by unfold Device.journal; dsimp only; split <;> rfl
@[simp] theorem Device.journal_flt_reactions : (d.journal k m b s e c w l).flt.reactions = d.flt.reactions := by unfold Device.journal; dsimp only; split <;> rfl
@[simp] theorem Device.journal_flt_holding : (d.journal k m b s e c w l).flt.holding = d.flt.holding := by unfold Device.journal; dsimp only; split <;> rfl
@[simp] theorem Device.journal_flt_latched : (d.journal k m b s e c w l).flt.latched = d.flt.latched := by unfold Device.journal; dsimp only; split <;> rfl
@[simp] theorem Device.journal_flt_shadows : (d.journal k m b s e c w l).flt.shadows = d.flt.shadows := by unfold Device.journal; dsimp only; split <;> rfl
@[simp] theorem Device.journal_flt_conseq : (d.journal k m b s e c w l).flt.conseq = d.flt.conseq := by unfold Device.journal; dsimp only; split <;> rfl
@[simp] theorem Device.journal_flt_rate : (d.journal k m b s e c w l).flt.rate = d.flt.rate := by unfold Device.journal; dsimp only; split <;> rfl
@[simp] theorem Device.journal_flt_rateFrom : (d.journal k m b s e c w l).flt.rateFrom = d.flt.rateFrom := by unfold Device.journal; dsimp only; split <;> rfl
@[simp] theorem Device.journal_flt_earliest : (d.journal k m b s e c w l).flt.earliest = d.flt.earliest := by unfold Device.journal; dsimp only; split <;> rfl
@[simp] theorem Device.journal_flt_mismatch : (d.journal k m b s e c w l).flt.mismatch = d.flt.mismatch := by unfold Device.journal; dsimp only; split <;> rfl
@[simp] theorem Device.journal_aon_vddAon : (d.journal k m b s e c w l).aon.vddAon = d.aon.vddAon := by unfold Device.journal; dsimp only; split <;> rfl
@[simp] theorem Device.journal_aon_porstHigh : (d.journal k m b s e c w l).aon.porstHigh = d.aon.porstHigh := by unfold Device.journal; dsimp only; split <;> rfl
@[simp] theorem Device.journal_aon_warmHigh : (d.journal k m b s e c w l).aon.warmHigh = d.aon.warmHigh := by unfold Device.journal; dsimp only; split <;> rfl
@[simp] theorem Device.journal_aon_pg : (d.journal k m b s e c w l).aon.pg = d.aon.pg := by unfold Device.journal; dsimp only; split <;> rfl
@[simp] theorem Device.journal_aon_coldSeen : (d.journal k m b s e c w l).aon.coldSeen = d.aon.coldSeen := by unfold Device.journal; dsimp only; split <;> rfl
@[simp] theorem Device.journal_aon_bootSel : (d.journal k m b s e c w l).aon.bootSel = d.aon.bootSel := by unfold Device.journal; dsimp only; split <;> rfl
@[simp] theorem Device.journal_aon_refclk : (d.journal k m b s e c w l).aon.refclk = d.aon.refclk := by unfold Device.journal; dsimp only; split <;> rfl
@[simp] theorem Device.journal_aon_perstHigh : (d.journal k m b s e c w l).aon.perstHigh = d.aon.perstHigh := by unfold Device.journal; dsimp only; split <;> rfl
@[simp] theorem Device.journal_aon_faultLineExt : (d.journal k m b s e c w l).aon.faultLineExt = d.aon.faultLineExt := by unfold Device.journal; dsimp only; split <;> rfl
@[simp] theorem Device.journal_aon_smbAddr : (d.journal k m b s e c w l).aon.smbAddr = d.aon.smbAddr := by unfold Device.journal; dsimp only; split <;> rfl
@[simp] theorem Device.journal_aon_force : (d.journal k m b s e c w l).aon.force = d.aon.force := by unfold Device.journal; dsimp only; split <;> rfl
@[simp] theorem Device.journal_aon_snapshot : (d.journal k m b s e c w l).aon.snapshot = d.aon.snapshot := by unfold Device.journal; dsimp only; split <;> rfl
@[simp] theorem Device.journal_aon_fwVersion : (d.journal k m b s e c w l).aon.fwVersion = d.aon.fwVersion := by unfold Device.journal; dsimp only; split <;> rfl
@[simp] theorem Device.journal_aon_boots : (d.journal k m b s e c w l).aon.boots = d.aon.boots := by unfold Device.journal; dsimp only; split <;> rfl
end

/-- Raising an error changes the Proofreader, an engine's error mark and the journal, and nothing else. -/
theorem Device.raiseErrAs_frame {α : Type} (f : Device → α) (hf : ∀ (d : Device) (x : Proofreader), f { d with flt := x } = f d)
    (he : ∀ (d : Device) (i : Nat) (x : Engine), f (d.setEngine i x) = f d)
    (hj : ∀ (d : Device) (k m b s e c w : Nat) (l : List Byte), f (d.journal k m b s e c w l) = f d)
    (d : Device) (e : ErrEvent) (t : Nat) (ov : Option Nat) (c : Nat) : f (d.raiseErrAs e t ov c) = f d := by
  unfold Device.raiseErrAs
  simp only [apply_ite f, hj, he, hf, ite_self]

section
variable (d : Device) (e : ErrEvent) (t : Nat) (ov : Option Nat) (c : Nat)
@[simp] theorem Device.raiseErrAs_otp : (d.raiseErrAs e t ov c).otp = d.otp := by
  exact Device.raiseErrAs_frame (·.otp) (fun _ _ => rfl) (fun _ _ _ => rfl) (by simp) d e t ov c
@[simp] theorem Device.raiseErrAs_flash : (d.raiseErrAs e t ov c).flash = d.flash := by
  exact Device.raiseErrAs_frame (·.flash) (fun _ _ => rfl) (fun _ _ _ => rfl) (by simp) d e t ov c
@[simp] theorem Device.raiseErrAs_time : (d.raiseErrAs e t ov c).time = d.time := by
  exact Device.raiseErrAs_frame (·.time) (fun _ _ => rfl) (fun _ _ _ => rfl) (by simp) d e t ov c
@[simp] theorem Device.raiseErrAs_mode : (d.raiseErrAs e t ov c).mode = d.mode := by
  exact Device.raiseErrAs_frame (·.mode) (fun _ _ => rfl) (fun _ _ _ => rfl) (by simp) d e t ov c
@[simp] theorem Device.raiseErrAs_ready : (d.raiseErrAs e t ov c).ready = d.ready := by
  exact Device.raiseErrAs_frame (·.ready) (fun _ _ => rfl) (fun _ _ _ => rfl) (by simp) d e t ov c
@[simp] theorem Device.raiseErrAs_press : (d.raiseErrAs e t ov c).press = d.press := by
  exact Device.raiseErrAs_frame (·.press) (fun _ _ => rfl) (fun _ _ _ => rfl) (by simp) d e t ov c
@[simp] theorem Device.raiseErrAs_update : (d.raiseErrAs e t ov c).update = d.update := by
  exact Device.raiseErrAs_frame (·.update) (fun _ _ => rfl) (fun _ _ _ => rfl) (by simp) d e t ov c
@[simp] theorem Device.raiseErrAs_fns : (d.raiseErrAs e t ov c).fns = d.fns := by
  exact Device.raiseErrAs_frame (·.fns) (fun _ _ => rfl) (fun _ _ _ => rfl) (by simp) d e t ov c
@[simp] theorem Device.raiseErrAs_numVFs : (d.raiseErrAs e t ov c).numVFs = d.numVFs := by
  exact Device.raiseErrAs_frame (·.numVFs) (fun _ _ => rfl) (fun _ _ _ => rfl) (by simp) d e t ov c
@[simp] theorem Device.raiseErrAs_fast : (d.raiseErrAs e t ov c).fast = d.fast := by
  exact Device.raiseErrAs_frame (·.fast) (fun _ _ => rfl) (fun _ _ _ => rfl) (by simp) d e t ov c
@[simp] theorem Device.raiseErrAs_fastLast : (d.raiseErrAs e t ov c).fastLast = d.fastLast := by
  exact Device.raiseErrAs_frame (·.fastLast) (fun _ _ => rfl) (fun _ _ _ => rfl) (by simp) d e t ov c
@[simp] theorem Device.raiseErrAs_cmd : (d.raiseErrAs e t ov c).cmd = d.cmd := by
  exact Device.raiseErrAs_frame (·.cmd) (fun _ _ => rfl) (fun _ _ _ => rfl) (by simp) d e t ov c
@[simp] theorem Device.raiseErrAs_queue : (d.raiseErrAs e t ov c).queue = d.queue := by
  exact Device.raiseErrAs_frame (·.queue) (fun _ _ => rfl) (fun _ _ _ => rfl) (by simp) d e t ov c
@[simp] theorem Device.raiseErrAs_store : (d.raiseErrAs e t ov c).store = d.store := by
  exact Device.raiseErrAs_frame (·.store) (fun _ _ => rfl) (fun _ _ _ => rfl) (by simp) d e t ov c
@[simp] theorem Device.raiseErrAs_mem : (d.raiseErrAs e t ov c).mem = d.mem := by
  exact Device.raiseErrAs_frame (·.mem) (fun _ _ => rfl) (fun _ _ _ => rfl) (by simp) d e t ov c
@[simp] theorem Device.raiseErrAs_chans : (d.raiseErrAs e t ov c).chans = d.chans := by
  exact Device.raiseErrAs_frame (·.chans) (fun _ _ => rfl) (fun _ _ _ => rfl) (by simp) d e t ov c
@[simp] theorem Device.raiseErrAs_links : (d.raiseErrAs e t ov c).links = d.links := by
  exact Device.raiseErrAs_frame (·.links) (fun _ _ => rfl) (fun _ _ _ => rfl) (by simp) d e t ov c
@[simp] theorem Device.raiseErrAs_slots : (d.raiseErrAs e t ov c).slots = d.slots := by
  exact Device.raiseErrAs_frame (·.slots) (fun _ _ => rfl) (fun _ _ _ => rfl) (by simp) d e t ov c
@[simp] theorem Device.raiseErrAs_migrations : (d.raiseErrAs e t ov c).migrations = d.migrations := by
  exact Device.raiseErrAs_frame (·.migrations) (fun _ _ => rfl) (fun _ _ _ => rfl) (by simp) d e t ov c
@[simp] theorem Device.raiseErrAs_seq : (d.raiseErrAs e t ov c).seq = d.seq := by
  exact Device.raiseErrAs_frame (·.seq) (fun _ _ => rfl) (fun _ _ _ => rfl) (by simp) d e t ov c
@[simp] theorem Device.raiseErrAs_edge : (d.raiseErrAs e t ov c).edge = d.edge := by
  exact Device.raiseErrAs_frame (·.edge) (fun _ _ => rfl) (fun _ _ _ => rfl) (by simp) d e t ov c
@[simp] theorem Device.raiseErrAs_arms : (d.raiseErrAs e t ov c).arms = d.arms := by
  exact Device.raiseErrAs_frame (·.arms) (fun _ _ => rfl) (fun _ _ _ => rfl) (by simp) d e t ov c
@[simp] theorem Device.raiseErrAs_imp : (d.raiseErrAs e t ov c).imp = d.imp := by
  exact Device.raiseErrAs_frame (·.imp) (fun _ _ => rfl) (fun _ _ _ => rfl) (by simp) d e t ov c
@[simp] theorem Device.raiseErrAs_reg : (d.raiseErrAs e t ov c).reg = d.reg := by
  exact Device.raiseErrAs_frame (·.reg) (fun _ _ => rfl) (fun _ _ _ => rfl) (by simp) d e t ov c
@[simp] theorem Device.raiseErrAs_proof : (d.raiseErrAs e t ov c).proof = d.proof := by
  exact Device.raiseErrAs_frame (·.proof) (fun _ _ => rfl) (fun _ _ _ => rfl) (by simp) d e t ov c
@[simp] theorem Device.raiseErrAs_resets : (d.raiseErrAs e t ov c).resets = d.resets := by
  exact Device.raiseErrAs_frame (·.resets) (fun _ _ => rfl) (fun _ _ _ => rfl) (by simp) d e t ov c
@[simp] theorem Device.raiseErrAs_ret : (d.raiseErrAs e t ov c).ret = d.ret := by
  exact Device.raiseErrAs_frame (·.ret) (fun _ _ => rfl) (fun _ _ _ => rfl) (by simp) d e t ov c
@[simp] theorem Device.raiseErrAs_events : (d.raiseErrAs e t ov c).events = d.events := by
  exact Device.raiseErrAs_frame (·.events) (fun _ _ => rfl) (fun _ _ _ => rfl) (by simp) d e t ov c
@[simp] theorem Device.raiseErrAs_sched : (d.raiseErrAs e t ov c).sched = d.sched := by
  exact Device.raiseErrAs_frame (·.sched) (fun _ _ => rfl) (fun _ _ _ => rfl) (by simp) d e t ov c
@[simp] theorem Device.raiseErrAs_pins : (d.raiseErrAs e t ov c).pins = d.pins := by
  exact Device.raiseErrAs_frame (·.pins) (fun _ _ => rfl) (fun _ _ _ => rfl) (by simp) d e t ov c
@[simp] theorem Device.raiseErrAs_freeCtr : (d.raiseErrAs e t ov c).freeCtr = d.freeCtr := by
  exact Device.raiseErrAs_frame (·.freeCtr) (fun _ _ => rfl) (fun _ _ _ => rfl) (by simp) d e t ov c
@[simp] theorem Device.raiseErrAs_aon_vddAon : (d.raiseErrAs e t ov c).aon.vddAon = d.aon.vddAon := by
  exact Device.raiseErrAs_frame (·.aon.vddAon) (fun _ _ => rfl) (fun _ _ _ => rfl) (by simp) d e t ov c
@[simp] theorem Device.raiseErrAs_aon_porstHigh : (d.raiseErrAs e t ov c).aon.porstHigh = d.aon.porstHigh := by
  exact Device.raiseErrAs_frame (·.aon.porstHigh) (fun _ _ => rfl) (fun _ _ _ => rfl) (by simp) d e t ov c
@[simp] theorem Device.raiseErrAs_aon_warmHigh : (d.raiseErrAs e t ov c).aon.warmHigh = d.aon.warmHigh := by
  exact Device.raiseErrAs_frame (·.aon.warmHigh) (fun _ _ => rfl) (fun _ _ _ => rfl) (by simp) d e t ov c
@[simp] theorem Device.raiseErrAs_aon_pg : (d.raiseErrAs e t ov c).aon.pg = d.aon.pg := by
  exact Device.raiseErrAs_frame (·.aon.pg) (fun _ _ => rfl) (fun _ _ _ => rfl) (by simp) d e t ov c
@[simp] theorem Device.raiseErrAs_aon_coldSeen : (d.raiseErrAs e t ov c).aon.coldSeen = d.aon.coldSeen := by
  exact Device.raiseErrAs_frame (·.aon.coldSeen) (fun _ _ => rfl) (fun _ _ _ => rfl) (by simp) d e t ov c
@[simp] theorem Device.raiseErrAs_aon_bootSel : (d.raiseErrAs e t ov c).aon.bootSel = d.aon.bootSel := by
  exact Device.raiseErrAs_frame (·.aon.bootSel) (fun _ _ => rfl) (fun _ _ _ => rfl) (by simp) d e t ov c
@[simp] theorem Device.raiseErrAs_aon_refclk : (d.raiseErrAs e t ov c).aon.refclk = d.aon.refclk := by
  exact Device.raiseErrAs_frame (·.aon.refclk) (fun _ _ => rfl) (fun _ _ _ => rfl) (by simp) d e t ov c
@[simp] theorem Device.raiseErrAs_aon_perstHigh : (d.raiseErrAs e t ov c).aon.perstHigh = d.aon.perstHigh := by
  exact Device.raiseErrAs_frame (·.aon.perstHigh) (fun _ _ => rfl) (fun _ _ _ => rfl) (by simp) d e t ov c
@[simp] theorem Device.raiseErrAs_aon_faultLineExt : (d.raiseErrAs e t ov c).aon.faultLineExt = d.aon.faultLineExt := by
  exact Device.raiseErrAs_frame (·.aon.faultLineExt) (fun _ _ => rfl) (fun _ _ _ => rfl) (by simp) d e t ov c
@[simp] theorem Device.raiseErrAs_aon_smbAddr : (d.raiseErrAs e t ov c).aon.smbAddr = d.aon.smbAddr := by
  exact Device.raiseErrAs_frame (·.aon.smbAddr) (fun _ _ => rfl) (fun _ _ _ => rfl) (by simp) d e t ov c
@[simp] theorem Device.raiseErrAs_aon_force : (d.raiseErrAs e t ov c).aon.force = d.aon.force := by
  exact Device.raiseErrAs_frame (·.aon.force) (fun _ _ => rfl) (fun _ _ _ => rfl) (by simp) d e t ov c
@[simp] theorem Device.raiseErrAs_aon_snapshot : (d.raiseErrAs e t ov c).aon.snapshot = d.aon.snapshot := by
  exact Device.raiseErrAs_frame (·.aon.snapshot) (fun _ _ => rfl) (fun _ _ _ => rfl) (by simp) d e t ov c
@[simp] theorem Device.raiseErrAs_aon_fwVersion : (d.raiseErrAs e t ov c).aon.fwVersion = d.aon.fwVersion := by
  exact Device.raiseErrAs_frame (·.aon.fwVersion) (fun _ _ => rfl) (fun _ _ _ => rfl) (by simp) d e t ov c
@[simp] theorem Device.raiseErrAs_aon_boots : (d.raiseErrAs e t ov c).aon.boots = d.aon.boots := by
  exact Device.raiseErrAs_frame (·.aon.boots) (fun _ _ => rfl) (fun _ _ _ => rfl) (by simp) d e t ov c
end

theorem bit_setBit (w b : Nat) : bit (setBit w b) b = true := by
  unfold setBit
  split
  · assumption
  · rename_i h
    simp only [bit, beq_iff_eq] at h ⊢
    rw [Nat.add_div_right _ (Nat.two_pow_pos b)]
    omega

theorem setBit_ne_zero (w b : Nat) : setBit w b ≠ 0 := by
  intro h
  have := bit_setBit w b
  simp [h, bit] at this

/-- An error event that no shadow can cover is recorded in full (R472, R474, R476, R481). -/
theorem Device.raiseErrAs_records (d : Device) (e : ErrEvent) (t : Nat) (ov : Option Nat) (c : Nat) (h : e.fedBy = none)
    (hr : e.real = true) (hi : e.inj = false) : d.Records (d.raiseErrAs e t ov c) e.bit.val e.unit.val e.check.toNat t := by
  have hs : d.shadowOf e = none := by simp [Device.shadowOf, h]
  have hj (g : Proofreader → Prop) (hg : ∀ p r, g { p with records := r } ↔ g p) (d : Device) (k m b s e c w : Nat) (l : List Byte) :
      g (d.journal k m b s e c w l).flt = g d.flt := by
    unfold Device.journal; dsimp only; split
    · exact propext (hg _ _)
    · rfl
  have key (g : Proofreader → Prop) (hg : ∀ p r, g { p with records := r } ↔ g p)
      (h0 : g { d.flt with
        nextId := if d.flt.nextId = 2 ^ 32 - 1 then 1 else d.flt.nextId + 1
        words := tabSet {} d.flt.words (errIndex e.bit.val e.unit.val)
          { check := e.check.toNat, err := true, real := true, unit := e.unit.val,
            count := min 65535 ((tabGet {} d.flt.words (errIndex e.bit.val e.unit.val)).count + 1) }
        rate := tabSet 0 (if secondOf t ≠ d.flt.rateFrom then [] else d.flt.rate) e.bit.val
          (min 16 (tabGet 0 (if secondOf t ≠ d.flt.rateFrom then [] else d.flt.rate) e.bit.val + 1))
        rateFrom := secondOf t
        pf := setBit d.flt.pf e.bit.val
        events := d.flt.events ++ [{ id := d.flt.nextId, bit := e.bit.val, stamp := t, injected := false }]
        earliest := earliestOf (d.flt.events ++ [{ id := d.flt.nextId, bit := e.bit.val, stamp := t, injected := false }])
        latched := d.flt.latched ++ [{ ev := e, id := d.flt.nextId, stamp := t
                                       reaction := if d.mode.phase = .returned then 0 else ov.getD (d.flt.reaction e.bit.val)
                                       pf := setBit d.flt.pf e.bit.val }] }) :
      g (d.raiseErrAs e t ov c).flt := by
    have he : ∀ (d : Device) (i : Nat) (x : Engine), g (d.setEngine i x).flt = g d.flt := fun _ _ _ => rfl
    unfold Device.raiseErrAs
    simp only [hs, hr, hi, Option.isSome_none, Bool.false_eq_true, if_false, Bool.false_and, apply_ite Device.flt, apply_ite g, hj g hg, he, ite_self]
    exact h0
  constructor
  · exact key (fun p => p.pf = _) (fun _ _ => Iff.rfl) rfl
  · exact key (fun p => p.events = _) (fun _ _ => Iff.rfl) rfl
  · exact key (fun p => tabGet {} p.words _ = _) (fun _ _ => Iff.rfl) (tabGet_set_self ..)
  · exact key (fun p => ∃ l, p.latched = d.flt.latched ++ [l] ∧ l.ev.bit.val = e.bit.val ∧ l.id = d.flt.nextId ∧ l.stamp = t)
      (fun _ _ => Iff.rfl) ⟨_, rfl, rfl, rfl, rfl⟩

end Sys2Proof.Machine
end

