-- ==== Sys2Proof/WellFormed.lean ====
section
/-! DEFINITION. Well-formed commands: the operands a row of the table can carry. The machine gives every command an effect; a packet
that is not well formed for its row is answered as its own bytes say. -/

namespace Sys2Proof

open Sys2Proof.Machine (Op)

/-- What a command is as syntax: an event with its operands in range or not, a command packet of an opcode with the opcode flags and the
first parameter byte that tell its row from others of the opcode, or a packet with ASSIGN. -/
inductive Form where
  | event (inRange : Bool)
  | packet (op : Op) (opflags first : Option Nat) (p : Packet)
  | assign (p : Packet)
  deriving DecidableEq, Repr

/-- The form of each command: operand limits of R162, R167, R322, R353, R358, R368, R377, R446, R458, and the opcodes of R386..R422. -/
def Instr.form : Instr → Form
  | .powerLoss _ => .event true
  | .porstNAssert _ => .event true
  | .warmRstNAssert _ => .event true
  | .pgFall _ _ => .event true
  | .heldRelease _ => .event true
  | .blockReady _ _ => .event true
  | .regionWipeComplete _ => .event true
  | .delayScanComplete _ found => .event (match found with | some l => l.length == 128 | none => true)
  | .refclkLoss _ => .event true
  | .refclkReturn _ => .event true
  | .pciePerstNFall _ => .event true
  | .pciePerstNRise _ => .event true
  | .flr _ => .event true
  | .vfRemoval _ => .event true
  | .dieShutdown _ _ => .event true
  | .jtagDebugAttempt _ => .event true
  | .frameTick => .event true
  | .upstreamBlock _ _ _ dz _ _ => .event (decide (dz.length ≤ 16))
  | .computePhase _ => .event true
  | .apertureEnd _ => .event true
  | .collectionPhase _ => .event true
  | .budgetPhase => .event true
  | .engineDeadlineMiss _ _ => .event true
  | .upstreamDeadlineMiss _ => .event true
  | .collectorDrainMiss _ => .event true
  | .budgetPhaseMiss => .event true
  | .notBeforeBoundary => .event true
  | .armingComplete _ => .event true
  | .softParkRampComplete _ => .event true
  | .ovMakeEnd _ => .event true
  | .ovFadeEnd _ => .event true
  | .hsHoldEnd _ => .event true
  | .seqWalk _ => .event true
  | .continuationWalk _ => .event true
  | .waitTimeout _ => .event true
  | .deferralTimeout _ => .event true
  | .galleyLineArrival _ _ => .event true
  | .calFitComplete _ => .event true
  | .calPersistTimer _ => .event true
  | .sensorRevalidated _ _ => .event true
  | .syncBlocksFound _ => .event true
  | .linkLoss _ => .event true
  | .pageData _ _ data => .event (data.length == 256)
  | .ack _ _ => .event true
  | .nvmData _ _ _ data => .event (decide (1 ≤ data.length ∧ data.length ≤ 64))
  | .mgmtReplyTimeout _ => .event true
  | .triggerEdge _ _ _ => .event true
  | .triggerResample _ _ => .event true
  | .triggerStuck _ => .event true
  | .monitorTrip _ _ => .event true
  | .monitorRelease _ _ => .event true
  | .blankingWindowEnd _ _ _ => .event true
  | .monitorPeriodClear _ => .event true
  | .zoneEvaluation _ => .event true
  | .railEvaluation _ => .event true
  | .dieEvaluation sensors => .event (decide (48 ≤ sensors.length ∧ sensors.length ≤ 52))
  | .neighbor _ c _ => .event (decide (c.words.length ≤ 6))
  | .neighborSend _ => .event true
  | .neighborTimeout _ => .event true
  | .ping _ c _ => .event (decide (c.words.length ≤ 6))
  | .pingSend _ _ => .event true
  | .echo _ c _ => .event (decide (c.words.length ≤ 6))
  | .resend _ c => .event (decide (c.words.length ≤ 6))
  | .epoch _ c _ => .event (decide (c.words.length ≤ 6))
  | .epochBroadcast => .event true
  | .epochTimeout => .event true
  | .regPulseEdge _ _ => .event true
  | .markDrive => .event true
  | .markWaitTimeout => .event true
  | .timeSlew => .event true
  | .eventCell _ c _ => .event (decide (c.words.length ≤ 6))
  | .armCell _ c _ => .event (decide (c.words.length ≤ 6))
  | .ledger _ c _ => .event (decide (c.words.length ≤ 6))
  | .ledgerWindowEnd => .event true
  | .stateCell _ c _ => .event (decide (c.words.length ≤ 6))
  | .shareSilenceTimeout index => .event (decide (index < 288))
  | .req _ c _ => .event (decide (c.words.length ≤ 6))
  | .grantCell _ c _ => .event (decide (c.words.length ≤ 6))
  | .cancelCell _ c _ => .event (decide (c.words.length ≤ 6))
  | .msg _ c _ => .event (decide (c.words.length ≤ 6))
  | .msgAnswerTimeout _ => .event true
  | .doorbell _ index _ _ _ _ => .event (decide (index < 8192))
  | .fastSlotWrite _ _ bytes _ => .event (bytes.length == 64)
  | .adminEnable _ _ => .event true
  | .adminDisable _ _ => .event true
  | .adminRingsReady _ => .event true
  | .intStatusClear _ _ => .event true
  | .fpLateClear _ _ => .event true
  | .faultnCtrlWrite _ _ => .event true
  | .registerWrite _ offset _ => .event (offset % 4 == 0)
  | .smbIdent => .event true
  | .smbMode => .event true
  | .smbPfWord => .event true
  | .smbDie => .event true
  | .smbDiodes => .event true
  | .smbSensors => .event true
  | .smbSerial => .event true
  | .smbReadFaultn => .event true
  | .smbWriteFaultn _ _ => .event true
  | .smbAlertResponse => .event true
  | .nop p => .packet .nop none none p
  | .identify p => .packet .identify none none p
  | .getMode p => .packet .getMode none none p
  | .setModeRun p => .packet .setMode none (some 4) p
  | .setModeStandby p => .packet .setMode none (some 3) p
  | .setModeSafe p => .packet .setMode none (some 7) p
  | .getReady p => .packet .getReady none none p
  | .setFrame p => .packet .setFrame none none p
  | .getTime p => .packet .getTime none none p
  | .resetBlock p => .packet .resetBlock none none p
  | .assign p => .assign p
  | .chConfig p => .packet .chConfig none none p
  | .chFunction p => .packet .chFunction none none p
  | .chSetpoint p => .packet .chSetpoint none none p
  | .chLimits p => .packet .chLimits none none p
  | .chRange p => .packet .chRange none none p
  | .chAutorange p => .packet .chAutorange none none p
  | .chArm p => .packet .chArm none none p
  | .chPark p => .packet .chPark (some 0) none p
  | .chParkSoft p => .packet .chPark (some 1) none p
  | .chMeasure p => .packet .chMeasure none none p
  | .chMeasureComplete _ => .event true
  | .chAperture p => .packet .chAperture none none p
  | .chStatus p => .packet .chStatus none none p
  | .chStrobe p => .packet .chStrobe none none p
  | .chMigrate p => .packet .chMigrate none none p
  | .migrateSelftestDone _ _ => .event true
  | .fmLoad p => .packet .fmLoad none none p
  | .fmSegmentDefine p => .packet .fmSegment (some 0) none p
  | .fmSegmentWrite p => .packet .fmSegment (some 1) none p
  | .fmSegmentDelete p => .packet .fmSegment (some 2) none p
  | .fmLockup p => .packet .fmLockup none none p
  | .fmStart p => .packet .fmStart none none p
  | .fmStop p => .packet .fmStop none none p
  | .fmJump p => .packet .fmJump none none p
  | .fmStreamBind p => .packet .fmStreamBind none none p
  | .fmStatus p => .packet .fmStatus (some 0) none p
  | .fmStatusSegment p => .packet .fmStatus (some 1) none p
  | .fmRelease p => .packet .fmRelease none none p
  | .qCreate p => .packet .qCreate none none p
  | .qDestroy p => .packet .qDestroy none none p
  | .qReset p => .packet .qReset none none p
  | .qStatus p => .packet .qStatus (some 0) none p
  | .qStatusClear p => .packet .qStatus (some 1) none p
  | .qNotify p => .packet .qNotify none none p
  | .qBind p => .packet .qBind none none p
  | .imZone p => .packet .imZone none none p
  | .imRail p => .packet .imRail none none p
  | .imModel p => .packet .imModel none none p
  | .imSensor p => .packet .imSensor none none p
  | .imStatus p => .packet .imStatus none none p
  | .imPolicy p => .packet .imPolicy none none p
  | .calMode p => .packet .calMode none none p
  | .calStatus p => .packet .calStatus none none p
  | .calCommit p => .packet .calCommit (some 0) none p
  | .calCommitForce p => .packet .calCommit (some 1) none p
  | .calCommitDiscard p => .packet .calCommit (some 2) none p
  | .calRead p => .packet .calRead none none p
  | .calWrite p => .packet .calWrite none none p
  | .calPersist p => .packet .calPersist none none p
  | .tsWrite p => .packet .tsWrite none none p
  | .tsSelect p => .packet .tsSelect none none p
  | .mkRoute p => .packet .mkRoute none none p
  | .trigConfig p => .packet .trigConfig (some 0) none p
  | .trigConfigClear p => .packet .trigConfig (some 1) none p
  | .trigConfigQuery p => .packet .trigConfig (some 2) none p
  | .regJoinMember p => .packet .regJoin none (some 0) p
  | .regJoinTimekeeper p => .packet .regJoin none (some 1) p
  | .regJoinLeave p => .packet .regJoin none (some 2) p
  | .regStatus p => .packet .regStatus none none p
  | .regSkew p => .packet .regSkew none none p
  | .regArmAt p => .packet .regArmAt none none p
  | .monConfig p => .packet .monConfig none none p
  | .monStatus p => .packet .monStatus (some 0) none p
  | .monStatusClear p => .packet .monStatus (some 1) none p
  | .axdWrite p => .packet .axdWrite none none p
  | .axdStrobe p => .packet .axdStrobe none none p
  | .fltStatus p => .packet .fltStatus none none p
  | .fltClear p => .packet .fltClear none none p
  | .fltReaction p => .packet .fltReaction none none p
  | .fltLog p => .packet .fltLog none none p
  | .memStatus p => .packet .memStatus none none p
  | .memDelays p => .packet .memDelays (some 0) none p
  | .memDelaysWrite p => .packet .memDelays (some 1) none p
  | .memScan p => .packet .memScan none none p
  | .memFreq p => .packet .memFreq none none p
  | .memFreqComplete => .event true
  | .memRetireDevice p => .packet .memRetire none (some 0) p
  | .memRestore p => .packet .memRetire none (some 1) p
  | .rebuildComplete _ => .event true
  | .memRetireRow p => .packet .memRetire none (some 2) p
  | .rowCopyComplete _ => .event true
  | .memRead p => .packet .memRead none none p
  | .memWrite p => .packet .memWrite none none p
  | .refreshDeadline _ bank => .event (decide (bank < 64))
  | .writeCombineTimeout => .event true
  | .pageIdleTimeout _ bank => .event (decide (bank < 64))
  | .scrub row => .event (decide (row < 32768))
  | .lcStatus p => .packet .lcStatus none none p
  | .lcAdvance p => .packet .lcAdvance none none p
  | .wipeComplete => .event true
  | .updStage p => .packet .updStage none none p
  | .updStageComplete _ => .event true
  | .updSwitch p => .packet .updSwitch none none p
  | .updateEnd _ => .event true
  | .retRecord p => .packet .retRecord none none p
  | .retRecordComplete => .event true
  | .prfEnter p => .packet .prfEnter none none p
  | .prfInject p => .packet .prfInject none none p
  | .prfPerturb p => .packet .prfPerturb none none p
  | .prfExit p => .packet .prfExit none none p
  | .elStatus p => .packet .elStatus (some 0) none p
  | .elStatusClear p => .packet .elStatus (some 1) none p
  | .elDescriptor p => .packet .elDescriptor none none p
  | .elPair p => .packet .elPair (some 0) none p
  | .elPairSplit p => .packet .elPair (some 1) none p
  | .elPairSwap p => .packet .elPair (some 2) none p
  | .elSkew p => .packet .elSkew none none p
  | .elResetDisable p => .packet .elReset (some 1) none p
  | .elResetEnable p => .packet .elReset (some 2) none p
  | .errorLineRise _ _ => .event true
  | .faultReaction => .event true
  | .shadowEnd _ _ => .event true
  | .pressLockstepMismatch _ _ => .event true
  | .pressReloadComplete _ => .event true
  | .proofreaderMismatch _ => .event true
  | .spareSelftest _ _ => .event true
  | .journalProgram => .event true
  | .hourlyHistory => .event true
  | .sectorEraseStart => .event true
  | .powerOn _ => .event true
  | .invalidHeaders _ _ => .event true
  | .unsettledClears _ _ => .event true
  | .sectorEraseComplete => .event true

/-- A packet's FLAGS[7:4] (R360). -/
def Packet.opflags (l : List Byte) : Nat := Machine.Packet.flags l / 16

/-- ASSIGN of a packet's FLAGS (R360). -/
def Packet.assignFlag (l : List Byte) : Bool := Machine.Packet.flags l / 8 % 2 == 1

/-- The form's operands are those that its row can carry. -/
def Form.ok : Form → Bool
  | .event inRange => inRange
  | .packet op fl first p =>
    Machine.Packet.opcode p.body == op.code && !Packet.assignFlag p.body &&
    (match fl with | some x => Packet.opflags p.body == x | none => true) &&
    (match first with | some x => (p.body.getD 32 0).toNat == x | none => true)
  | .assign p => Packet.assignFlag p.body

/-- A well-formed command. -/
def Instr.wellFormed (i : Instr) : Bool := i.form.ok

end Sys2Proof
end

