-- ==== Sys2Proof/Laws/PerInstr.lean ====
section
/-! SUPPORT. A well-formed command, constructor by constructor: a packet of a row carries the row's opcode without ASSIGN, a packet of ASSIGN
carries the flag, and the operands of every other row lie in their ranges (R322, R350, R360, R386..R422). -/

namespace Sys2Proof.Laws.Opcode

/-- What being well formed says of a command as syntax. -/
def Statement (i : Instr) : Prop :=
  i.wellFormed = true → match i.form with
    | .event inRange => inRange = true
    | .packet op _ _ p => Machine.Packet.opcode p.body = op.code ∧ Machine.Packet.flags p.body / 8 % 2 ≠ 1
    | .assign p => Machine.Packet.flags p.body / 8 % 2 = 1

theorem statement_of_form (i : Instr) : Statement i := by
  intro h
  unfold Instr.wellFormed at h
  cases hf : i.form with
  | event b => simpa [hf, Form.ok] using h
  | packet op fl first p => simp [hf, Form.ok, Packet.assignFlag] at h; exact ⟨h.1.1.1, by simp [h.1.1.2]⟩
  | assign p => simpa [hf, Form.ok, Packet.assignFlag] using h

theorem powerLoss (t : Nat) : Statement (.powerLoss t) := statement_of_form _
theorem porstNAssert (t : Nat) : Statement (.porstNAssert t) := statement_of_form _
theorem warmRstNAssert (t : Nat) : Statement (.warmRstNAssert t) := statement_of_form _
theorem pgFall (pg : Fin 4) (t : Nat) : Statement (.pgFall pg t) := statement_of_form _
theorem heldRelease (bootSel : BitVec 2) : Statement (.heldRelease bootSel) := statement_of_form _
theorem blockReady (u : ReadyUnit) (ok : Bool) : Statement (.blockReady u ok) := statement_of_form _
theorem regionWipeComplete (r : Fin 64) : Statement (.regionWipeComplete r) := statement_of_form _
theorem delayScanComplete (dev : Fin 5) (found : Option (List Byte)) : Statement (.delayScanComplete dev found) := statement_of_form _
theorem refclkLoss (t : Nat) : Statement (.refclkLoss t) := statement_of_form _
theorem refclkReturn (t : Nat) : Statement (.refclkReturn t) := statement_of_form _
theorem pciePerstNFall (t : Nat) : Statement (.pciePerstNFall t) := statement_of_form _
theorem pciePerstNRise (t : Nat) : Statement (.pciePerstNRise t) := statement_of_form _
theorem flr (fn : Fin 64) : Statement (.flr fn) := statement_of_form _
theorem vfRemoval (numVFs : Fin 64) : Statement (.vfRemoval numVFs) := statement_of_form _
theorem dieShutdown (sensor : Fin 48) (t : Nat) : Statement (.dieShutdown sensor t) := statement_of_form _
theorem jtagDebugAttempt (t : Nat) : Statement (.jtagDebugAttempt t) := statement_of_form _
theorem frameTick : Statement .frameTick := statement_of_form _
theorem upstreamBlock (link : Fin 512) (u0 u1 : Word64) (dz : List Word64) (crcOk : Bool) (t : Nat) : Statement (.upstreamBlock link u0 u1 dz crcOk t) := statement_of_form _
theorem computePhase (slot : Fin 64) : Statement (.computePhase slot) := statement_of_form _
theorem apertureEnd (ch : Fin 512) : Statement (.apertureEnd ch) := statement_of_form _
theorem collectionPhase (slot : Fin 64) : Statement (.collectionPhase slot) := statement_of_form _
theorem budgetPhase : Statement .budgetPhase := statement_of_form _
theorem engineDeadlineMiss (slot : Fin 64) (done : Fin 8) : Statement (.engineDeadlineMiss slot done) := statement_of_form _
theorem upstreamDeadlineMiss (link : Fin 512) : Statement (.upstreamDeadlineMiss link) := statement_of_form _
theorem collectorDrainMiss (slot : Fin 64) : Statement (.collectorDrainMiss slot) := statement_of_form _
theorem budgetPhaseMiss : Statement .budgetPhaseMiss := statement_of_form _
theorem notBeforeBoundary : Statement .notBeforeBoundary := statement_of_form _
theorem armingComplete (ch : Fin 512) : Statement (.armingComplete ch) := statement_of_form _
theorem softParkRampComplete (ch : Fin 512) : Statement (.softParkRampComplete ch) := statement_of_form _
theorem ovMakeEnd (ch : Fin 512) : Statement (.ovMakeEnd ch) := statement_of_form _
theorem ovFadeEnd (ch : Fin 512) : Statement (.ovFadeEnd ch) := statement_of_form _
theorem hsHoldEnd (ch : Fin 512) : Statement (.hsHoldEnd ch) := statement_of_form _
theorem seqWalk (ch : Fin 512) : Statement (.seqWalk ch) := statement_of_form _
theorem continuationWalk (ch : Fin 512) : Statement (.continuationWalk ch) := statement_of_form _
theorem waitTimeout (ch : Fin 512) : Statement (.waitTimeout ch) := statement_of_form _
theorem deferralTimeout (ch : Fin 512) : Statement (.deferralTimeout ch) := statement_of_form _
theorem galleyLineArrival (ch : Fin 512) (ok : Bool) : Statement (.galleyLineArrival ch ok) := statement_of_form _
theorem calFitComplete (ch : Fin 512) : Statement (.calFitComplete ch) := statement_of_form _
theorem calPersistTimer (ch : Fin 512) : Statement (.calPersistTimer ch) := statement_of_form _
theorem sensorRevalidated (zone : Fin 64) (pos : Fin 8) : Statement (.sensorRevalidated zone pos) := statement_of_form _
theorem syncBlocksFound (link : Fin 512) : Statement (.syncBlocksFound link) := statement_of_form _
theorem linkLoss (link : Fin 512) : Statement (.linkLoss link) := statement_of_form _
theorem pageData (link : Fin 512) (page : Fin 6) (data : List Byte) : Statement (.pageData link page data) := statement_of_form _
theorem ack (link : Fin 512) (code : Byte) : Statement (.ack link code) := statement_of_form _
theorem nvmData (link : Fin 512) (slot : Fin 2) (offset : Nat) (data : List Byte) : Statement (.nvmData link slot offset data) := statement_of_form _
theorem mgmtReplyTimeout (link : Fin 512) : Statement (.mgmtReplyTimeout link) := statement_of_form _
theorem triggerEdge (pin : Fin 64) (rising : Bool) (t : Nat) : Statement (.triggerEdge pin rising t) := statement_of_form _
theorem triggerResample (pin : Fin 64) (t : Nat) : Statement (.triggerResample pin t) := statement_of_form _
theorem triggerStuck (pin : Fin 64) : Statement (.triggerStuck pin) := statement_of_form _
theorem monitorTrip (mon : Fin 64) (t : Nat) : Statement (.monitorTrip mon t) := statement_of_form _
theorem monitorRelease (mon : Fin 64) (t : Nat) : Statement (.monitorRelease mon t) := statement_of_form _
theorem blankingWindowEnd (mon : Fin 64) (tripped : Bool) (t : Nat) : Statement (.blankingWindowEnd mon tripped t) := statement_of_form _
theorem monitorPeriodClear (mon : Fin 64) : Statement (.monitorPeriodClear mon) := statement_of_form _
theorem zoneEvaluation (zone : Fin 64) : Statement (.zoneEvaluation zone) := statement_of_form _
theorem railEvaluation (rail : Fin 32) : Statement (.railEvaluation rail) := statement_of_form _
theorem dieEvaluation (sensors : List Reading) : Statement (.dieEvaluation sensors) := statement_of_form _
theorem neighbor (port : Port) (c : Cell) (t : Nat) : Statement (.neighbor port c t) := statement_of_form _
theorem neighborSend (port : Port) : Statement (.neighborSend port) := statement_of_form _
theorem neighborTimeout (port : Port) : Statement (.neighborTimeout port) := statement_of_form _
theorem ping (port : Port) (c : Cell) (t : Nat) : Statement (.ping port c t) := statement_of_form _
theorem pingSend (port : Port) (t : Nat) : Statement (.pingSend port t) := statement_of_form _
theorem echo (port : Port) (c : Cell) (t : Nat) : Statement (.echo port c t) := statement_of_form _
theorem resend (port : Port) (c : Cell) : Statement (.resend port c) := statement_of_form _
theorem epoch (port : Port) (c : Cell) (t : Nat) : Statement (.epoch port c t) := statement_of_form _
theorem epochBroadcast : Statement .epochBroadcast := statement_of_form _
theorem epochTimeout : Statement .epochTimeout := statement_of_form _
theorem regPulseEdge (t : Nat) (low : Nat) : Statement (.regPulseEdge t low) := statement_of_form _
theorem markDrive : Statement .markDrive := statement_of_form _
theorem markWaitTimeout : Statement .markWaitTimeout := statement_of_form _
theorem timeSlew : Statement .timeSlew := statement_of_form _
theorem eventCell (port : Port) (c : Cell) (t : Nat) : Statement (.eventCell port c t) := statement_of_form _
theorem armCell (port : Port) (c : Cell) (t : Nat) : Statement (.armCell port c t) := statement_of_form _
theorem ledger (port : Port) (c : Cell) (t : Nat) : Statement (.ledger port c t) := statement_of_form _
theorem ledgerWindowEnd : Statement .ledgerWindowEnd := statement_of_form _
theorem stateCell (port : Port) (c : Cell) (t : Nat) : Statement (.stateCell port c t) := statement_of_form _
theorem shareSilenceTimeout (index : Nat) : Statement (.shareSilenceTimeout index) := statement_of_form _
theorem req (port : Port) (c : Cell) (t : Nat) : Statement (.req port c t) := statement_of_form _
theorem grantCell (port : Port) (c : Cell) (t : Nat) : Statement (.grantCell port c t) := statement_of_form _
theorem cancelCell (port : Port) (c : Cell) (t : Nat) : Statement (.cancelCell port c t) := statement_of_form _
theorem msg (port : Port) (c : Cell) (t : Nat) : Statement (.msg port c t) := statement_of_form _
theorem msgAnswerTimeout (qid : BitVec 20) : Statement (.msgAnswerTimeout qid) := statement_of_form _
theorem doorbell (fn : Fin 64) (index : Nat) (value : Word64) (single : Bool) (bytes : List Byte) (t : Nat) : Statement (.doorbell fn index value single bytes t) := statement_of_form _
theorem fastSlotWrite (fn : Fin 64) (slot : Fin 64) (bytes : List Byte) (t : Nat) : Statement (.fastSlotWrite fn slot bytes t) := statement_of_form _
theorem adminEnable (fn : Fin 64) (value : BitVec 32) : Statement (.adminEnable fn value) := statement_of_form _
theorem adminDisable (fn : Fin 64) (value : BitVec 32) : Statement (.adminDisable fn value) := statement_of_form _
theorem adminRingsReady (fn : Fin 64) : Statement (.adminRingsReady fn) := statement_of_form _
theorem intStatusClear (fn : Fin 64) (value : BitVec 32) : Statement (.intStatusClear fn value) := statement_of_form _
theorem fpLateClear (fn : Fin 64) (value : BitVec 32) : Statement (.fpLateClear fn value) := statement_of_form _
theorem faultnCtrlWrite (fn : Fin 64) (value : BitVec 32) : Statement (.faultnCtrlWrite fn value) := statement_of_form _
theorem registerWrite (fn : Fin 64) (offset : Nat) (value : BitVec 32) : Statement (.registerWrite fn offset value) := statement_of_form _
theorem smbIdent : Statement .smbIdent := statement_of_form _
theorem smbMode : Statement .smbMode := statement_of_form _
theorem smbPfWord : Statement .smbPfWord := statement_of_form _
theorem smbDie : Statement .smbDie := statement_of_form _
theorem smbDiodes : Statement .smbDiodes := statement_of_form _
theorem smbSensors : Statement .smbSensors := statement_of_form _
theorem smbSerial : Statement .smbSerial := statement_of_form _
theorem smbReadFaultn : Statement .smbReadFaultn := statement_of_form _
theorem smbWriteFaultn (value : Byte) (pecOk : Bool) : Statement (.smbWriteFaultn value pecOk) := statement_of_form _
theorem smbAlertResponse : Statement .smbAlertResponse := statement_of_form _
theorem nop (p : Packet) : Statement (.nop p) := statement_of_form _
theorem identify (p : Packet) : Statement (.identify p) := statement_of_form _
theorem getMode (p : Packet) : Statement (.getMode p) := statement_of_form _
theorem setModeRun (p : Packet) : Statement (.setModeRun p) := statement_of_form _
theorem setModeStandby (p : Packet) : Statement (.setModeStandby p) := statement_of_form _
theorem setModeSafe (p : Packet) : Statement (.setModeSafe p) := statement_of_form _
theorem getReady (p : Packet) : Statement (.getReady p) := statement_of_form _
theorem setFrame (p : Packet) : Statement (.setFrame p) := statement_of_form _
theorem getTime (p : Packet) : Statement (.getTime p) := statement_of_form _
theorem resetBlock (p : Packet) : Statement (.resetBlock p) := statement_of_form _
theorem assign (p : Packet) : Statement (.assign p) := statement_of_form _
theorem chConfig (p : Packet) : Statement (.chConfig p) := statement_of_form _
theorem chFunction (p : Packet) : Statement (.chFunction p) := statement_of_form _
theorem chSetpoint (p : Packet) : Statement (.chSetpoint p) := statement_of_form _
theorem chLimits (p : Packet) : Statement (.chLimits p) := statement_of_form _
theorem chRange (p : Packet) : Statement (.chRange p) := statement_of_form _
theorem chAutorange (p : Packet) : Statement (.chAutorange p) := statement_of_form _
theorem chArm (p : Packet) : Statement (.chArm p) := statement_of_form _
theorem chPark (p : Packet) : Statement (.chPark p) := statement_of_form _
theorem chParkSoft (p : Packet) : Statement (.chParkSoft p) := statement_of_form _
theorem chMeasure (p : Packet) : Statement (.chMeasure p) := statement_of_form _
theorem chMeasureComplete (ch : Fin 512) : Statement (.chMeasureComplete ch) := statement_of_form _
theorem chAperture (p : Packet) : Statement (.chAperture p) := statement_of_form _
theorem chStatus (p : Packet) : Statement (.chStatus p) := statement_of_form _
theorem chStrobe (p : Packet) : Statement (.chStrobe p) := statement_of_form _
theorem chMigrate (p : Packet) : Statement (.chMigrate p) := statement_of_form _
theorem migrateSelftestDone (slot : Fin 64) (ok : Bool) : Statement (.migrateSelftestDone slot ok) := statement_of_form _
theorem fmLoad (p : Packet) : Statement (.fmLoad p) := statement_of_form _
theorem fmSegmentDefine (p : Packet) : Statement (.fmSegmentDefine p) := statement_of_form _
theorem fmSegmentWrite (p : Packet) : Statement (.fmSegmentWrite p) := statement_of_form _
theorem fmSegmentDelete (p : Packet) : Statement (.fmSegmentDelete p) := statement_of_form _
theorem fmLockup (p : Packet) : Statement (.fmLockup p) := statement_of_form _
theorem fmStart (p : Packet) : Statement (.fmStart p) := statement_of_form _
theorem fmStop (p : Packet) : Statement (.fmStop p) := statement_of_form _
theorem fmJump (p : Packet) : Statement (.fmJump p) := statement_of_form _
theorem fmStreamBind (p : Packet) : Statement (.fmStreamBind p) := statement_of_form _
theorem fmStatus (p : Packet) : Statement (.fmStatus p) := statement_of_form _
theorem fmStatusSegment (p : Packet) : Statement (.fmStatusSegment p) := statement_of_form _
theorem fmRelease (p : Packet) : Statement (.fmRelease p) := statement_of_form _
theorem qCreate (p : Packet) : Statement (.qCreate p) := statement_of_form _
theorem qDestroy (p : Packet) : Statement (.qDestroy p) := statement_of_form _
theorem qReset (p : Packet) : Statement (.qReset p) := statement_of_form _
theorem qStatus (p : Packet) : Statement (.qStatus p) := statement_of_form _
theorem qStatusClear (p : Packet) : Statement (.qStatusClear p) := statement_of_form _
theorem qNotify (p : Packet) : Statement (.qNotify p) := statement_of_form _
theorem qBind (p : Packet) : Statement (.qBind p) := statement_of_form _
theorem imZone (p : Packet) : Statement (.imZone p) := statement_of_form _
theorem imRail (p : Packet) : Statement (.imRail p) := statement_of_form _
theorem imModel (p : Packet) : Statement (.imModel p) := statement_of_form _
theorem imSensor (p : Packet) : Statement (.imSensor p) := statement_of_form _
theorem imStatus (p : Packet) : Statement (.imStatus p) := statement_of_form _
theorem imPolicy (p : Packet) : Statement (.imPolicy p) := statement_of_form _
theorem calMode (p : Packet) : Statement (.calMode p) := statement_of_form _
theorem calStatus (p : Packet) : Statement (.calStatus p) := statement_of_form _
theorem calCommit (p : Packet) : Statement (.calCommit p) := statement_of_form _
theorem calCommitForce (p : Packet) : Statement (.calCommitForce p) := statement_of_form _
theorem calCommitDiscard (p : Packet) : Statement (.calCommitDiscard p) := statement_of_form _
theorem calRead (p : Packet) : Statement (.calRead p) := statement_of_form _
theorem calWrite (p : Packet) : Statement (.calWrite p) := statement_of_form _
theorem calPersist (p : Packet) : Statement (.calPersist p) := statement_of_form _
theorem tsWrite (p : Packet) : Statement (.tsWrite p) := statement_of_form _
theorem tsSelect (p : Packet) : Statement (.tsSelect p) := statement_of_form _
theorem mkRoute (p : Packet) : Statement (.mkRoute p) := statement_of_form _
theorem trigConfig (p : Packet) : Statement (.trigConfig p) := statement_of_form _
theorem trigConfigClear (p : Packet) : Statement (.trigConfigClear p) := statement_of_form _
theorem trigConfigQuery (p : Packet) : Statement (.trigConfigQuery p) := statement_of_form _
theorem regJoinMember (p : Packet) : Statement (.regJoinMember p) := statement_of_form _
theorem regJoinTimekeeper (p : Packet) : Statement (.regJoinTimekeeper p) := statement_of_form _
theorem regJoinLeave (p : Packet) : Statement (.regJoinLeave p) := statement_of_form _
theorem regStatus (p : Packet) : Statement (.regStatus p) := statement_of_form _
theorem regSkew (p : Packet) : Statement (.regSkew p) := statement_of_form _
theorem regArmAt (p : Packet) : Statement (.regArmAt p) := statement_of_form _
theorem monConfig (p : Packet) : Statement (.monConfig p) := statement_of_form _
theorem monStatus (p : Packet) : Statement (.monStatus p) := statement_of_form _
theorem monStatusClear (p : Packet) : Statement (.monStatusClear p) := statement_of_form _
theorem axdWrite (p : Packet) : Statement (.axdWrite p) := statement_of_form _
theorem axdStrobe (p : Packet) : Statement (.axdStrobe p) := statement_of_form _
theorem fltStatus (p : Packet) : Statement (.fltStatus p) := statement_of_form _
theorem fltClear (p : Packet) : Statement (.fltClear p) := statement_of_form _
theorem fltReaction (p : Packet) : Statement (.fltReaction p) := statement_of_form _
theorem fltLog (p : Packet) : Statement (.fltLog p) := statement_of_form _
theorem memStatus (p : Packet) : Statement (.memStatus p) := statement_of_form _
theorem memDelays (p : Packet) : Statement (.memDelays p) := statement_of_form _
theorem memDelaysWrite (p : Packet) : Statement (.memDelaysWrite p) := statement_of_form _
theorem memScan (p : Packet) : Statement (.memScan p) := statement_of_form _
theorem memFreq (p : Packet) : Statement (.memFreq p) := statement_of_form _
theorem memFreqComplete : Statement .memFreqComplete := statement_of_form _
theorem memRetireDevice (p : Packet) : Statement (.memRetireDevice p) := statement_of_form _
theorem memRestore (p : Packet) : Statement (.memRestore p) := statement_of_form _
theorem rebuildComplete (dev : Fin 5) : Statement (.rebuildComplete dev) := statement_of_form _
theorem memRetireRow (p : Packet) : Statement (.memRetireRow p) := statement_of_form _
theorem rowCopyComplete (dev : Fin 5) : Statement (.rowCopyComplete dev) := statement_of_form _
theorem memRead (p : Packet) : Statement (.memRead p) := statement_of_form _
theorem memWrite (p : Packet) : Statement (.memWrite p) := statement_of_form _
theorem refreshDeadline (dev : Fin 5) (bank : Nat) : Statement (.refreshDeadline dev bank) := statement_of_form _
theorem writeCombineTimeout : Statement .writeCombineTimeout := statement_of_form _
theorem pageIdleTimeout (dev : Fin 5) (bank : Nat) : Statement (.pageIdleTimeout dev bank) := statement_of_form _
theorem scrub (row : Nat) : Statement (.scrub row) := statement_of_form _
theorem lcStatus (p : Packet) : Statement (.lcStatus p) := statement_of_form _
theorem lcAdvance (p : Packet) : Statement (.lcAdvance p) := statement_of_form _
theorem wipeComplete : Statement .wipeComplete := statement_of_form _
theorem updStage (p : Packet) : Statement (.updStage p) := statement_of_form _
theorem updStageComplete (authentic : Bool) : Statement (.updStageComplete authentic) := statement_of_form _
theorem updSwitch (p : Packet) : Statement (.updSwitch p) := statement_of_form _
theorem updateEnd (ok : Bool) : Statement (.updateEnd ok) := statement_of_form _
theorem retRecord (p : Packet) : Statement (.retRecord p) := statement_of_form _
theorem retRecordComplete : Statement .retRecordComplete := statement_of_form _
theorem prfEnter (p : Packet) : Statement (.prfEnter p) := statement_of_form _
theorem prfInject (p : Packet) : Statement (.prfInject p) := statement_of_form _
theorem prfPerturb (p : Packet) : Statement (.prfPerturb p) := statement_of_form _
theorem prfExit (p : Packet) : Statement (.prfExit p) := statement_of_form _
theorem elStatus (p : Packet) : Statement (.elStatus p) := statement_of_form _
theorem elStatusClear (p : Packet) : Statement (.elStatusClear p) := statement_of_form _
theorem elDescriptor (p : Packet) : Statement (.elDescriptor p) := statement_of_form _
theorem elPair (p : Packet) : Statement (.elPair p) := statement_of_form _
theorem elPairSplit (p : Packet) : Statement (.elPairSplit p) := statement_of_form _
theorem elPairSwap (p : Packet) : Statement (.elPairSwap p) := statement_of_form _
theorem elSkew (p : Packet) : Statement (.elSkew p) := statement_of_form _
theorem elResetDisable (p : Packet) : Statement (.elResetDisable p) := statement_of_form _
theorem elResetEnable (p : Packet) : Statement (.elResetEnable p) := statement_of_form _
theorem errorLineRise (e : ErrEvent) (t : Nat) : Statement (.errorLineRise e t) := statement_of_form _
theorem faultReaction : Statement .faultReaction := statement_of_form _
theorem shadowEnd (b : ShadowBlock) (persists : List ErrEvent) : Statement (.shadowEnd b persists) := statement_of_form _
theorem pressLockstepMismatch (standby : Bool) (t : Nat) : Statement (.pressLockstepMismatch standby t) := statement_of_form _
theorem pressReloadComplete (ok : Bool) : Statement (.pressReloadComplete ok) := statement_of_form _
theorem proofreaderMismatch (t : Nat) : Statement (.proofreaderMismatch t) := statement_of_form _
theorem spareSelftest (e : Fin 72) (ok : Bool) : Statement (.spareSelftest e ok) := statement_of_form _
theorem journalProgram : Statement .journalProgram := statement_of_form _
theorem hourlyHistory : Statement .hourlyHistory := statement_of_form _
theorem sectorEraseStart : Statement .sectorEraseStart := statement_of_form _
theorem powerOn (bootSel : BitVec 2) : Statement (.powerOn bootSel) := statement_of_form _
theorem invalidHeaders (port : Port) (t : Nat) : Statement (.invalidHeaders port t) := statement_of_form _
theorem unsettledClears (mon : Fin 64) (tripSide : Bool) : Statement (.unsettledClears mon tripSide) := statement_of_form _
theorem sectorEraseComplete : Statement .sectorEraseComplete := statement_of_form _

end Sys2Proof.Laws.Opcode
end

