-- ==== Sys2Proof/Tests/Slice0.lean ====
section
/-! SUPPORT. Tests: a small device, for each statement a state and operands that meet its hypotheses, commands that are not well formed,
and the worked examples of the specification. -/

namespace Sys2Proof.Tests
set_option Elab.async false
open Sys2Proof.Machine

/-! ### A small device for the tests -/

/-- A command ring and a reply ring of function 0, and its event ring. -/
def benchRings : Tab Ring :=
  [(0, { kind := 0, pool := true, admin := true, doorbell := 0, hostAddr := 0x100000, devAddr := 0 }),
   (1, { kind := 1, pool := true, admin := true, doorbell := 1, hostAddr := 0x200000, devAddr := 4096 }),
   (2, { kind := 4, pool := true, admin := true, doorbell := 2, hostAddr := 0x300000, devAddr := 8192 })]

/-- A range of a front-end: full scale, rated value and reference codes. -/
def benchRange (fs rated : Nat) (overlap : Bool) : RangeRec :=
  { fs := ratToF32 (fs / 10), rated := ratToF32 (rated / 10), tSw := ratToF32 (1 / 20000), dHs := 0, g := ratToF32 1, tau := 0, gc := ratToF32 1
    tauc := 0, plus := ratToF32 (rated / 10), minus := ratToF32 (-(rated / 10)), halfPlus := ratToF32 (rated / 20)
    halfMinus := ratToF32 (-(rated / 20)), tMk := ratToF32 (1 / 1000000), dOv := 0, tOvs := ratToF32 (1 / 1000000), refMask := 31
    unipolar := false, overlap := overlap }

/-- A front-end with two voltage and two current ranges and a calibration memory. -/
def benchDesc : Desc :=
  { serial := [], caps := 0x23, tRelay := ratToF32 (1 / 10000), tZ := ratToF32 (1 / 100000), tCl := ratToF32 (3 / 20000000)
    tBs := ratToF32 (1 / 20000000), pmax := 1, tLead := ratToF32 (1 / 5000000), tRef := ratToF32 (3 / 20000000), clampV := ratToF32 15
    clampI := ratToF32 (3 / 20), railFs := ratToF32 10, regenMax := 0, sensorOff := 0, slotSize := 1040
    v := [benchRange 24 20 true, benchRange 120 100 false], i := [benchRange 1 1 true, benchRange 12 10 false] }

/-- The device in the RUN family, frame 10 of 100 reference periods, every block ready, link 0 up, the boot image in its banks. -/
def live : Device :=
  { aon := { vddAon := true, porstHigh := true, pg := 15, boots := 1 }
    time := { running := true, started := true, now := 160100, frame := 10, tick := 160000 }
    mode := { phase := .normal, standby := false, word := 0x00200104 }
    ready := { blk := 2 ^ 22 - 1, eng := 2 ^ 72 - 1, region := 2 ^ 64 - 1, caseR := 255, links := 1 }
    press := { active := true, standbyReady := true }
    fns := [(0, { adminEn := true, adminReady := true })]
    queue := { rings := benchRings }
    mem := { devs := (List.range 5).map fun m => (m, { state := .inService }), poolSpans := [(0, 12288)] }
    links := [(0, { state := .up, active := true, desc := some benchDesc, rts := [50688], pages := [(0, zeros 256)] })] }

/-- A packet of function 0 at the bench's instant, with its flags, target word and parameters; it asks for replies in ring 1. -/
def pkt (op : Op) (flags target : Nat) (par : List Byte) : Packet :=
  { fn := 0, qid := 0, at_ := 160200
    body := le16 op.code ++ [BitVec.ofNat 8 flags, 1] ++ le32 (32 + par.length) ++ le32 1 ++ le32 (0x3FF + target) ++ le32 1 ++ le32 0 ++ zeros 8 ++ par }

/-- TARGET of channel, zone or rail, group and device scope (R360). -/
def onCh (i : Nat) : Nat := 0x400 + i * 4096
def onZone (i : Nat) : Nat := 0xC00 + i * 4096
def onIdx (i : Nat) : Nat := i * 4096
def onGroup (i : Nat) : Nat := 0x800 + i * 4096

/-- A value as binary32. -/
def val (a b : Nat) : List Byte := leF32 (ratToF32 (a / b))

/-- A packet is accepted and its command has the form. -/
def meets (d : Device) (op : Op) (p : Packet) (form : Cmd → Device → Prop) [∀ c x, Decidable (form c x)] : Bool :=
  match d.ring? p.qid.toNat with
  | none => false
  | some r =>
    let x := d.takenBy op p r
    let c := d.commandOf op p r
    d.running && d.cmd.held.isEmpty && (r.kind == 0 && r.fn == p.fn.val && !r.halt) && d.ringSound p.qid.toNat &&
      ((d.arrived p).holds op p.fn.val p.qid.toNat p.body []).isNone && (firstFail (x.headChecks op c p.body (bodyLengthOk p.body))).isNone &&
      !(decide ((d.arrived p).time.now < c.nb) && !op.leads) && !c.assign && (firstFail (x.stateChecks op c)).isNone && (op.run c x).1.good &&
      decide (form c x)

theorem accepted_of_meets {d : Device} {op : Op} {p : Packet} {form : Cmd → Device → Prop} [∀ c x, Decidable (form c x)]
    (h : meets d op p form = true) : ∃ r, d.Accepted op p r ∧ form (d.commandOf op p r) (d.takenBy op p r) := by
  unfold meets at h
  split at h
  · cases h
  · rename_i r hr
    simp only [Bool.and_eq_true, Option.isNone_iff_eq_none, List.isEmpty_iff, decide_eq_true_eq, beq_iff_eq, Bool.not_eq_true', Bool.and_eq_false_iff, decide_eq_false_iff_not, Bool.not_eq_false'] at h
    obtain ⟨⟨⟨⟨⟨⟨⟨⟨⟨⟨h1, h2⟩, h3⟩, h4⟩, h5⟩, h6⟩, h7⟩, h8⟩, h9⟩, h10⟩, h11⟩ := h
    refine ⟨r, { running := h1, unheld := h2, ring := hr, mine := ⟨h3.1.1, h3.1.2, h3.2⟩, sound := h4, free := h5, header := h6, now := ?_,
                 plain := h8, allowed := h9, good := h10 }, h11⟩
    intro hn
    rcases h7 with h7 | h7
    · exact absurd hn.1 h7
    · simp [h7] at hn

/-! ### Devices and packets for the witnesses -/

def standbyDev : Device := { live with mode := { phase := .normal, standby := true, word := 0x00200103 } }
def safeDev : Device := { live with mode := { phase := .normal, safe := true, word := 0x00200107 } }
def proofDev : Device :=
  { live with mode := { phase := .normal, standby := false, proof := true, word := 0x00200108 }
              proof := { engines := 255, channels := 2 ^ 64 - 1, links := 2 ^ 64 - 1 } }
/-- `live`, REGISTERED with ID 3 of 4 devices. -/
def memberDev : Device :=
  { live with reg := { state := .registered, id := some 3, n := 4, m := 1, tkId := some 0, timekeeper := false } }
def withRing (q : Nat) (r : Ring) : Device := live.setRing q r
def seg (k : Nat) : Segment := { fn := 0, kind := k, law := 0, len := 96, state := 0 }
def withSeg (g : Segment) : Device := live.setSeg 7 (some g)
/-- Channel 0 in function FV with limits of ±1 V and ±50 mA and a valid calibration; the same with an arm request; armed. -/
def limitedCfg : ChanCfg :=
  { func := 1, vPos := some (ratToF32 1), vNeg := some (ratToF32 (-1)), iPos := some (ratToF32 (1 / 20)), iNeg := some (ratToF32 (-1 / 20)) }
def readyDev : Device := live.setChan 0 { cfg := limitedCfg, cal := { active := { valid := 2 ^ 40 - 1 } } }
def anEnv : Env := (live.commandOf .nop (pkt .nop 0 0 []) {}).env
def askedDev : Device := readyDev.onChan 0 fun x => { x with armReq := some (0, anEnv) }
def armedDev : Device := live.setChan 0 { cfg := { func := 1 }, arm := .armed, armFrame := 3 }
/-- Forme images: one word (HALT), two words, and two words (HOLD, HALT) whose jump target 0 is word 0. -/
def image1 : List Byte := le32 1 ++ zeros 4 ++ zeros 248 ++ zeros 8
def image2 : List Byte := le32 2 ++ [0, 0, 1, 0] ++ zeros 248 ++ le64 (4 * 2 ^ 58 + 100) ++ zeros 8
def loadedDev : Device := live.setChan 0 { seq := { state := .loaded, image := image1.take 256, total := 264 } }
def lockableDev : Device := live.setChan 0 { cfg := limitedCfg, seq := { state := .loaded, image := image1, total := 264 } }
def lockedDev : Device := live.setChan 0 { cfg := { func := 1 }, arm := .armed, seq := { state := .locked, image := image1, total := 264 } }
def playingDev : Device :=
  live.setChan 0 { cfg := { func := 1 }, arm := .armed, seq := { state := .running, image := image2, total := 272, waitFrom := 12 } }
/-- A hold of two frames is in progress, and nothing is decided after it. -/
def holdingDev : Device :=
  live.setChan 0
    { cfg := { func := 1 }, arm := .armed
      seq := { state := .running, image := image2, total := 272, waitFrom := 12, span := some { kind := .hold none, word := 0, start := 5, len := some 2 } } }
def line0 : List Byte := let l := zeros 60 ++ le16 7 ++ [0]; l ++ [BitVec.ofNat 8 (lineCrc l)]
def aSensor : Sensor := { kind := 1, index := 3, offset := some 0, trip := 0 }
def sensorDev : Device := live.setZone 63 { sensors := [aSensor] }
def pairDev : Device := live.setLink 1 { live.link 0 with active := false }
def dualDev : Device := (pairDev.setLink 0 { live.link 0 with dual := true }).setLink 1 { live.link 0 with dual := true, active := false }
def calFixedDev : Device := live.onCal 0 fun k => { k with mode := 0 }
def oldCommit : PendCommit := { nb := 160000, env := none, interim := false, force := false, step := 0, set := 0 }
def waitingDev : Device := live.onCal 0 fun k => { k with commit := some oldCommit }
def join (role : Byte) : List Byte := [role, 1, 4, 1] ++ le32 100 ++ [26, 63] ++ zeros 22
def trainingDev : Device := live.setMemDev 4 { state := .training, block := zeros 128 }
def aScan : ScanJob := { purpose := 1, mask := 16, left := 16, results := [2, 2, 2, 2, 2], rate := 32, env := none }
def scanningDev : Device := { standbyDev with mem := { standbyDev.mem with jobs := [aScan] } }
def uploadDev : Device := { live with update := { upload := some { total := 4096, bytes := zeros 4088 } } }
def searchDev : Device := live.onLink 0 fun x => { x with state := .search }

/-! ### Every form of the firmware commands is accepted somewhere: witnesses of the hypotheses of their statements -/

theorem witness_SystemQueriesAnswer :
    meets live .nop (pkt .nop 0 0 []) (fun _ _ => True) = true ∧ meets live .identify (pkt .identify 0 0 []) (fun _ _ => True) = true ∧
    meets live .getMode (pkt .getMode 0 0 []) (fun _ _ => True) = true ∧ meets live .getReady (pkt .getReady 0 0 []) (fun _ _ => True) = true ∧
    meets live .getTime (pkt .getTime 0 0 []) (fun _ _ => True) = true ∧ meets live .lcStatus (pkt .lcStatus 0 0 []) (fun _ _ => True) = true := by
  decide +kernel

theorem witness_UnitQueriesAnswer :
    meets live .chStatus (pkt .chStatus 0 (onCh 511) []) (fun _ _ => True) = true ∧
    meets live .fmStatus (pkt .fmStatus 0 (onCh 0) []) (fun c _ => c.scope = 1) = true ∧
    meets (withSeg (seg 1)) .fmStatus (pkt .fmStatus 16 0 (le32 7)) (fun c d => c.scope ≠ 1 ∧ d.seg? (c.u16 0) = some (seg 1)) = true ∧
    meets (withRing 300 {}) .qStatus (pkt .qStatus 0 0 (le32 300)) (fun c d => c.opf = 0 ∧ d.ring? (c.u32 0) = some {}) = true ∧
    meets (withRing 300 {}) .qStatus (pkt .qStatus 16 0 (le32 300)) (fun c d => c.opf = 1 ∧ d.ring? (c.u32 0) = some {}) = true ∧
    meets live .imStatus (pkt .imStatus 0 (onZone 64) []) (fun c _ => c.idx = 64) = true ∧
    meets live .imStatus (pkt .imStatus 0 (onZone 256) []) (fun c _ => 256 ≤ c.idx) = true ∧
    meets live .imStatus (pkt .imStatus 0 (onZone 63) []) (fun c _ => c.idx < 64) = true ∧
    meets live .calStatus (pkt .calStatus 0 (onCh 0) []) (fun _ _ => True) = true ∧
    meets live .calRead (pkt .calRead 0 (onCh 511) (le32 0)) (fun _ _ => True) = true := by
  decide +kernel

theorem witness_ServiceQueriesAnswer :
    meets live .regStatus (pkt .regStatus 0 0 []) (fun _ _ => True) = true ∧ meets live .fltStatus (pkt .fltStatus 0 0 []) (fun _ _ => True) = true ∧
    meets { live with flash := { journal := [(0, [])], jcount := 1 } } .fltLog (pkt .fltLog 0 0 (le32 0 ++ le32 1)) (fun _ _ => True) = true ∧
    meets live .elStatus (pkt .elStatus 0 (onCh 0) []) (fun c d => c.opf = 0 ∧ (d.link c.idx).rts ≠ []) = true ∧
    meets live .elStatus (pkt .elStatus 16 (onCh 0) []) (fun c d => c.opf = 1 ∧ (d.link c.idx).rts ≠ []) = true ∧
    meets live .elDescriptor (pkt .elDescriptor 0 (onCh 0) (le32 0)) (fun _ _ => True) = true ∧
    meets live .memDelays (pkt .memDelays 0 0 (le32 4)) (fun c _ => c.opf = 0) = true ∧
    meets live .memStatus (pkt .memStatus 0 0 []) (fun _ _ => True) = true ∧ (∀ x ∈ live.mem.devs, x.2.state ≠ .rebuilding) ∧
    live.reg.state ≠ .registered := by
  decide +kernel

theorem witness_SystemCommandsComplete :
    meets live .setMode (pkt .setMode 0 0 (le32 7)) (fun c d => c.u32 0 = 7 ∧ d.inSafe = false) = true ∧
    meets safeDev .setMode (pkt .setMode 0 0 (le32 7)) (fun c d => c.u32 0 = 7 ∧ d.inSafe = true) = true ∧
    meets live .setMode (pkt .setMode 0 0 (le32 3)) (fun c d => c.u32 0 = 3 ∧ d.inStandby = false) = true ∧
    meets standbyDev .setMode (pkt .setMode 0 0 (le32 3)) (fun c d => c.u32 0 = 3 ∧ d.inStandby = true) = true ∧
    meets safeDev .setMode (pkt .setMode 0 0 (le32 4)) (fun c d => c.u32 0 = 4 ∧ d.inSafe = true) = true ∧
    meets live .setMode (pkt .setMode 0 0 (le32 4)) (fun c d => c.u32 0 = 4 ∧ d.inStandby = false ∧ d.inSafe = false) = true ∧
    meets standbyDev .setMode (pkt .setMode 0 0 (le32 4)) (fun c d => c.u32 0 = 4 ∧ d.inStandby = true) = true ∧
    standbyDev.reg.state ≠ .registered ∧ 0 < standbyDev.time.n ∧
    meets live .resetBlock (pkt .resetBlock 0 0 (le16 8 ++ le16 71 ++ zeros 4)) (fun _ _ => True) = true := by
  decide +kernel

theorem witness_SettingsWaitForTheirBoundary :
    meets live .chFunction (pkt .chFunction 0 (onCh 0) (le32 1)) (fun _ _ => True) = true ∧
    meets (live.setChan 0 { cfg := { func := 1 } }) .chSetpoint (pkt .chSetpoint 0 (onCh 0) (val 1 1 ++ zeros 4)) (fun _ _ => True) = true ∧
    meets live .chLimits (pkt .chLimits 0 (onCh 0) (val 1 1 ++ leF32 (ratToF32 (-1)) ++ val 1 20 ++ leF32 (ratToF32 (-1 / 20)))) (fun _ _ => True) = true ∧
    meets live .chAutorange (pkt .chAutorange 0 (onCh 0) [0, 1, 0, 1, 1, 4, 0, 0]) (fun _ _ => True) = true ∧
    meets live .chAperture (pkt .chAperture 0 (onCh 511) (le32 1048576 ++ zeros 4)) (fun _ _ => True) = true ∧
    meets live .imZone (pkt .imZone 0 (onZone 63) ([63, 1, 1, 0, 0, 0, 0, 1] ++ val 25 1 ++ val 85 1 ++ val 5 1 ++ val 20 1 ++ val 1 1 ++ val 1 1 ++
      val 1 2 ++ val 10 1 ++ zeros 24 ++ zeros 64)) (fun _ _ => True) = true ∧
    meets live .imRail (pkt .imRail 0 (onZone 287) ([31, 1, 0, 0] ++ val 12 1 ++ val 100 1 ++ val 10 1 ++ val 1 20 ++ val 9 10 ++ zeros 40))
      (fun _ _ => True) = true ∧
    meets live .calMode (pkt .calMode 0 (onCh 0) ([2, 0, 0, 0] ++ le32 256 ++ le32 100)) (fun _ _ => True) = true ∧
    meets live .calCommit (pkt .calCommit 32 (onCh 0) []) (fun c _ => c.opf = 2) = true ∧
    meets live .mkRoute (pkt .mkRoute 0 (onIdx 63) (le32 0)) (fun _ _ => True) = true ∧
    meets (withRing 300 { kind := 3 }) .trigConfig (pkt .trigConfig 0 (onIdx 0) ([0, 2, 1, 1] ++ le32 300 ++ le32 10 ++ zeros 4)) (fun c _ => c.opf = 0) = true ∧
    meets live .monConfig (pkt .monConfig 0 (onIdx 63) ([0, 0, 0, 0] ++ le16 0 ++ le16 100 ++ le32 1 ++ zeros 8 ++ zeros 64)) (fun _ _ => True) = true ∧
    meets live .tsSelect (pkt .tsSelect 0 (onCh 0) (le32 15)) (fun _ _ => True) = true ∧
    meets live .fltReaction (pkt .fltReaction 0 0 [63, 1, 0, 0]) (fun _ _ => True) = true ∧
    meets (withRing 300 { kind := 2 }) .qNotify (pkt .qNotify 0 0 (le32 300 ++ [1, 0, 0, 0] ++ le32 0)) (fun _ _ => True) = true ∧
    meets playingDev .fmStop (pkt .fmStop 0 (onCh 0) []) (fun c d => (d.chan c.idx).running = true) = true ∧
    meets live .fmStop (pkt .fmStop 0 (onCh 0) []) (fun c d => (d.chan c.idx).running = false) = true ∧
    meets pairDev .elPair (pkt .elPair 0 (onCh 0) []) (fun c _ => c.opf = 0) = true ∧
    meets dualDev .elPair (pkt .elPair 16 (onCh 0) []) (fun c _ => c.opf = 1) = true ∧
    meets dualDev .elPair (pkt .elPair 32 (onCh 0) []) (fun c _ => c.opf = 2) = true ∧
    meets proofDev .prfInject (pkt .prfInject 0 0 ([0, 0] ++ le16 0 ++ le32 1 ++ le32 1 ++ zeros 4)) (fun _ _ => True) = true ∧
    meets proofDev .prfPerturb (pkt .prfPerturb 0 0 ([0, 9] ++ le16 0 ++ le32 64 ++ zeros 8)) (fun _ _ => True) = true := by
  decide +kernel

theorem witness_ChannelCommandsComplete :
    meets readyDev .chArm (pkt .chArm 0 (onCh 0) []) (fun c d => (d.chan c.idx).arm = .parked ∧ (d.chan c.idx).armReq = none) = true ∧
    meets armedDev .chArm (pkt .chArm 0 (onCh 0) [])
      (fun c d => ((d.chan c.idx).arm = .arming ∨ (d.chan c.idx).arm = .armed) ∧ d.armMode c.idx = true) = true ∧
    meets askedDev .chArm (pkt .chArm 0 (onCh 0) []) (fun c d => (d.chan c.idx).arm = .parked ∧ (d.chan c.idx).armReq.isSome = true) = true ∧
    meets armedDev .chPark (pkt .chPark 0 (onCh 0) (le32 0))
      (fun c d => c.scope = 1 ∧ c.opf = 0 ∧ (d.chan c.idx).arm ≠ .parked ∧ (d.chan c.idx).parkPend = none) = true ∧
    meets live .chPark (pkt .chPark 0 (onCh 0) (le32 0))
      (fun c d => c.scope = 1 ∧ c.opf = 0 ∧ (d.chan c.idx).arm = .parked ∧ (d.chan c.idx).armReq = none) = true ∧
    meets live .chPark (pkt .chPark 0 0 (le32 0)) (fun c _ => c.scope = 0) = true ∧
    meets armedDev .chPark (pkt .chPark 16 (onCh 0) (le32 65536))
      (fun c d => c.scope = 1 ∧ c.opf = 1 ∧ (d.chan c.idx).arm = .armed ∧ fnClosed (d.chan c.idx).cfg.func = true) = true ∧
    meets live .chMeasure (pkt .chMeasure 0 (onCh 511) (le32 4096)) (fun _ _ => True) = true ∧
    meets live .chStrobe (pkt .chStrobe 0 0 (le32 0x8001)) (fun _ _ => True) = true ∧
    meets live .chMigrate (pkt .chMigrate 0 0 [0, 64, 0, 0]) (fun _ _ => True) = true := by
  decide +kernel

/-- The form of CH_RANGE's statement for one quantity: no change is in progress, the present range is `k`, and whether nothing would change. -/
def rangeForm (q k : Nat) (hold : Bool) (c : Cmd) (d : Device) : Bool :=
  d.desc? c.idx == some benchDesc && c.u8 0 == q && (d.chan c.idx).range.change == none &&
    (if q = 0 then (d.chan c.idx).range.v else (d.chan c.idx).range.i) == k &&
    ((({ d.chan c.idx with
      range := { (d.chan c.idx).range with
        ovEn := bit (c.u8 2) 0, fade := if c.u8 4 = 0 then (d.chan c.idx).range.fade else c.u8 4
        autoV := if q = 0 then false else (d.chan c.idx).range.autoV
        autoI := if q = 1 then false else (d.chan c.idx).range.autoI } } : Chan).changePlan benchDesc d.time.n q k (c.u8 1)).1 == 2) == hold

theorem witness_ChRangeCompletes :
    meets armedDev .chRange (pkt .chRange 0 (onCh 0) [0, 1, 0, 0, 0, 0, 0, 0]) (fun c d => (rangeForm 0 0 false c d) = true) = true ∧
    meets armedDev .chRange (pkt .chRange 0 (onCh 0) [0, 0, 0, 0, 0, 0, 0, 0]) (fun c d => (rangeForm 0 0 true c d) = true) = true ∧
    meets armedDev .chRange (pkt .chRange 0 (onCh 0) [1, 1, 1, 0, 4, 0, 0, 0]) (fun c d => (rangeForm 1 0 false c d) = true) = true ∧
    meets armedDev .chRange (pkt .chRange 0 (onCh 0) [1, 0, 0, 0, 64, 0, 0, 0]) (fun c d => (rangeForm 1 0 true c d) = true) = true := by
  decide +kernel

theorem witness_SequencerCommandsComplete :
    meets live .fmLoad (pkt .fmLoad 0 (onCh 0) (le32 0 ++ le32 264 ++ image1.take 256)) (fun c _ => c.u32 0 = 0) = true ∧
    meets loadedDev .fmLoad (pkt .fmLoad 0 (onCh 0) (le32 256 ++ le32 264 ++ zeros 8)) (fun c _ => c.u32 0 ≠ 0) = true ∧
    meets lockedDev .fmStart (pkt .fmStart 0 (onCh 0) []) (fun _ _ => True) = true ∧
    meets holdingDev .fmJump (pkt .fmJump 0 (onCh 0) (le32 0)) (fun c d => bit (c.u32 0) 16 = false ∧
      d.jumpPlan c.idx { target := bits (c.u32 0) 15 0, staged := d.stagedWord c.idx (bits (c.u32 0) 15 0), latch := d.latchFrame c.stamp,
                         env := some c.env, answered := false } = none) = true ∧
    meets playingDev .fmJump (pkt .fmJump 0 (onCh 0) (le32 65536)) (fun c d => bit (c.u32 0) 16 = true ∧
      d.jumpPlan c.idx { target := imageTarget (d.chan c.idx).seq.image (bits (c.u32 0) 15 0)
                         staged := d.stagedWord c.idx (imageTarget (d.chan c.idx).seq.image (bits (c.u32 0) 15 0))
                         latch := d.latchFrame c.stamp, env := some c.env, answered := false } = some (13, true)) = true ∧
    meets live .fmRelease (pkt .fmRelease 0 (onCh 0) []) (fun c d => (d.chan c.idx).lockedForme = false) = true ∧
    meets lockedDev .fmRelease (pkt .fmRelease 0 (onCh 0) []) (fun c d => (d.chan c.idx).lockedForme = true) = true ∧
    meets (withSeg (seg 2)) .fmStreamBind (pkt .fmStreamBind 0 (onCh 0) (le16 7 ++ zeros 2 ++ le32 0xFFFFF))
      (fun c d => d.seg? (c.u16 0) = some (seg 2) ∧ c.u32 4 = 0xFFFFF) = true ∧
    meets ((withSeg (seg 2)).setRing 300 { kind := 5 }) .fmStreamBind (pkt .fmStreamBind 0 (onCh 0) (le16 7 ++ zeros 2 ++ le32 300))
      (fun c d => d.seg? (c.u16 0) = some (seg 2) ∧ c.u32 4 ≠ 0xFFFFF ∧ d.ring? (c.u32 4) = some { kind := 5 }) = true := by
  decide +kernel

theorem witness_SegmentAndLockupCommandsComplete :
    meets live .fmSegment (pkt .fmSegment 0 0 (le16 9 ++ [2, 0] ++ le32 96 ++ zeros 8 ++ val 1 1 ++ zeros 44)) (fun c _ => c.opf = 0 ∧ c.u8 2 ≠ 0) = true ∧
    meets live .fmSegment (pkt .fmSegment 0 0 (le16 9 ++ [0, 0] ++ le32 96 ++ zeros 8 ++ val 1 1 ++ zeros 44))
      (fun c _ => c.opf = 0 ∧ c.u8 2 = 0 ∧ 1 = (c.u32 4 + 1535) / 1536) = true ∧
    meets (withSeg { seg 0 with blocks := [65536] }) .fmSegment (pkt .fmSegment 16 0 (le16 7 ++ zeros 2 ++ le32 0 ++ line0))
      (fun c d => c.opf = 1 ∧ d.seg? (c.u16 0) = some { seg 0 with blocks := [65536] } ∧
        ({ seg 0 with written := addInterval (c.u32 4, c.u32 4 + c.lines.length - 1) (seg 0).written } : Segment).writtenCount ≠ (seg 0).len / 24) = true ∧
    meets (withSeg { seg 0 with len := 24, blocks := [65536] }) .fmSegment (pkt .fmSegment 16 0 (le16 7 ++ zeros 2 ++ le32 0 ++ line0))
      (fun c d => c.opf = 1 ∧ d.seg? (c.u16 0) = some { seg 0 with len := 24, blocks := [65536] } ∧
        ({ seg 0 with written := addInterval (c.u32 4, c.u32 4 + c.lines.length - 1) (seg 0).written } : Segment).writtenCount = 24 / 24) = true ∧
    meets (withSeg (seg 0)) .fmSegment (pkt .fmSegment 32 0 (le32 7)) (fun c d => c.opf = 2 ∧ d.seg? (c.u16 0) = some (seg 0)) = true ∧
    meets lockableDev .fmLockup (pkt .fmLockup 0 (onCh 0) []) (fun _ _ => True) = true ∧ lockableDev.reg.state ≠ .registered := by
  decide +kernel

theorem witness_QueueCommandsComplete :
    meets live .qCreate (pkt .qCreate 0 0 (le32 0xFFFFF ++ [2, 0, 0, 255] ++ le64 0x1000 ++ le32 0xFFFFFFFF ++ zeros 12))
      (fun c d => (if c.u32 0 = 0xFFFFF then d.lowestQid else some (c.u32 0)) = some 256 ∧
        (if c.u8 4 = 6 then some 0x1FFF else if c.u32 16 = 0xFFFFFFFF then d.lowestDoorbell c.env.fn else some (c.u32 16)) = some 3 ∧
        (if c.u8 6 = 1 then d.poolSpan (4096 * 2 ^ c.u8 5) else d.memSpan (4096 * 2 ^ c.u8 5) true).isSome = true) = true ∧
    meets live .qCreate (pkt .qCreate 0 0 (le32 0xFFFFE ++ [2, 0, 1, 63] ++ le64 0x1000 ++ le32 7679 ++ zeros 12))
      (fun c d => (if c.u32 0 = 0xFFFFF then d.lowestQid else some (c.u32 0)) = some 0xFFFFE ∧
        (if c.u8 4 = 6 then some 0x1FFF else if c.u32 16 = 0xFFFFFFFF then d.lowestDoorbell c.env.fn else some (c.u32 16)) = some 7679 ∧
        (if c.u8 6 = 1 then d.poolSpan (4096 * 2 ^ c.u8 5) else d.memSpan (4096 * 2 ^ c.u8 5) true) = some 12288) = true ∧
    meets (withRing 300 { kind := 2 }) .qDestroy (pkt .qDestroy 0 0 (le32 300)) (fun _ _ => True) = true ∧
    meets (withRing 300 { kind := 2 }) .qReset (pkt .qReset 0 0 (le32 300)) (fun c d => d.ring? (c.u32 0) = some { kind := 2 } ∧
      (d.chans.all fun x => x.2.captureRing ≠ some 300) = true ∧ d.queue.awaiting = [] ∧ d.cmd.held = []) = true ∧
    (withRing 300 { kind := 2 }).reg.state ≠ .registered ∧
    meets (withRing 300 { kind := 2 }) .qBind (pkt .qBind 0 (onCh 0) (le32 300 ++ le32 0xFFFFF)) (fun _ _ => True) = true := by
  decide +kernel

theorem witness_ImpositorCommandsComplete :
    meets live .imModel (pkt .imModel 0 (onCh 511) (le16 511 ++ [63, 31, 0, 2, 0, 0] ++ val 1 1 ++ zeros 4 ++ val 4 5 ++ zeros 8 ++ val 12 1 ++ zeros 96))
      (fun _ _ => True) = true ∧
    meets sensorDev .imSensor (pkt .imSensor 0 (onZone 63) ([1, 1] ++ le16 3 ++ zeros 12)) (fun c _ => c.u8 1 = 1) = true ∧
    meets live .imSensor (pkt .imSensor 0 (onZone 63) ([1, 0] ++ le16 3 ++ zeros 12))
      (fun c d => c.u8 1 ≠ 1 ∧ ((d.zone c.idx).sensors.any fun x => x.kind == c.u8 0 && x.index == c.u16 2) = false ∧
        aSensor = { aSensor with kind := c.u8 0, index := c.u16 2, trip := c.f32 12, offset := some (c.f32 8) } ∧ c.u8 0 ≠ 0) = true ∧
    meets sensorDev .imSensor (pkt .imSensor 0 (onZone 63) ([1, 0] ++ le16 3 ++ zeros 12))
      (fun c d => c.u8 1 ≠ 1 ∧ ((d.zone c.idx).sensors.any fun x => x.kind == c.u8 0 && x.index == c.u16 2) = true) = true ∧
    meets live .imPolicy (pkt .imPolicy 0 (onCh 0) (val 1 1000)) (fun c _ => c.scope = 1) = true ∧
    meets live .imPolicy (pkt .imPolicy 0 0 ([1, 0, 0, 0] ++ val 5 1 ++ val 20 1 ++ val 1 1)) (fun c _ => c.scope = 0) = true ∧
    meets memberDev .imPolicy (pkt .imPolicy 0 (onZone 0) ([0, 0, 1, 1] ++ zeros 4 ++ le16 2 ++ zeros 54)) (fun c _ => c.scope = 3) = true := by
  decide +kernel

theorem witness_CalibrationCommandsComplete :
    meets live .calCommit (pkt .calCommit 0 (onCh 0) [])
      (fun c d => c.opf = 0 ∧ (d.stepTest (d.calTargets c)).2.2 = false ∧ (d.chan (d.calLead c)).cal.commit = none) = true ∧
    meets live .calCommit (pkt .calCommit 16 (onCh 0) []) (fun c d => c.opf = 1 ∧ (d.chan (d.calLead c)).cal.commit = none) = true ∧
    meets waitingDev .calCommit (pkt .calCommit 0 (onCh 0) [])
      (fun c d => c.opf = 0 ∧ (d.stepTest (d.calTargets c)).2.2 = false ∧ (d.chan (d.calLead c)).cal.commit = some oldCommit) = true ∧
    meets waitingDev .calCommit (pkt .calCommit 16 (onCh 0) []) (fun c d => c.opf = 1 ∧ (d.chan (d.calLead c)).cal.commit = some oldCommit) = true ∧
    meets calFixedDev .calWrite (pkt .calWrite 0 (onCh 0) ([0, 0, 0, 0] ++ val 1 1 ++ zeros 16 ++ val 25 1)) (fun _ _ => True) = true ∧
    meets live .calPersist (pkt .calPersist 0 (onCh 0) []) (fun _ _ => True) = true := by
  decide +kernel

theorem witness_EdgeCommandsComplete :
    meets live .tsWrite (pkt .tsWrite 0 0 ([15, 0, 0, 0] ++ le32 0 ++ zeros 4)) (fun _ _ => True) = true ∧
    meets live .trigConfig (pkt .trigConfig 16 (onIdx 63) []) (fun c _ => c.opf = 1) = true ∧
    meets live .trigConfig (pkt .trigConfig 32 (onIdx 63) []) (fun c _ => c.opf = 2) = true ∧
    meets live .monStatus (pkt .monStatus 0 (onIdx 63) []) (fun c _ => c.opf = 0) = true ∧
    meets live .monStatus (pkt .monStatus 16 (onIdx 63) []) (fun c _ => c.opf = 1) = true ∧
    meets live .axdWrite (pkt .axdWrite 0 0 (le16 0x8001 ++ [3, 15] ++ le32 0x3FFFF ++ le16 0xFFFF ++ zeros 2)) (fun _ _ => True) = true ∧
    meets live .axdStrobe (pkt .axdStrobe 0 0 (le32 0x8001)) (fun _ _ => True) = true := by
  decide +kernel

theorem witness_RegistrationCommandsComplete :
    meets live .regJoin (pkt .regJoin 0 0 (join 0)) (fun c d => c.u8 0 = 0 ∧ ([0, 1, 2, 3, 4, 5].all fun k => !(d.port k).up) = true) = true ∧
    meets live .regJoin (pkt .regJoin 0 0 (join 1)) (fun c _ => c.u8 0 = 1) = true ∧ live.reg.state ≠ .registered ∧
    meets { live with reg := { state := .joining, id := none } } .regJoin (pkt .regJoin 0 0 (join 2)) (fun c _ => c.u8 0 = 2) = true ∧
    meets live .regSkew (pkt .regSkew 0 0 ([63, 0, 0, 0] ++ le32 32 ++ le32 0xFFFFFFE0 ++ zeros 16)) (fun _ _ => True) = true ∧
    meets live .regArmAt (pkt .regArmAt 0 (onIdx 15) (le64 0 ++ le32 1 ++ [1, 0, 0, 0])) (fun c _ => bit (c.u8 12) 2 = false ∧ bit (c.u8 12) 3 = false) = true ∧
    meets live .regArmAt (pkt .regArmAt 0 (onIdx 15) (le64 0 ++ le32 0 ++ [8, 0, 0, 0])) (fun c _ => bit (c.u8 12) 2 = false ∧ bit (c.u8 12) 3 = true) = true ∧
    meets memberDev .regArmAt (pkt .regArmAt 0 (onIdx 15) (le64 300000 ++ le32 1 ++ [4, 0, 0, 0]))
      (fun c _ => bit (c.u8 12) 2 = true ∧ bit (c.u8 12) 3 = false) = true ∧
    meets memberDev .regArmAt (pkt .regArmAt 0 (onIdx 15) (le64 300000 ++ le32 0 ++ [12, 0, 0, 0]))
      (fun c _ => bit (c.u8 12) 2 = true ∧ bit (c.u8 12) 3 = true) = true := by
  decide +kernel

theorem witness_FaultAndMemoryCommandsComplete :
    meets live .fltClear (pkt .fltClear 0 0 (le64 (2 ^ 63))) (fun _ _ => True) = true ∧
    meets trainingDev .memDelays (pkt .memDelays 16 0 ([4, 0, 0, 0] ++ le32 0x42000000 ++ [1, 0, 0, 0] ++ zeros 116 ++ [0, 80, 0, 0])) (fun c _ => c.opf = 1) = true ∧
    meets trainingDev .memScan (pkt .memScan 0 0 (le32 16)) (fun c _ => c.u32 0 ≠ 0) = true ∧
    meets live .memScan (pkt .memScan 0 0 (le32 0)) (fun c _ => c.u32 0 = 0) = true ∧
    meets standbyDev .memFreq (pkt .memFreq 0 0 (val 16 1)) (fun _ d => d.mem.jobs = []) = true ∧
    meets scanningDev .memFreq (pkt .memFreq 0 0 (val 16 1)) (fun _ d => d.mem.jobs ≠ []) = true ∧
    meets live .memRetire (pkt .memRetire 0 0 ([0, 4] ++ zeros 6)) (fun c _ => c.u8 0 = 0) = true ∧
    meets (live.setMemDev 4 { state := .retired }) .memRetire (pkt .memRetire 0 0 ([1, 4] ++ zeros 6)) (fun c _ => c.u8 0 = 1) = true ∧
    meets live .memRetire (pkt .memRetire 0 0 ([2, 4] ++ le16 31 ++ le32 32751)) (fun c _ => c.u8 0 = 2) = true ∧
    meets live .memRead (pkt .memRead 0 0 (le64 0 ++ le32 64))
      (fun c d => ((stripesOf (c.u64 0) (c.u32 8)).any fun k => d.mem.poisoned.contains k) = false) = true ∧
    meets live .memWrite (pkt .memWrite 0 0 (le64 0x4000000 ++ zeros 64)) (fun _ _ => True) = true := by
  decide +kernel

theorem witness_LifecycleCommandsComplete :
    meets standbyDev .lcAdvance (pkt .lcAdvance 0 0 ([2, 0, 0, 0] ++ le32 0x5A5A0002)) (fun _ _ => True) = true ∧
    meets { live with mode := { live.mode with updStaged := true } } .updSwitch (pkt .updSwitch 0 0 [1, 0, 0, 0]) (fun _ _ => True) = true ∧
    meets live .updStage (pkt .updStage 0 0 (le32 0 ++ le32 4096 ++ zeros 8))
      (fun c _ => c.u32 0 = 0 ∧ 4096 = c.u32 4 ∧ (c.par.drop 8).length < 4096) = true ∧
    meets live .prfEnter (pkt .prfEnter 0 0 (zeros 144)) (fun _ _ => True) = true ∧
    meets proofDev .prfExit (pkt .prfExit 0 0 []) (fun _ _ => True) = true := by
  decide +kernel

/-- `live` with one virtual function, and the packet that gives it a resource (for a ring quota: of 10 rings). -/
def vfDev : Device := { live with numVFs := 1 }
def assignPkt (op : Op) (i : Nat) : Packet :=
  pkt op 8 (match op with | .imZone | .imRail => onZone i | .chStrobe => onGroup i | .chConfig => onCh i | _ => onIdx i)
    (le32 1 ++ (if op = .qCreate then le32 10 else []))

/-- A packet with ASSIGN starts at once and its checks pass. -/
def meetsAssign (d : Device) (op : Op) (p : Packet) : Bool :=
  match d.ring? p.qid.toNat with
  | none => false
  | some r =>
    let x := d.takenBy op p r
    let c := d.commandOf op p r
    d.running && d.cmd.held.isEmpty && (r.kind == 0 && r.fn == p.fn.val && !r.halt) && d.ringSound p.qid.toNat &&
      ((d.arrived p).holds op p.fn.val p.qid.toNat p.body []).isNone && (firstFail (x.headChecks op c p.body (bodyLengthOk p.body))).isNone &&
      !decide ((d.arrived p).time.now < c.nb) && c.assign && (firstFail (x.stateChecks op c)).isNone && (runAssign op c x).1.good

theorem witness_LinkAndAssignCommandsComplete :
    meets searchDev .elSkew (pkt .elSkew 0 (onCh 0) (le32 320)) (fun c d => (d.link c.idx).state ≠ .up ∧ (d.link c.idx).rts ≠ []) = true ∧
    meets live .elSkew (pkt .elSkew 0 (onCh 0) (le32 320)) (fun _ _ => True) = true ∧ live.reg.state ≠ .registered ∧
    meets live .elReset (pkt .elReset 16 (onCh 511) []) (fun c d => c.opf = 1 ∧ (d.link c.idx).state ≠ .up ∧ d.edge.write = none) = true ∧
    meets live .elReset (pkt .elReset 16 (onCh 0) []) (fun c _ => c.opf = 1) = true ∧
    meets (live.setLink 511 { state := .disabled }) .elReset (pkt .elReset 32 (onCh 511) [])
      (fun c d => c.opf = 2 ∧ ((d.link c.idx).state = .disabled ∨ (d.link c.idx).state = .refused)) = true ∧
    meets live .elReset (pkt .elReset 32 (onCh 0) []) (fun c d => c.opf = 2 ∧ (d.link c.idx).state ≠ .disabled ∧ (d.link c.idx).state ≠ .refused) = true ∧
    [Op.imZone, .mkRoute, .chStrobe, .axdWrite, .monConfig].all (fun op => meetsAssign vfDev op (assignPkt op 15)) = true ∧
    meetsAssign vfDev .imRail (assignPkt .imRail 287) = true ∧ meetsAssign vfDev .chConfig (assignPkt .chConfig 511) = true ∧
    meetsAssign vfDev .qCreate (assignPkt .qCreate 0) = true := by
  decide +kernel

/-- UPD_STAGE of the chunk that continues an upload passes its checks. -/
theorem updStage_good (c : Cmd) (d : Device) (u : Upload) (h1 : d.mode.updActive = false) (h2 : d.update.completing = none)
    (h3 : d.press.alt = false) (h4 : d.update.upload = some u) (h5 : c.u32 0 ≠ 0) (h6 : c.u32 0 = u.bytes.length) (h7 : c.u32 4 = u.total)
    (h8 : firstFail (updStageStatic c) = none) : (runUpdStage c d).1.good = true := by
  have h9 : (updStageStatic c).all (fun x => !x.1) = true := by
    simp only [updStageStatic, firstFail] at h8 ⊢
    split at h8
    · cases h8
    · split at h8
      · cases h8
      · simp_all
  have h10 : firstFail (updStageStatic c ++ chunkChecks c u.bytes.length u.total) = none := by
    simp only [updStageStatic, bad, List.all_cons, List.all_nil, Bool.and_true, Bool.and_eq_true, Bool.not_eq_true', Bool.or_eq_false_iff,
      decide_eq_false_iff_not] at h9
    simp only [updStageStatic, chunkChecks, firstFail, bad, List.cons_append, List.nil_append]
    have e1 : ¬ (c.u32 0 ≠ u.bytes.length) := by simp [h6]
    simp only [e1, ← h7, h9, decide_false, Bool.or_false, Bool.false_eq_true, if_false]
    simp
  unfold runUpdStage checked
  simp only [h1, h2, h3, h4, h5, if_false, h10, firstFail, no, List.cons_append, List.nil_append, Option.isSome_none]
  by_cases h : (u.bytes ++ c.par.drop 8).length < u.total
  · simp only [h, if_true]; rfl
  · simp only [h, if_false]; rfl

/-- The last chunk of an upload of 4,096 bytes, and the device that has taken it. -/
def lastChunk : Packet := pkt .updStage 0 0 (le32 4088 ++ le32 4096 ++ zeros 8)
def lastChunkCmd : Cmd := uploadDev.commandOf .updStage lastChunk ((uploadDev.ring? 0).getD {})
def lastChunkDev : Device := uploadDev.takenBy .updStage lastChunk ((uploadDev.ring? 0).getD {})

theorem witness_LastChunkCompletesTheUpload :
    (runUpdStage lastChunkCmd lastChunkDev).1.good = true ∧ lastChunkCmd.u32 0 ≠ 0 ∧
    lastChunkDev.update.upload = some { total := 4096, bytes := zeros 4088 } ∧ 4096 ≤ (zeros 4088 ++ lastChunkCmd.par.drop 8).length := by
  have hb : (zeros 4088).length = 4088 := List.length_replicate
  have hu : lastChunkDev.update.upload = some { total := 4096, bytes := zeros 4088 } := rfl
  refine ⟨updStage_good _ _ _ (by decide +kernel) (by decide +kernel) (by decide +kernel) hu (by decide +kernel) ?_ (by decide +kernel)
    (by decide +kernel), by decide +kernel, hu, ?_⟩
  · show _ = (zeros 4088).length
    rw [hb]; decide +kernel
  · rw [List.length_append, hb]; decide +kernel

/-- Two lists of checks without a failure have none together. -/
theorem firstFail_append_none {l m : List Check} (h : firstFail l = none) : firstFail (l ++ m) = firstFail m := by
  induction l with
  | nil => rfl
  | cons x l ih =>
    obtain ⟨b, s, p⟩ := x
    cases b
    · exact ih h
    · cases h

/-- A packet of CH_CONFIG and one of SET_FRAME, and their commands, on `live`. -/
def cfgPkt : Packet := pkt .chConfig 0 (onCh 0) (val 1 1 ++ val 1 100 ++ zeros 8 ++ val 1 4 ++ zeros 12 ++ [1, 0, 1] ++ zeros 13)
def framePkt : Packet := pkt .setFrame 0 0 (le32 200)
def liveRing : Ring := (live.ring? 0).getD {}
def startsOn (d : Device) (op : Op) (p : Packet) : Bool :=
  let x := d.takenBy op p liveRing
  let c := d.commandOf op p liveRing
  d.running && d.cmd.held.isEmpty && decide (d.ring? 0 = some liveRing) && d.ringSound 0 && ((d.arrived p).holds op p.fn.val 0 p.body []).isNone &&
    (firstFail (x.headChecks op c p.body (bodyLengthOk p.body))).isNone && !decide ((d.arrived p).time.now < c.nb) && !c.assign &&
    (firstFail (x.stateChecks op c)).isNone

/-- With the fabric's limit (R22, log 4) holding for N, a plant section and a new N pass their checks. -/
theorem witness_chConfig (h : Config.fabricFits 100 = true) : startsOn live .chConfig cfgPkt = true ∧
    (runChConfig (live.commandOf .chConfig cfgPkt liveRing) (live.takenBy .chConfig cfgPkt liveRing)).1.good = true := by
  refine ⟨by decide +kernel, ?_⟩
  unfold runChConfig checked
  extract_lets x after
  rw [show ∀ a b c : List Check, ∀ x y z w : Check, a ++ b ++ c ++ [x, y, z, w] = (a ++ b ++ c ++ [x, y, z]) ++ [w] from by simp]
  rw [firstFail_append_none (by decide +kernel)]
  have hn : (live.takenBy .chConfig cfgPkt liveRing).time.n = 100 := by decide +kernel
  rw [hn]
  simp only [firstFail, no, h]; rfl

theorem witness_setFrame (h : Config.fabricFits 200 = true) : startsOn live .setFrame framePkt = true ∧
    (runSetFrame (live.commandOf .setFrame framePkt liveRing) (live.takenBy .setFrame framePkt liveRing)).1.good = true := by
  refine ⟨by decide +kernel, ?_⟩
  unfold runSetFrame checked Device.setFrameChecks
  rw [show ∀ a b : List Check, ∀ x y z w : Check, a ++ b ++ [x, y, z, w] = (a ++ b ++ [x, y]) ++ ([z] ++ [w]) from by simp]
  rw [firstFail_append_none (by decide +kernel)]
  have hn : (live.commandOf .setFrame framePkt liveRing).u32 0 = 200 := by decide +kernel
  rw [hn, firstFail_append_none (by simp [firstFail, no, h])]
  rw [show firstFail [badAny ((List.range 16).any fun s => (tsFault ((live.takenBy .setFrame framePkt liveRing).tsWord s) 200).isSome)] = none from
    by decide +kernel]
  cases h0 : (live.commandOf .setFrame framePkt liveRing).atNow <;> simp [Ans.good]

/-- A device in STANDBY with an empty CAPTURE ring of 4 MiB. -/
def captureDev : Device := standbyDev.setRing 300 { kind := 3, size := 10 }
def retPkt : Packet := pkt .retRecord 0 0 (le32 300)
def retCmd : Cmd := captureDev.commandOf .retRecord retPkt liveRing
def retTaken : Device := captureDev.takenBy .retRecord retPkt liveRing

/-- The size of a section's packets. -/
def packetsSize (l : List (List Byte)) : Nat := (l.map fun b => b.length + 8).sum

theorem packetsSize_append (l m : List (List Byte)) : packetsSize (l ++ m) = packetsSize l + packetsSize m := by simp [packetsSize]

theorem packetsSize_parts (t T : Nat) : ∀ (k p : Nat) (l : List Byte), packetsSize (sectionParts t T k p l) ≤ l.length + 24 * k
  | 0, _, _ => by simp [sectionParts, packetsSize]
  | k + 1, p, l => by
    unfold sectionParts
    split
    · simp [packetsSize, le16, le32, leBytes, zeros]; omega
    · have h := packetsSize_parts t T k (p + 1) (l.drop 65520)
      have hm : min 65520 l.length = 65520 := by omega
      rw [List.length_drop] at h
      simp only [packetsSize, List.map_cons, List.sum_cons] at h ⊢
      generalize ((sectionParts t T k (p + 1) (l.drop 65520)).map fun b => b.length + 8).sum = q at h ⊢
      simp [le16, le32, leBytes, zeros, hm]
      omega

theorem packetsSize_section (t : Nat) (l : List Byte) : packetsSize (sectionBodies t l) ≤ 2 * l.length + 24 := by
  have h := packetsSize_parts t l.length (l.length / 65520 + 1) 0 l
  unfold sectionBodies
  omega

theorem foldl_sizes : ∀ (l : List (List Byte)) (n : Nat), l.foldl (fun s b => s + b.length) n + 8 * l.length = n + packetsSize l
  | [], n => by simp [packetsSize]
  | b :: l, n => by
    have h := foldl_sizes l (n + b.length)
    simp only [packetsSize, List.foldl_cons, List.map_cons, List.sum_cons, List.length_cons] at h ⊢
    omega

theorem flatten_length {α : Type} (c : Nat) (f : α → List Byte) : ∀ l : List α, (∀ x ∈ l, (f x).length = c) → ((l.map f).flatten).length = l.length * c
  | [], _ => by simp
  | x :: l, h => by
    have h1 := flatten_length c f l fun y hy => h y (List.mem_cons_of_mem _ hy)
    rw [List.map_cons, List.flatten_cons, List.length_append, h x (List.mem_cons_self ..), h1, List.length_cons, Nat.succ_mul, Nat.add_comm]

theorem leBytes_length : ∀ n v, (leBytes n v).length = n
  | 0, _ => rfl
  | n + 1, v => by simp [leBytes, leBytes_length n]

theorem zeros_length (n : Nat) : (zeros n).length = n := List.length_replicate

theorem padTo_length (n : Nat) (l : List Byte) : (padTo n l).length = n := by simp [padTo, zeros]; omega

theorem returnStatus_length (d : Device) : d.returnStatus.length = 4 + 8 + 256 + 16 + 664 * 4 := by
  unfold Device.returnStatus
  rw [List.length_append, flatten_length 4 (fun i => le32 _) _ fun x _ => leBytes_length 4 _]
  simp [Device.readyBytes, Device.lcStatus, le32, le64, leBytes_length, zeros_length]

theorem returnMap_length (d : Device) : d.returnMap.length = 5 + 5 * 8192 + 9 + 1 + 512 := by
  unfold Device.returnMap
  simp only [List.length_append, flatten_length 8192 _ _ fun x _ => padTo_length 8192 _]
  simp [leBytes_length, channels]

theorem colophon_length (d : Device) : d.colophon.length = 512 := by
  unfold Device.colophon Device.colophonHead
  simp only [List.length_append, serial, factoryBytes, List.length_map, List.length_range, le16, le32, leBytes_length, zeros_length,
    List.length_cons, List.length_nil]
  cases d.otp.customer <;> simp only [List.length_map, List.length_range, zeros_length]

/-- With an empty journal the record is of 45 kilobytes. -/
theorem returnBodies_size (d : Device) (hj : (d.flash.journal.map (·.2)).flatten = []) : packetsSize d.returnBodies ≤ 4194304 := by
  have h1 := packetsSize_section 1 d.colophon
  have h2 := packetsSize_section 2 d.returnStatus
  have h3 := packetsSize_section 3 d.returnMap
  have h4 := packetsSize_section 4 (d.flash.journal.map (·.2)).flatten
  rw [colophon_length] at h1
  rw [returnStatus_length] at h2
  rw [returnMap_length] at h3
  rw [hj] at h4
  unfold Device.returnBodies
  simp only [packetsSize_append, hj]
  refine Nat.le_trans (Nat.add_le_add (packetsSize_section 0 _) (Nat.add_le_add (Nat.add_le_add (Nat.add_le_add h1 h2) h3) h4)) ?_
  simp [le32, le64, leBytes_length]

theorem retRecord_good (c : Cmd) (d : Device) (r : Ring) (hq : firstFail (d.qCheck c 0 false) = none) (hr : d.ring? (c.u32 0) = some r)
    (hk : r.kind = 3) (hn : d.ret.isSome = false) (hs : packetsSize d.returnBodies ≤ r.z - r.level) : (runRetRecord c d).1.good = true := by
  have hf := foldl_sizes d.returnBodies 0
  have hd : decide (r.z - r.level < 0 + packetsSize d.returnBodies) = false := by simp; omega
  unfold runRetRecord checked
  simp only [firstFail_append_none hq, hr, hn, firstFail, bad, no]
  rw [hf, hd]
  simp only [hk]
  rfl

/-- RET_RECORD is accepted there. -/
theorem witness_retRecord : startsOn captureDev .retRecord retPkt = true ∧ (runRetRecord retCmd retTaken).1.good = true :=
  ⟨by decide +kernel, retRecord_good _ _ { kind := 3, size := 10 } (by decide +kernel) (by decide +kernel) rfl (by decide +kernel)
    (Nat.le_trans (returnBodies_size _ (by decide +kernel)) (by decide +kernel))⟩

/-! ### Devices and cells for the witnesses of the events -/

def heldDev : Device := { live with mode := { phase := .held } }
def bringDev : Device := { live with mode := { phase := .bringUp }, ready := { live.ready with region := 2 ^ 63 - 1 } }
def fieldDev : Device := { live with otp := { lc := 2 } }
def bareDev : Device := { live with links := [] }
/-- Channel `i` of `live` with a record. -/
def chanDev (i : Nat) (c : Chan) : Device := live.setChan i c
def busyDev (j : Nat) : Device := live.setChan (8 * j) { loop := { done := false } }
def aResult : Entry := { ch := 0, ring := 300, bytes := [], frames := 2 }
def drainDev : Device := (withRing 300 { kind := 2 }).setSlot 0 { drain := [aResult] }
def aNop (nb : Nat) : Waiting := { op := .nop, cmd := { live.commandOf .nop (pkt .nop 0 0 []) {} with nb := nb } }
def aWaitDev (nb : Nat) : Device :=
  let d := { bareDev with cmd := { waiting := [aNop nb] } }
  { d with mode := { d.mode with word := d.modeStatus } }
def aWant : RWant := { quantity := 0, target := 1, source := .command }
def aChange (j : Nat) : RChange := { want := aWant, old := 0, new := 1, b := 5, mkN := 2, m := 8, j := j }
/-- Channel 0 running its forme, a walk of kind `k` due; a WAIT for event 7 in progress since frame 5. -/
def walkDev (k : Nat) : Device :=
  live.setChan 0
    { cfg := { func := 1 }, arm := .armed
      seq := { state := .running, image := image2, total := 272, span := some { kind := .hold none, word := 0, start := 5, len := some 2 }
               walkDue := k, walkAt := 9, pc := 1 } }
/-- Where that walk ends. -/
def walked (k : Nat) : WalkSt :=
  let d := walkDev k
  let x := (d.chan 0).seq
  (walkRun (d.word 0) (if k = 1 then d.branchCond 0 x.walkAt x.walkFlags else d.branchCond 0 d.time.frame (d.walkConds 0)) 257
    { pc := x.pc, lc := x.lc, va := x.va, stack := x.stack, effects := [], admitted := none }).getD
    { pc := 0, lc := [], va := [], stack := [], effects := [], admitted := none }
def waitSpan : Span := { kind := .wait 7 false 3 0, word := 0, start := 5 }
def waitDev : Device := live.setChan 0 { seq := { state := .running, image := image2, total := 272, span := some waitSpan } }
def eventDev : Device := { waitDev with events := [{ ev := 7, stamp := 159000, visible := 10, win := 159000 }] }
def aProfile : Profile := { binLen := 1, len := 1, bins := [], load := 0 }
def deferSpan : Span := { kind := .hold none, word := 0, start := 12, request := some 4, next := 1 }
def aRequest : Request := { id := 4, ch := 0, cls := 0, latch := 0, planned := 12, eligible := 5, profile := aProfile, timedOut := true }
def deferDev : Device :=
  { live.setChan 0 { seq := { state := .running, image := image2, total := 272, queue := [deferSpan] } } with
    imp := { requests := [aRequest] } }
/-- Segment 7, STORED and complete, its one line in main memory; channel 0 plays it. -/
def storedSeg : Segment := { seg 0 with state := 1, len := 24, blocks := [65536] }
def galleyDev (retry : Bool) : Device :=
  let d := (withSeg storedSeg).storeLines storedSeg 0 [line0]
  d.setChan 0 { seq := { state := .running, span := some { kind := .play 7 0 0, word := 0, start := 11 }, retry := retry } }
def aFit (lost : Bool) : Nat × List (Nat × Rat) × Rat × Bool := (0, [], 25, lost)
def brokenSensor : Sensor := { aSensor with broken := true, validSince := some 0 }
def sensorsDev : Device :=
  { live.setZone 63 { sensors := [brokenSensor] } with time := { live.time with now := 10 * secUnits } }
def aMeasure : Measure := { env := anEnv, k := 2, taken := 2, sumV := 3, sumI := 1, valid := 2 }
def aMigration : Migration := { slot := 0, engine := 64, env := anEnv, passed := false }
/-- Link 0 of `live` with a record changed. -/
def linkDev (f : Link → Link) : Device := live.onLink 0 f
def asked (m : MgmtReq) (n : Nat) : Option Outstanding := some { msg := m, attempts := n, sentAt := 9 }
def monDev (b u : Bool) : Device := live.setMon 63 { live := b, latch := b, unsettled := u, edgeMode := false, evEn := true, protEn := true, protSet := 1, blank := 1 }
/-- The same in timing set 0 with a blanking window over the first 2^23 tick units after the boundary. -/
def blankDev (b : Bool) : Device :=
  let d := monDev b false
  { d with edge := { d.edge with sets := [(0, [(784, 0), (785, 2 ^ 23)])] } }
def zoneDev : Device := live.setZone 63 { enabled := true, theta := 90, sum := 180, cnt := 2 }
def railDev : Device := { live with imp := { rails := [(31, { enabled := true, d := 150, sum := 300, cnt := 2 })] } }
def readings : List Reading := List.replicate 48 { value := 480, ok := true }

/-! Cells between devices -/

def cellOf (ty : Nat) (bcast : Bool) (origin dest : Nat) (words : List Word64) : Cell :=
  { header := mkHeader ty 3 words.length bcast origin dest 7 1 true, words := words, crcOk := true }
def portInfo : NeighborInfo :=
  { id := some 0, state := 3, port := 1, n := 4, m := 1, e := 26, timekeeper := 0, frames := 100, sysTime := 0, mark := 0, path := 0 }
def upPort : ZPort := { up := true, last := some portInfo }
/-- `live` and `memberDev` with port 0 (or 5) UP. -/
def portDev (p : Nat) : Device := live.setPort p upPort
def meshDev : Device := memberDev.setPort 0 upPort
def masterDev : Device := { meshDev with reg := { meshDev.reg with timekeeper := true, id := some 0, generate := true } }
def joinerDev : Device :=
  { meshDev with reg := { meshDev.reg with state := .joining, id := none, tkId := none, parent := some 0, neighborSince := some 0 } }
def driverDev : Device := { live with reg := { state := .joining, timekeeper := true, generate := true, id := some 0, e := 26 } }
def markDev : Device :=
  { driverDev with
    reg := { driverDev.reg with state := .registered }
    time := { live.time with now := 2 ^ 26 * 160, tick := 2 ^ 26 * 160 - 200, frame := 671088 } }
/-- A zone's share at its owner (device 2 contributes) and at a contributor (device 0 owns). -/
def aContrib : Contrib := { dev := 2 }
def ownerDev : Device := { meshDev with imp := { shares := [(5, { role := 1, contrib := [aContrib] })] } }
def silentDev : Device := { ownerDev with time := { ownerDev.time with now := 2000000 } }
def shareRec : Share := { role := 2, ownerDev := 0, ownerIdx := 5 }
def contribDev : Device := { meshDev with imp := { shares := [(5, shareRec)] } }
def owedRequest : Request := { aRequest with owner := some 0, timedOut := false }
def grantDev : Device := { contribDev with imp := { contribDev.imp with requests := [owedRequest] } }
def aSent : Awaiting := { qid := 300, pnum := 1, bytes := zeros 8, entries := 1, sends := 1, sentAt := 160000 }
def peerRing : Ring := { kind := 6, headA := 8, headB := 8, packets := 1, lost := 2 }
def peerDev : Device := { meshDev with queue := { rings := [(300, peerRing)], awaiting := [aSent] } }
def lastSent : Awaiting := { aSent with sends := 3 }
def peerLastDev : Device := { peerDev with queue := { peerDev.queue with awaiting := [lastSent] } }

/-! The host, memory, lifecycle and faults -/

def bellRing (k : Nat) : Ring := { kind := k, fn := 0, doorbell := 9, headA := 16, headB := 16 }
def bellDev (k : Nat) : Device := live.setRing 300 (bellRing k)
def bell (q p : Nat) : Word64 := BitVec.ofNat 64 (p + q * 2 ^ 32)
def aSlot : FastPending := { fn := 63, slot := 63, takeAt := 160900 }
def slotDev : Device := { live with fast := [aSlot], fastLast := 160900 }
def adminDev : Device :=
  { live with fns := [(63, { adminEn := true, cmdAddr := 0x10000, rplAddr := 0x20000, evtAddr := 0x30000 })], queue := {}, mem := { live.mem with poolSpans := [] } }
def smbDev : Device := { live with aon := { live.aon with force := true } }
def offDev : Device := { live with aon := {} }
def freqJob : FreqJob := { rate := 16, running := true, env := anEnv }
def freqDev : Device := { live with mem := { live.mem with rate := 16, freq := some freqJob } }
def rebuildDev : Device := live.setMemDev 4 { state := .rebuilding }
def aCopy : RowCopy := { bank := 31, row := 100, spare := 32752, started := true }
def copyDev : Device := live.setMemDev 4 { state := .inService, copies := [aCopy] }
def retiredDev : Device := live.setMemDev 4 { state := .retired }
def idleDev : Device := live.setMemDev 4 { state := .inService, banks := [(31, { page := 3, last := some 5, openRow := some 5 })] }
def hotDev : Device := { live with imp := { die := { state := 2, temp := 120 } } }
def wipeDev : Device := { live with mode := { phase := .wipe, wipeTarget := 3 } }
def anImage : Upload := { total := 20, bytes := le32 0 ++ le32 0 ++ le32 0x00010002 ++ le32 1 ++ le32 1 }
def stagedDev : Device := { live with press := { live.press with version := 2 }, update := { upload := some anImage, completing := some anEnv } }
def switchDev : Device := { live with mode := { live.mode with update := true, updActive := true, updStaged := true }, update := { stagedVersion := 3, stagedSecurity := 1, persist := true } }
def retJob : RetJob := { ring := 300, env := anEnv, len := 8, crc := 0 }
def retDev : Device := { live with ret := some retJob }
def anError : ErrEvent := { bit := 62, unit := 0, check := 10, real := true, inj := false, fedBy := none, ch := none, region := 0, word := .other }
def fedError : ErrEvent := { anError with bit := 4, unit := 1, fedBy := some (.engine 33) }
def aShadow : Shadow := { block := .engine 33, cause := 1, until_ := none }
def shadowDev : Device := { live with flt := { shadows := [aShadow], conseq := [(fedError, 1)] } }
def aRecord : JRec := { kind := 1, mode := 4, lc := 1, pfBit := 62, stamp := 0, event := 1, cause := 0, errWord := 0, dieTemp := 400, boot := 1, payload := zeros 24 }
def journalDev : Device := { live with aon := { live.aon with jbuf := [aRecord] }, flash := { jcount := 2047 } }
def fullDev : Device := { journalDev with flash := { jcount := 65536, journal := [(0, [])] } }
def queuedErase : Erase := { sector := 0x202, running := false }
def runningErase : Erase := { sector := 0x241, running := true }
def latchedOf (r : Nat) : Latched := { ev := { anError with bit := 48, ch := some 0 }, id := 1, stamp := 160050, reaction := r, pf := 48 }
def reactDev (r : Nat) : Device := { armedDev with flt := { latched := [latchedOf r] } }

theorem receives_of {d : Device} {p : Port} {c : Cell} {ty : Nat}
    (h : (d.zhepinOn && c.crcOk && c.isType ty && (d.port p.val).failed.isNone) = true) : d.Receives p c ty := by
  simp only [Bool.and_eq_true, Option.isNone_iff_eq_none] at h
  exact ⟨h.1.1.1, h.1.1.2, h.1.2, h.2⟩

theorem addressed_of {d : Device} {p : Port} {c : Cell} {ty : Nat}
    (h : (d.zhepinOn && c.crcOk && c.isType ty && (d.port p.val).failed.isNone) = true)
    (h2 : ((d.port p.val).up && !c.bcast && decide (d.reg.id = some c.dest)) = true) : d.Addressed p c ty := by
  simp only [Bool.and_eq_true, Bool.not_eq_true', decide_eq_true_eq] at h2
  exact { receives_of h with up := h2.1.1, single := h2.1.2, mine := h2.2 }

theorem broadcasts_of {d : Device} {p : Port} {c : Cell} {ty : Nat}
    (h : (d.zhepinOn && c.crcOk && c.isType ty && (d.port p.val).failed.isNone) = true)
    (h2 : ((d.port p.val).up && c.bcast && d.reg.seen.isEmpty && decide (d.portsUp = [p.val])) = true) : d.Broadcasts p c ty := by
  simp only [Bool.and_eq_true, List.isEmpty_iff, decide_eq_true_eq] at h2
  exact { receives_of h with up := h2.1.1.1, all := h2.1.1.2, new := by simp [h2.1.2], alone := h2.2 }

/-- What holds of the default and of every entry holds of every key. -/
theorem tabGet_all {α : Type} {p : α → Prop} {d : α} (h0 : p d) : ∀ {t : Tab α}, (∀ x ∈ t, p x.2) → ∀ k, p (tabGet d t k)
  | [], _, _ => h0
  | (i, v) :: t, h, k => by
    unfold tabGet
    split
    · exact h (i, v) (List.mem_cons_self ..)
    · exact tabGet_all h0 (fun x hx => h x (List.mem_cons_of_mem _ hx)) k

/-- A member whose parent's exchanges are 4,096 of offset 0, one tick unit of a slew outstanding. -/
def slewDev : Device :=
  { meshDev with reg := { meshDev.reg with parent := some 0, frac := 16, ports := [(0, { upPort with theta := List.replicate 4096 0 })] } }

theorem foldl_zeros : ∀ n : Nat, (List.replicate n (0 : Int)).foldl (· + ·) 0 = 0
  | 0 => rfl
  | n + 1 => by simpa [List.replicate_succ] using foldl_zeros n

theorem meanStamp_zeros (n : Nat) : meanStamp (List.replicate n (0 : Int)) = 0 := by
  unfold meanStamp
  rw [foldl_zeros]
  split
  · rfl
  · simp [Rat.div_def]

theorem slew_long : 4096 ≤ (slewDev.port 0).theta.length :=
  Nat.le_of_eq (List.length_replicate (n := 4096) (a := (0 : Int))).symm

theorem slew_far : 1 / 2 ≤ ratAbs ((slewDev.port 0).thetaF + (slewDev.reg.frac : Rat) / 16) := by
  rw [show (slewDev.port 0).thetaF = 0 from meanStamp_zeros 4096]
  decide +kernel

/-! ### Witnesses of the hypotheses of the statements about events -/

theorem witness_PowerAndResetEventsAct :
    (∃ (s : State), s.dev.mode.phase = .off) ∧
    (∃ (s : State) (i : Instr) (t : _), (i = .porstNAssert t ∨ i = .warmRstNAssert t ∨ ∃ pg, i = .pgFall pg t) ∧ s.dev.running = true) ∧
    (∃ (s : State), s.dev.running = true) ∧
    (∃ (s : State), s.dev.mode.phase = .held) :=
  ⟨⟨{ dev := {} }, by decide +kernel⟩,
    ⟨{ dev := live }, .pgFall 3 160200, 160200, Or.inr (Or.inr ⟨3, rfl⟩), by decide +kernel⟩,
    ⟨{ dev := live }, by decide +kernel⟩,
    ⟨{ dev := heldDev }, by decide +kernel⟩⟩

theorem witness_ReadinessEventsSetTheirBits :
    (∃ (s : State) (b : Fin 22), s.dev.cmd.held = [] ∧ s.dev.running = true ∧ (b.val = bPCIE → s.dev.aon.perstHigh = true)) ∧
    (∃ (s : State), s.dev.cmd.held = [] ∧ s.dev.running = true) ∧
    (∃ (s : State), s.dev.cmd.held = [] ∧ s.dev.running = true ∧ s.dev.resets = []) ∧
    (∃ (s : State), s.dev.cmd.held = [] ∧ s.dev.running = true) ∧
    (∃ (s : State), s.dev.cmd.held = [] ∧ s.dev.running = true) ∧
    (∃ (s : State), s.dev.cmd.held = [] ∧ s.dev.running = true ∧ s.dev.resets = []) ∧
    (∃ (s : State) (b : Fin 22), s.dev.cmd.held = [] ∧ s.dev.running = true ∧ b.val ≠ 16 ∧ b.val ≠ 17) ∧
    (∃ (s : State) (r : Fin 64), s.dev.cmd.held = [] ∧ s.dev.mem.outOfService = false ∧ s.dev.blk bMEMCTL = true ∧ s.dev.mode.phase = .bringUp ∧
      (r.val = 0 ∨ bit (s.dev.ready.region ||| s.dev.ready.regionNext) (r.val - 1) = true)) ∧
    (∃ (s : State) (m : Fin 5), s.dev.cmd.held = [] ∧ s.dev.running = true ∧ (s.dev.memDev m.val).state = .training ∧
      (s.dev.memDev m.val).scanning = none ∧ s.dev.mem.freq = none ∧ s.dev.mem.jobs = [] ∧ s.dev.mem.restores = []) ∧
    (∃ (s : State) (m : Fin 5), s.dev.cmd.held = [] ∧ s.dev.running = true ∧ (s.dev.memDev m.val).state = .training ∧
      (s.dev.memDev m.val).scanning = none ∧ s.dev.mem.freq = none ∧ s.dev.mem.jobs = [] ∧ s.dev.mem.restores = [] ∧
      (∀ k, k ≠ m.val → (s.dev.memDev k).state ≠ .retired ∧ (s.dev.memDev k).state ≠ .rebuilding)) :=
  ⟨⟨{ dev := live }, 21, by decide +kernel⟩,
    ⟨{ dev := live }, by decide +kernel⟩,
    ⟨{ dev := live }, by decide +kernel⟩,
    ⟨{ dev := live }, by decide +kernel⟩,
    ⟨{ dev := live }, by decide +kernel⟩,
    ⟨{ dev := live }, by decide +kernel⟩,
    ⟨{ dev := live }, 0, by decide +kernel⟩,
    ⟨{ dev := bringDev }, 63, by decide +kernel⟩,
    ⟨{ dev := trainingDev }, 4, by decide +kernel⟩,
    ⟨{ dev := trainingDev }, 4, by decide +kernel, by decide +kernel, by decide +kernel, by decide +kernel, by decide +kernel, by decide +kernel, by decide +kernel, fun k _ => tabGet_all (p := fun x : MemDev => x.state ≠ .retired ∧ x.state ≠ .rebuilding) (d := {}) (by decide +kernel) (by decide +kernel) k⟩⟩

theorem witness_LinkClockAndDieEventsRaiseTheirBits :
    (∃ (s : State), s.dev.running = true) ∧
    (∃ (s : State), s.dev.running = true ∧ s.dev.blk bQUEUE = true) ∧
    (∃ (s : State), s.dev.running = true ∧ s.dev.pcieUp = true) ∧
    (∃ (s : State), s.dev.running = true ∧ s.dev.pcieUp = true) ∧
    (∃ (s : State), s.dev.running = true ∧ s.dev.aon.refclk = true) ∧
    (∃ (s : State), s.dev.running = true ∧ s.dev.otp.lc ≠ 1) ∧
    (∃ (s : State), s.dev.otp.lc = 1) ∧
    (∃ (s : State), s.dev.running = true) :=
  ⟨⟨{ dev := live }, by decide +kernel⟩,
    ⟨{ dev := live }, by decide +kernel⟩,
    ⟨{ dev := live }, by decide +kernel⟩,
    ⟨{ dev := live }, by decide +kernel⟩,
    ⟨{ dev := live }, by decide +kernel⟩,
    ⟨{ dev := fieldDev }, by decide +kernel⟩,
    ⟨{ dev := live }, by decide +kernel⟩,
    ⟨{ dev := live }, by decide +kernel⟩⟩

theorem witness_FrameTickBeginsTheNextFrame :
    ∃ (s : State), s.dev.cmd.held = [] ∧ s.dev.time.running = true ∧ s.dev.chans = [] ∧ s.dev.links = [] ∧ s.dev.sched = [] ∧
      s.dev.time.setFrame = [] ∧ s.dev.migrations = [] ∧ s.dev.arms = [] ∧ s.dev.mode.pending = [] ∧ s.dev.mode.phase ≠ .bringUp ∧
      s.dev.edge.write = none ∧ s.dev.edge.pins = [] ∧ s.dev.queue.trigRecs = [] ∧ s.dev.queue.slugs = [] ∧ s.dev.reg.outEvents = [] ∧
      s.dev.imp.zones = [] ∧ s.dev.imp.rails = [] ∧ s.dev.imp.shares = [] ∧ s.dev.imp.die.next = none :=
  ⟨{ dev := bareDev }, by decide +kernel⟩

theorem witness_ComputePhasesFillTheBanks :
    (∃ (s : State) (j : Fin 64) (e : _), s.dev.cmd.held = [] ∧ s.dev.computeEngine j.val = some e ∧ s.dev.slotOpen j.val = true) ∧
    (∃ (s : State) (j : Fin 64) (e : _), s.dev.cmd.held = [] ∧ s.dev.computeEngine j.val = some e ∧ s.dev.slotOpen j.val = true ∧
      (s.dev.slot j.val).drain = [] ∧ (∀ ch ∈ slotChans j.val, s.dev.served ch = false)) ∧
    (∃ (s : State) (j : Fin 64), s.dev.cmd.held = [] ∧ (s.dev.computeEngine j.val = none ∨ s.dev.slotOpen j.val = false)) ∧
    (∃ (s : State) (ch : Fin 512) (e : _) (q : _), s.dev.cmd.held = [] ∧ (s.dev.chan ch.val).aper.ended = some e ∧
      (s.dev.chan ch.val).resultRing = some q ∧ s.dev.inStandby = false) ∧
    (∃ (s : State) (ch : Fin 512) (e : _), s.dev.cmd.held = [] ∧ (s.dev.chan ch.val).aper.ended = some e ∧ (s.dev.chan ch.val).resultRing = none) ∧
    (∃ (s : State), s.dev.cmd.held = [] ∧ s.dev.time.started = true ∧ s.dev.blk bCOLLECT = true) :=
  ⟨⟨{ dev := busyDev 63 }, 63, 63, by decide +kernel⟩,
    ⟨{ dev := busyDev 63 }, 63, 63, by decide +kernel⟩,
    ⟨{ dev := live }, 63, by decide +kernel⟩,
    ⟨{ dev := chanDev 511 { aper := { ended := some true }, resultRing := some 300 } }, 511, true, 300, by decide +kernel⟩,
    ⟨{ dev := chanDev 511 { aper := { ended := some true } } }, 511, true, by decide +kernel⟩,
    ⟨{ dev := live }, by decide +kernel⟩⟩

theorem witness_BudgetPhasesAndDeadlines :
    (∃ (s : State), s.dev.cmd.held = [] ∧ s.dev.time.started = true ∧ s.dev.blk bIMPOS = true) ∧
    (∃ (s : State), s.dev.cmd.held = [] ∧ s.dev.time.started = true ∧ s.dev.blk bIMPOS = true ∧ s.dev.chans = [] ∧ s.dev.imp.zones = [] ∧
      s.dev.imp.rails = [] ∧ s.dev.imp.shares = [] ∧ s.dev.imp.requests = []) ∧
    (∃ (s : State) (j : Fin 64) (e : _), s.dev.cmd.held = [] ∧ s.dev.computeEngine j.val = some e ∧ s.dev.slotOpen j.val = true) ∧
    (∃ (s : State) (l : Fin 512), s.dev.cmd.held = [] ∧ (s.dev.link l.val).state = .up ∧ (s.dev.link l.val).held = false) ∧
    (∃ (s : State) (l : Fin 512), s.dev.cmd.held = [] ∧ ((s.dev.link l.val).state = .search ∨ (s.dev.link l.val).state = .describe) ∧
      (s.dev.link l.val).held = false) ∧
    (∃ (s : State) (j : Fin 64) (e : _) (r : _), s.dev.cmd.held = [] ∧ s.dev.time.started = true ∧ s.dev.blk bCOLLECT = true ∧
      s.dev.queue.slugs = [] ∧ (s.dev.slot j.val).drain = [e] ∧ s.dev.ring? e.ring = some r) ∧
    (∃ (s : State), s.dev.cmd.held = [] ∧ s.dev.time.started = true ∧ s.dev.blk bIMPOS = true) :=
  ⟨⟨{ dev := live }, by decide +kernel⟩,
    ⟨{ dev := live }, by decide +kernel⟩,
    ⟨{ dev := busyDev 63 }, 63, 63, by decide +kernel⟩,
    ⟨{ dev := live }, 0, by decide +kernel⟩,
    ⟨{ dev := searchDev }, 0, by decide +kernel⟩,
    ⟨{ dev := drainDev }, 0, aResult, { kind := 2 }, by decide +kernel⟩,
    ⟨{ dev := live }, by decide +kernel⟩⟩

theorem witness_CommandsRunAtTheirNotBefore :
    (∃ (s : State), s.dev.cmd.held = [] ∧ (∀ w ∈ s.dev.cmd.waiting, s.dev.time.tick < w.cmd.nb)) ∧
    (∃ (s : State) (w : _), s.dev.cmd.held = [] ∧ s.dev.time.started = true ∧ s.dev.cmd.waiting = [w] ∧ w.op = .nop ∧ w.cmd.nb ≤ s.dev.time.tick ∧
      s.dev.chans = [] ∧ s.dev.links = [] ∧ s.dev.edge.pins = [] ∧ s.dev.mode.pending = [] ∧ s.dev.mode.word = s.dev.modeStatus) :=
  ⟨⟨{ dev := aWaitDev 160001 }, by decide +kernel⟩,
    ⟨{ dev := aWaitDev 160000 }, aNop 160000, by decide +kernel⟩⟩

theorem witness_ArmingParkingAndRangeChangesComplete :
    (∃ (s : State) (ch : Fin 512), (s.dev.chan ch.val).arm = .arming ∧
      (s.dev.chan ch.val).armFrame + (s.dev.chan ch.val).settle ≤ s.dev.time.frame + 1) ∧
    (∃ (s : State) (ch : Fin 512), (s.dev.chan ch.val).arm ≠ .arming) ∧
    (∃ (s : State) (ch : Fin 512), (s.dev.chan ch.val).arm = .softPark ∧ (s.dev.chan ch.val).rampP ≤ (s.dev.chan ch.val).rampJ ∧
      (s.dev.chan ch.val).parkPend = none) ∧
    (∃ (s : State) (ch : Fin 512), (s.dev.chan ch.val).arm ≠ .softPark) ∧
    (∃ (s : State) (ch : Fin 512) (g : _), s.dev.cmd.held = [] ∧ (s.dev.chan ch.val).range.state = .ovMake ∧
      (s.dev.chan ch.val).range.change = some g ∧ g.mkN + 1 ≤ g.j) ∧
    (∃ (s : State) (ch : Fin 512) (g : _) (x : _), s.dev.cmd.held = [] ∧ (s.dev.chan ch.val).range.state = .ovFade ∧
      (s.dev.chan ch.val).range.change = some g ∧ s.dev.desc? ch.val = some x ∧ g.mkN + 3 + g.m ≤ g.j ∧ (s.dev.chan ch.val).range.cont = none) ∧
    (∃ (s : State) (ch : Fin 512) (g : _), s.dev.cmd.held = [] ∧ (s.dev.chan ch.val).range.state = .hsHold ∧
      (s.dev.chan ch.val).range.change = some g ∧ g.m + 1 ≤ g.j ∧ (s.dev.chan ch.val).range.cont = none) :=
  ⟨⟨{ dev := chanDev 511 { arm := .arming, armFrame := 8, settle := 3 } }, 511, by decide +kernel⟩,
    ⟨{ dev := live }, 511, by decide +kernel⟩,
    ⟨{ dev := chanDev 511 { arm := .softPark, rampP := 2, rampJ := 2 } }, 511, by decide +kernel⟩,
    ⟨{ dev := live }, 511, by decide +kernel⟩,
    ⟨{ dev := chanDev 0 { range := { state := .ovMake, change := some (aChange 3) } } }, 0, aChange 3, by decide +kernel⟩,
    ⟨{ dev := chanDev 0 { range := { state := .ovFade, change := some (aChange 13) } } }, 0, aChange 13, benchDesc, by decide +kernel⟩,
    ⟨{ dev := chanDev 0 { range := { state := .hsHold, change := some (aChange 9) } } }, 0, aChange 9, by decide +kernel⟩⟩

theorem witness_WalksAndTimeoutsProceed :
    (∃ (s : State) (ch : Fin 512) (e : _) (st : _), s.dev.cmd.held = [] ∧ (s.dev.chan ch.val).seq.state = .running ∧
      (s.dev.chan ch.val).seq.walkDue = 1 ∧ s.dev.lastEnd (s.dev.chan ch.val).seq = some e ∧
      walkRun (s.dev.word ch.val) (s.dev.branchCond ch.val (s.dev.chan ch.val).seq.walkAt (s.dev.chan ch.val).seq.walkFlags) 257 { pc := (s.dev.chan ch.val).seq.pc, lc := (s.dev.chan ch.val).seq.lc, va := (s.dev.chan ch.val).seq.va, stack := (s.dev.chan ch.val).seq.stack, effects := [], admitted := none } = some st) ∧
    (∃ (s : State) (ch : Fin 512) (st : _), s.dev.cmd.held = [] ∧ (s.dev.chan ch.val).seq.state = .running ∧ (s.dev.chan ch.val).seq.walkDue = 2 ∧
      walkRun (s.dev.word ch.val) (s.dev.branchCond ch.val s.dev.time.frame (s.dev.walkConds ch.val)) 257 { pc := (s.dev.chan ch.val).seq.pc, lc := (s.dev.chan ch.val).seq.lc, va := (s.dev.chan ch.val).seq.va, stack := (s.dev.chan ch.val).seq.stack, effects := [], admitted := none } = some st) ∧
    (∃ (s : State) (ch : Fin 512), s.dev.cmd.held = [] ∧ (s.dev.chan ch.val).seq.walkDue = 0) ∧
    (∃ (s : State) (ch : Fin 512) (sp : _) (ev : _) (tmo : _) (taddr : _), s.dev.cmd.held = [] ∧ (s.dev.chan ch.val).seq.state = .running ∧
      (s.dev.chan ch.val).seq.walkDue ≠ 2 ∧ (s.dev.chan ch.val).seq.span = some sp ∧ sp.kind = .wait ev false tmo taddr ∧ sp.end_ = none ∧
      (s.dev.chan ch.val).seq.queue = [] ∧ 0 < tmo ∧ sp.start + tmo ≤ s.dev.time.frame ∧ (∀ e ∈ s.dev.events, ¬(e.ev = ev ∧
      s.dev.tickOfFrame sp.start ≤ e.win ∧ e.visible ≤ s.dev.time.frame))) ∧
    (∃ (s : State) (ch : Fin 512) (sp : _) (ev : _) (tmo : _) (taddr : _) (e : _), s.dev.cmd.held = [] ∧ (s.dev.chan ch.val).seq.span = some sp ∧
      sp.kind = .wait ev false tmo taddr ∧ e ∈ s.dev.events ∧ e.ev = ev ∧ s.dev.tickOfFrame sp.start ≤ e.win ∧ e.visible ≤ s.dev.time.frame) ∧
    (∃ (s : State) (ch : Fin 512) (sp : _) (id : _) (q : _), s.dev.cmd.held = [] ∧ (s.dev.chan ch.val).seq.queue = [sp] ∧ sp.request = some id ∧
      s.dev.request? id = some q ∧ q.timedOut = true ∧ q.granted = false) :=
  ⟨⟨{ dev := walkDev 1 }, 0, 7, walked 1, by decide +kernel⟩,
    ⟨{ dev := walkDev 2 }, 0, walked 2, by decide +kernel⟩,
    ⟨{ dev := live }, 511, by decide +kernel⟩,
    ⟨{ dev := waitDev }, 0, waitSpan, 7, 3, 0, by decide +kernel⟩,
    ⟨{ dev := eventDev }, 0, waitSpan, 7, 3, 0, { ev := 7, stamp := 159000, visible := 10, win := 159000 }, by decide +kernel⟩,
    ⟨{ dev := deferDev }, 0, deferSpan, 4, aRequest, by decide +kernel⟩⟩

theorem witness_GalleyLinesAreCheckedAndRetried :
    (∃ (s : State) (ch : Fin 512) (id : _) (g : _) (i : _), s.dev.cmd.held = [] ∧ s.dev.nextLine ch.val = some (id, g, i, false) ∧
      lineOk (s.dev.storedLine g i) id i = true) ∧
    (∃ (s : State) (ch : Fin 512) (ok : _) (id : _) (g : _) (i : _) (a : _), s.dev.cmd.held = [] ∧ s.dev.nextLine ch.val = some (id, g, i, a) ∧
      (ok = false ∨ lineOk (s.dev.storedLine g i) id i = false) ∧ (s.dev.chan ch.val).seq.retry = false) ∧
    (∃ (s : State) (ch : Fin 512) (ok : _) (id : _) (g : _) (i : _) (a : _), s.dev.cmd.held = [] ∧ s.dev.nextLine ch.val = some (id, g, i, a) ∧
      (ok = false ∨ lineOk (s.dev.storedLine g i) id i = false) ∧ (s.dev.chan ch.val).seq.retry = true) ∧
    (∃ (s : State) (ch : Fin 512), s.dev.cmd.held = [] ∧ s.dev.nextLine ch.val = none) :=
  ⟨⟨{ dev := galleyDev false }, 0, 7, storedSeg, 0, by decide +kernel⟩,
    ⟨{ dev := galleyDev false }, 0, false, 7, storedSeg, 0, false, by decide +kernel⟩,
    ⟨{ dev := galleyDev true }, 0, false, 7, storedSeg, 0, false, by decide +kernel⟩,
    ⟨{ dev := live }, 511, by decide +kernel⟩⟩

theorem witness_CalibrationSensorsAndTestsProceed :
    (∃ (s : State) (ch : Fin 512) (f : _) (rest : _), s.dev.cmd.held = [] ∧ (s.dev.chan ch.val).cal.fits = f :: rest) ∧
    (∃ (s : State) (ch : Fin 512) (k : _) (pts : _) (th : _) (rest : _) (x : _), s.dev.cmd.held = [] ∧
      (s.dev.chan ch.val).cal.fits = (k, pts, th, true) :: rest ∧ s.dev.desc? ch.val = some x ∧ x.roundSets.getLast? ≠ some k) ∧
    (∃ (s : State) (ch : Fin 512), s.dev.cmd.held = [] ∧ (s.dev.chan ch.val).cal.fits = []) ∧
    (∃ (s : State) (ch : Fin 512) (x : _), s.dev.cmd.held = [] ∧ s.dev.desc? ch.val = some x ∧ x.capMemory = true ∧
      (s.dev.chan ch.val).cal.persist = none) ∧
    (∃ (s : State) (ch : Fin 512), s.dev.cmd.held = [] ∧ (∀ x, s.dev.desc? ch.val = some x → x.capMemory = false)) ∧
    (∃ (s : State) (z : Fin 64) (p : Fin 8) (x : _) (t : _), (s.dev.zone z.val).sensors[p.val]? = some x ∧ x.broken = true ∧
      x.validSince = some t ∧ t + 10 * secUnits ≤ s.dev.time.now) ∧
    (∃ (s : State) (z : Fin 64) (p : Fin 8) (x : _), (s.dev.zone z.val).sensors[p.val]? = some x ∧
      (x.broken = false ∨ x.validSince = none ∨ ∃ t, x.validSince = some t ∧ s.dev.time.now < t + 10 * secUnits)) ∧
    (∃ (s : State) (ch : Fin 512) (m : _), s.dev.cmd.held = [] ∧ (s.dev.chan ch.val).measure = some m ∧ m.k ≤ m.taken ∧ 0 < m.valid) ∧
    (∃ (s : State) (ch : Fin 512), s.dev.cmd.held = [] ∧ (s.dev.chan ch.val).measure = none) ∧
    (∃ (s : State) (j : Fin 64) (m : _), s.dev.cmd.held = [] ∧ s.dev.migrations = [m] ∧ m.slot = j.val ∧ m.passed = false) ∧
    (∃ (s : State) (e : Fin 72), s.dev.slotOf e.val = none ∧ (s.dev.engine e.val).faulty = false) :=
  ⟨⟨{ dev := chanDev 0 { cal := { fits := [aFit false] } } }, 0, aFit false, [], by decide +kernel⟩,
    ⟨{ dev := chanDev 0 { cal := { fits := [aFit true] } } }, 0, 0, [], 25, [], benchDesc, by decide +kernel⟩,
    ⟨{ dev := live }, 511, by decide +kernel⟩,
    ⟨{ dev := live }, 0, benchDesc, by decide +kernel⟩,
    ⟨{ dev := live }, 1, by decide +kernel, fun x h => absurd ((show live.desc? 1 = none by decide +kernel).symm.trans h) nofun⟩,
    ⟨{ dev := sensorsDev }, 63, 0, brokenSensor, 0, by decide +kernel⟩,
    ⟨{ dev := sensorDev }, 63, 0, aSensor, by decide +kernel, Or.inl (by decide +kernel)⟩,
    ⟨{ dev := chanDev 511 { measure := some aMeasure } }, 511, aMeasure, by decide +kernel⟩,
    ⟨{ dev := live }, 511, by decide +kernel⟩,
    ⟨{ dev := { live with migrations := [aMigration] } }, 0, aMigration, by decide +kernel⟩,
    ⟨{ dev := live }, 71, by decide +kernel⟩⟩

theorem witness_UpstreamBlocksAndLinkLoss :
    (∃ (s : State) (l : Fin 512), s.dev.cmd.held = [] ∧ s.dev.time.started = true ∧ (s.dev.link l.val).state ≠ .disabled) ∧
    (∃ (s : State) (l : Fin 512) (u0 : Word64), s.dev.cmd.held = [] ∧ s.dev.time.started = true ∧
      ((s.dev.link l.val).state = .search ∨ (s.dev.link l.val).state = .describe) ∧ (s.dev.link l.val).rts = [] ∧ bits u0.toNat 3 0 = 0xA ∧
      bits u0.toNat 11 8 = s.dev.time.frame % 16) ∧
    (∃ (s : State) (l : Fin 512) (u0 : Word64), s.dev.cmd.held = [] ∧ s.dev.time.started = true ∧ (s.dev.link l.val).state = .up ∧
      (s.dev.link l.val).rts = [] ∧ bits u0.toNat 3 0 = 0xA ∧ bits u0.toNat 11 8 = s.dev.time.frame % 16 ∧ bit u0.toNat 53 = true) ∧
    (∃ (s : State) (l : Fin 512), s.dev.cmd.held = [] ∧ (s.dev.link l.val).state = .search ∧ 16 ≤ (s.dev.link l.val).validRun) ∧
    (∃ (s : State) (l : Fin 512), s.dev.cmd.held = [] ∧ (s.dev.link l.val).state ≠ .search) ∧
    (∃ (s : State) (l : Fin 512), s.dev.cmd.held = [] ∧ (s.dev.link l.val).state = .up ∧ 8 ≤ (s.dev.link l.val).missRun ∧
      (s.dev.link l.val).dual = false) ∧
    (∃ (s : State) (l : Fin 512), s.dev.cmd.held = [] ∧ ((s.dev.link l.val).state = .disabled ∨ (s.dev.link l.val).state = .search)) :=
  ⟨⟨{ dev := live }, 0, by decide +kernel⟩,
    ⟨{ dev := linkDev fun x => { x with state := .search, rts := [] } }, 0, 0xA0A, by decide +kernel⟩,
    ⟨{ dev := linkDev fun x => { x with rts := [] } }, 0, 0x20000000000A0A, by decide +kernel⟩,
    ⟨{ dev := linkDev fun x => { x with state := .search, validRun := 16 } }, 0, by decide +kernel⟩,
    ⟨{ dev := live }, 0, by decide +kernel⟩,
    ⟨{ dev := linkDev fun x => { x with missRun := 8 } }, 0, by decide +kernel⟩,
    ⟨{ dev := live }, 511, by decide +kernel⟩⟩

theorem witness_ManagementRepliesAdvanceTheLink :
    (∃ (s : State) (l : Fin 512) (p : Fin 6) (data : List Byte) (o : _), s.dev.cmd.held = [] ∧ (s.dev.link l.val).state = .describe ∧
      data.length = 256 ∧ (s.dev.link l.val).out = some o ∧ o.msg = .pageRead p.val) ∧
    (∃ (s : State) (l : Fin 512), s.dev.cmd.held = [] ∧ (s.dev.link l.val).out = none) ∧
    (∃ (s : State) (l : Fin 512) (slot : Fin 2) (data : List Byte) (o : _), s.dev.cmd.held = [] ∧ (s.dev.link l.val).state = .describe ∧
      (s.dev.link l.val).out = some o ∧ o.msg = .nvmRead slot.val 0 data.length) ∧
    (∃ (s : State) (l : Fin 512) (slot : Fin 2) (off : _) (data : List Byte) (o : _), s.dev.cmd.held = [] ∧ (s.dev.link l.val).state = .describe ∧
      (s.dev.link l.val).out = some o ∧ o.msg = .nvmRead slot.val off data.length ∧ off ≠ 0 ∧ ((s.dev.link l.val).recBytes ++ data).length < 1024) ∧
    (∃ (s : State) (l : Fin 512) (o : _), s.dev.cmd.held = [] ∧ (s.dev.link l.val).state = .describe ∧ (s.dev.link l.val).out = some o ∧
      o.msg = .accept) ∧
    (∃ (s : State) (l : Fin 512), s.dev.cmd.held = [] ∧ (s.dev.link l.val).out = none) ∧
    (∃ (s : State) (l : Fin 512) (o : _), s.dev.cmd.held = [] ∧ (s.dev.link l.val).out = some o ∧ o.attempts < 3) ∧
    (∃ (s : State) (l : Fin 512) (o : _), s.dev.cmd.held = [] ∧ (s.dev.link l.val).out = some o ∧ 3 ≤ o.attempts ∧
      (s.dev.link l.val).state = .describe) ∧
    (∃ (s : State) (l : Fin 512) (o : _), s.dev.cmd.held = [] ∧ (s.dev.link l.val).out = some o ∧ 3 ≤ o.attempts ∧ (s.dev.link l.val).state = .up ∧
      o.msg.isNvm = false) :=
  ⟨⟨{ dev := linkDev fun x => { x with state := .describe, out := asked (.pageRead 5) 1 } }, 0, 5, zeros 256, { msg := .pageRead 5, attempts := 1, sentAt := 9 }, by decide +kernel⟩,
    ⟨{ dev := live }, 0, by decide +kernel⟩,
    ⟨{ dev := linkDev fun x => { x with state := .describe, out := asked (.nvmRead 1 0 16) 1 } }, 0, 1, zeros 16, { msg := .nvmRead 1 0 16, attempts := 1, sentAt := 9 }, by decide +kernel⟩,
    ⟨{ dev := linkDev fun x => { x with state := .describe, out := asked (.nvmRead 1 64 64) 1 } }, 0, 1, 64, zeros 64, { msg := .nvmRead 1 64 64, attempts := 1, sentAt := 9 }, by decide +kernel⟩,
    ⟨{ dev := linkDev fun x => { x with state := .describe, out := asked (.accept) 1 } }, 0, { msg := .accept, attempts := 1, sentAt := 9 }, by decide +kernel⟩,
    ⟨{ dev := live }, 0, by decide +kernel⟩,
    ⟨{ dev := linkDev fun x => { x with state := .describe, out := asked (.pageRead 0) 2 } }, 0, { msg := .pageRead 0, attempts := 2, sentAt := 9 }, by decide +kernel⟩,
    ⟨{ dev := linkDev fun x => { x with state := .describe, out := asked (.pageRead 0) 3 } }, 0, { msg := .pageRead 0, attempts := 3, sentAt := 9 }, by decide +kernel⟩,
    ⟨{ dev := linkDev fun x => { x with out := asked (.pageRead 0) 3 } }, 0, { msg := .pageRead 0, attempts := 3, sentAt := 9 }, by decide +kernel⟩⟩

theorem witness_TriggersCaptureEdges :
    (∃ (s : State) (m : Fin 64) (t : _), routeMode (s.dev.pin m.val).route = 0 ∧ (s.dev.pin m.val).masked = false ∧
      (∀ w, (s.dev.pin m.val).winEnd = some w → w ≤ t)) ∧
    (∃ (s : State) (m : Fin 64) (t : _) (w : _), routeMode (s.dev.pin m.val).route = 0 ∧ (s.dev.pin m.val).masked = false ∧
      (s.dev.pin m.val).winEnd = some w ∧ t < w) ∧
    (∃ (s : State) (m : Fin 64), (routeMode (s.dev.pin m.val).route ≠ 0 ∨ (s.dev.pin m.val).masked = true)) ∧
    (∃ (s : State) (m : Fin 64) (w : _), (s.dev.pin m.val).winEnd = some w ∧ (s.dev.pin m.val).level = (s.dev.pin m.val).capLevel) ∧
    (∃ (s : State) (m : Fin 64) (w : _), routeMode (s.dev.pin m.val).route = 0 ∧ (s.dev.pin m.val).masked = false ∧
      (s.dev.pin m.val).winEnd = some w ∧ (s.dev.pin m.val).level ≠ (s.dev.pin m.val).capLevel) ∧
    (∃ (s : State) (m : Fin 64), routeMode (s.dev.pin m.val).route = 0 ∧ (s.dev.pin m.val).masked = false ∧ 0 < (s.dev.pin m.val).stuckTime ∧
      (s.dev.pin m.val).stuckTime < (s.dev.pin m.val).activeFrames) ∧
    (∃ (s : State) (m : Fin 64), (s.dev.pin m.val).activeFrames ≤ (s.dev.pin m.val).stuckTime) :=
  ⟨⟨{ dev := { live with edge := { pins := [(63, { evEn := true, edge := 2, capEn := true, ring := 300, winEnd := some 160200 })] } } }, 63, 160200, by decide +kernel, by decide +kernel, fun w h => by cases (show some 160200 = some w from h); decide⟩,
    ⟨{ dev := { live with edge := { pins := [(63, { winEnd := some 160201 })] } } }, 63, 160200, 160201, by decide +kernel⟩,
    ⟨{ dev := { live with edge := { pins := [(63, { masked := true })] } } }, 63, by decide +kernel⟩,
    ⟨{ dev := { live with edge := { pins := [(63, { winEnd := some 160264 })] } } }, 63, 160264, by decide +kernel⟩,
    ⟨{ dev := { live with edge := { pins := [(63, { winEnd := some 160264, level := true })] } } }, 63, 160264, by decide +kernel⟩,
    ⟨{ dev := { live with edge := { pins := [(63, { stuckTime := 5, activeFrames := 6 })] } } }, 63, by decide +kernel⟩,
    ⟨{ dev := live }, 63, by decide +kernel⟩⟩

theorem witness_ComparatorsTripAndRelease :
    (∃ (s : State) (m : Fin 64) (t : _), s.dev.running = true ∧ (s.dev.mon m.val).live = false ∧ (s.dev.at t).monBlanked m.val t = false) ∧
    (∃ (s : State) (m : Fin 64) (t : _), s.dev.running = true ∧ (s.dev.mon m.val).live = false ∧ (s.dev.at t).monBlanked m.val t = true) ∧
    (∃ (s : State) (m : Fin 64) (t : _), s.dev.running = true ∧ (s.dev.mon m.val).live = true ∧ (s.dev.at t).monBlanked m.val t = false) ∧
    (∃ (s : State) (m : Fin 64) (t : _), s.dev.running = true ∧ (s.dev.mon m.val).live = true ∧ (s.dev.at t).monBlanked m.val t = true) ∧
    (∃ (s : State) (m : Fin 64) (t : _), s.dev.running = true ∧ (s.dev.at t).monBlanked m.val t = false) ∧
    (∃ (s : State) (m : Fin 64), (s.dev.mon m.val).atPeriod = true ∧ (s.dev.mon m.val).edgeMode = false ∧ 0 < (s.dev.mon m.val).period ∧
      s.dev.time.frame % (s.dev.mon m.val).period = 0) ∧
    (∃ (s : State) (m : Fin 64), (s.dev.mon m.val).atPeriod = false) ∧
    (∃ (s : State) (m : Fin 64), (s.dev.mon m.val).unsettled = true) ∧
    (∃ (s : State) (m : Fin 64), (s.dev.mon m.val).unsettled = false) :=
  ⟨⟨{ dev := monDev false false }, 63, 160200, by decide +kernel⟩,
    ⟨{ dev := blankDev false }, 63, 160200, by decide +kernel⟩,
    ⟨{ dev := monDev true false }, 63, 160200, by decide +kernel⟩,
    ⟨{ dev := blankDev true }, 63, 160200, by decide +kernel⟩,
    ⟨{ dev := monDev false false }, 63, 160200, by decide +kernel⟩,
    ⟨{ dev := live.setMon 63 { atPeriod := true, edgeMode := false, period := 5 } }, 63, by decide +kernel⟩,
    ⟨{ dev := live }, 63, by decide +kernel⟩,
    ⟨{ dev := monDev false true }, 63, by decide +kernel⟩,
    ⟨{ dev := monDev false false }, 63, by decide +kernel⟩⟩

theorem witness_ThermalAndPowerJudgements :
    (∃ (s : State) (z : Fin 64), s.dev.cmd.held = [] ∧ (s.dev.zone z.val).enabled = true ∧ (s.dev.share (shareOfZone z.val)).role ≠ 2) ∧
    (∃ (s : State) (z : Fin 64), s.dev.cmd.held = [] ∧ (s.dev.zone z.val).enabled = false) ∧
    (∃ (s : State) (r : Fin 32), s.dev.cmd.held = [] ∧ (s.dev.rail r.val).enabled = true ∧ (s.dev.share (shareOfRail r.val)).role = 0) ∧
    (∃ (s : State) (r : Fin 32), s.dev.cmd.held = [] ∧ (s.dev.rail r.val).enabled = false) ∧
    (∃ (s : State), s.dev.cmd.held = [] ∧ s.dev.running = true ∧ s.dev.blk bSENSORS = true) :=
  ⟨⟨{ dev := zoneDev }, 63, by decide +kernel⟩,
    ⟨{ dev := live }, 63, by decide +kernel⟩,
    ⟨{ dev := railDev }, 31, by decide +kernel⟩,
    ⟨{ dev := live }, 31, by decide +kernel⟩,
    ⟨{ dev := live }, by decide +kernel⟩⟩

theorem witness_PortsFollowTheirNeighbours :
    (∃ (s : State) (p : _) (c : Cell), s.dev.cmd.held = [] ∧ s.dev.Receives p c ctNEIGHBOR ∧ s.dev.reg.state = .unjoined ∧
      (s.dev.port p.val).validFrom + 2622 ≤ s.dev.time.now) ∧
    (∃ (s : State) (p : _) (c : Cell) (t : _), s.dev.cmd.held = [] ∧ s.dev.Receives p c ctNEIGHBOR ∧ (s.dev.port p.val).up = false ∧
      (s.dev.at t).time.now < (s.dev.port p.val).validFrom + 2622) ∧
    (∃ (s : State) (p : Port), s.dev.cmd.held = [] ∧ s.dev.zhepinOn = true ∧ (s.dev.port p.val).up = true) ∧
    (∃ (s : State) (p : Port), s.dev.cmd.held = [] ∧ (s.dev.port p.val).up = false) ∧
    (∃ (s : State) (p : Port), s.dev.cmd.held = [] ∧ s.dev.zhepinOn = true ∧ (s.dev.port p.val).up = true) ∧
    (∃ (s : State), s.dev.zhepinOn = true) ∧
    (∃ (s : State) (p : Port) (c : Cell) (l : _), s.dev.zhepinOn = true ∧ (s.dev.port p.val).up = true ∧ c.crcOk = true ∧ c.type = ctRESEND ∧
      c.words = [] ∧ (s.dev.port p.val).sent.dropWhile (fun x => x.1 ≠ c.lseq) = l) :=
  ⟨⟨{ dev := live }, 5, cellOf ctNEIGHBOR false 0 3 [0, 0, 0], by decide +kernel, receives_of (by decide +kernel), by decide +kernel, by decide +kernel⟩,
    ⟨{ dev := live.setPort 5 { validFrom := 160000 } }, 5, cellOf ctNEIGHBOR false 0 3 [0, 0, 0], 160200, by decide +kernel, receives_of (by decide +kernel), by decide +kernel, by decide +kernel⟩,
    ⟨{ dev := portDev 5 }, 5, by decide +kernel⟩,
    ⟨{ dev := live }, 5, by decide +kernel⟩,
    ⟨{ dev := portDev 5 }, 5, by decide +kernel⟩,
    ⟨{ dev := live }, by decide +kernel⟩,
    ⟨{ dev := live.setPort 5 { up := true, sent := [(2, cellOf ctPING false 3 0 [0]), (3, cellOf ctPING false 3 0 [1])] } }, 5, cellOf ctRESEND false 0 3 [], [(3, cellOf ctPING false 3 0 [1])], by decide +kernel⟩⟩

theorem witness_ExchangesMeasureOffsetAndDelay :
    (∃ (s : State) (p : Port), s.dev.zhepinOn = true ∧ (s.dev.port p.val).up = true) ∧
    (∃ (s : State) (p : _) (c : _), s.dev.Receives p c ctPING ∧ (s.dev.port p.val).up = true) ∧
    (∃ (s : State) (p : _) (c : _), s.dev.Receives p c ctECHO ∧ (s.dev.port p.val).up = true ∧ (s.dev.port p.val).pingAt = some (c.w 1) ∧
      s.dev.reg.state ≠ .aligning) ∧
    (∃ (s : State) (p : _) (c : _), s.dev.Receives p c ctECHO ∧ (s.dev.port p.val).up = true ∧ (s.dev.port p.val).pingAt ≠ some (c.w 1)) ∧
    (∃ (t1 : Nat) (t2 : Nat) (t3 : Nat) (t4 : Nat), t1 < 2 ^ 62 ∧ t2 < 2 ^ 62 ∧ t3 < 2 ^ 62 ∧ t4 < 2 ^ 62) :=
  ⟨⟨{ dev := portDev 5 }, 5, by decide +kernel⟩,
    ⟨{ dev := portDev 5 }, 5, cellOf ctPING false 0 3 [1000], receives_of (by decide +kernel), by decide +kernel⟩,
    ⟨{ dev := live.setPort 5 { up := true, pingAt := some 1000 } }, 5, cellOf ctECHO false 0 3 [1000, 2000, 2100], receives_of (by decide +kernel), by decide +kernel, by decide +kernel, by decide +kernel⟩,
    ⟨{ dev := live.setPort 5 { up := true, pingAt := some 1001 } }, 5, cellOf ctECHO false 0 3 [1000, 2000, 2100], receives_of (by decide +kernel), by decide +kernel, by decide +kernel⟩,
    ⟨0, 2 ^ 62 - 1, 0, 2 ^ 62 - 1, by decide +kernel⟩⟩

theorem witness_EpochsMarksAndSlewsKeepTheTime :
    (∃ (s : State) (p : _) (c : _), s.dev.cmd.held = [] ∧ s.dev.Broadcasts p c ctEPOCH ∧ s.dev.reg.state = .registered) ∧
    (∃ (s : State), s.dev.cmd.held = [] ∧ s.dev.reg.state = .registered ∧ s.dev.reg.timekeeper = true ∧ s.dev.zhepinOn = true) ∧
    (∃ (s : State), s.dev.cmd.held = [] ∧ s.dev.reg.state = .registered ∧ s.dev.reg.timekeeper = false ∧ s.dev.reg.candidate = 2) ∧
    (∃ (s : State), s.dev.cmd.held = [] ∧ (s.dev.reg.state ≠ .registered ∨ (s.dev.reg.timekeeper = false ∧ s.dev.reg.candidate = 0))) ∧
    (∃ (s : State), s.dev.cmd.held = [] ∧ s.dev.reg.state = .registered ∧ s.dev.reg.timekeeper = false) ∧
    (∃ (s : State), s.dev.cmd.held = [] ∧ s.dev.reg.timekeeper = true) ∧
    (∃ (s : State) (low : _), s.dev.cmd.held = [] ∧ low < 4) ∧
    (∃ (s : State) (low : _), s.dev.cmd.held = [] ∧ 4 ≤ low ∧ s.dev.running = true ∧ s.dev.blk bREG = true ∧ s.dev.reg.state = .registered ∧
      s.dev.reg.timekeeper = false) ∧
    (∃ (s : State) (low : _), s.dev.cmd.held = [] ∧ 4 ≤ low ∧ s.dev.running = true ∧ s.dev.blk bREG = true ∧ s.dev.reg.state = .joining ∧
      s.dev.reg.timekeeper = false ∧ s.dev.reg.neighborSince = none) ∧
    (∃ (s : State), s.dev.running = true ∧ s.dev.blk bREG = true ∧ s.dev.reg.timekeeper = true ∧ s.dev.reg.generate = true ∧
      s.dev.reg.state = .joining) ∧
    (∃ (s : State), s.dev.running = true ∧ s.dev.blk bREG = true ∧ s.dev.reg.timekeeper = true ∧ s.dev.reg.generate = true ∧
      s.dev.reg.state = .registered ∧ s.dev.time.now % s.dev.reg.markStep = 0) ∧
    (∃ (s : State), (s.dev.reg.timekeeper = false ∨ s.dev.reg.generate = false)) ∧
    (∃ (s : State) (q : _) (i : _), s.dev.cmd.held = [] ∧ s.dev.reg.state = .joining ∧ s.dev.reg.timekeeper = false ∧
      s.dev.reg.neighborSince.isSome = true ∧ s.dev.reg.parent = some q ∧ (s.dev.port q).last = some i) ∧
    (∃ (s : State), s.dev.cmd.held = [] ∧ s.dev.reg.state ≠ .joining) ∧
    (∃ (s : State), s.dev.reg.parent = none) ∧
    (∃ (s : State) (q : _), s.dev.reg.parent = some q ∧ (s.dev.port q).theta.length < 4096) ∧
    (∃ (s : State) (q : _), s.dev.reg.parent = some q ∧ s.dev.reg.state = .registered ∧ s.dev.reg.timekeeper = false ∧
      4096 ≤ (s.dev.port q).theta.length ∧ 1 / 2 ≤ ratAbs ((s.dev.port q).thetaF + (s.dev.reg.frac : Rat) / 16) ∧
      (s.dev.reg.lastSlew = 0 ∨ s.dev.reg.lastSlew + msUnits ≤ s.dev.time.now)) :=
  ⟨⟨{ dev := meshDev }, 0, cellOf ctEPOCH true 0 0 [1, 0], by decide +kernel, broadcasts_of (by decide +kernel) (by decide +kernel), by decide +kernel⟩,
    ⟨{ dev := masterDev }, by decide +kernel⟩,
    ⟨{ dev := { meshDev with reg := { meshDev.reg with candidate := 2 } } }, by decide +kernel⟩,
    ⟨{ dev := memberDev }, by decide +kernel⟩,
    ⟨{ dev := memberDev }, by decide +kernel⟩,
    ⟨{ dev := masterDev }, by decide +kernel⟩,
    ⟨{ dev := live }, 3, by decide +kernel⟩,
    ⟨{ dev := memberDev }, 4, by decide +kernel⟩,
    ⟨{ dev := { joinerDev with reg := { joinerDev.reg with neighborSince := none } } }, 4, by decide +kernel⟩,
    ⟨{ dev := driverDev }, by decide +kernel⟩,
    ⟨{ dev := markDev }, by decide +kernel⟩,
    ⟨{ dev := live }, by decide +kernel⟩,
    ⟨{ dev := joinerDev }, 0, portInfo, by decide +kernel⟩,
    ⟨{ dev := live }, by decide +kernel⟩,
    ⟨{ dev := live }, by decide +kernel⟩,
    ⟨{ dev := joinerDev }, 0, by decide +kernel⟩,
    ⟨{ dev := slewDev }, 0, by decide +kernel, by decide +kernel, by decide +kernel, slew_long, slew_far, by decide +kernel⟩⟩

theorem witness_EventAndArmCellsArrive :
    (∃ (s : State) (p : _) (c : _), s.dev.Broadcasts p c ctEVENT) ∧
    (∃ (s : State) (p : _) (c : _), s.dev.Broadcasts p c ctARM ∧ s.dev.reg.state = .registered) ∧
    (∃ (s : State) (p : _) (c : _), s.dev.Broadcasts p c ctARM ∧ s.dev.reg.state ≠ .registered) :=
  ⟨⟨{ dev := meshDev }, 0, cellOf ctEVENT true 0 0 [2560000, 1, 0, 0, 0], broadcasts_of (by decide +kernel) (by decide +kernel)⟩,
    ⟨{ dev := meshDev }, 0, cellOf ctARM true 0 0 [4800000, 0x1F, 0], broadcasts_of (by decide +kernel) (by decide +kernel), by decide +kernel⟩,
    ⟨{ dev := portDev 0 }, 0, cellOf ctARM true 0 0 [4800000, 0x1F, 0], broadcasts_of (by decide +kernel) (by decide +kernel), by decide +kernel⟩⟩

theorem witness_SharesAndRequestsCrossDevices :
    (∃ (s : State) (p : _) (c : _) (x : _), s.dev.cmd.held = [] ∧ s.dev.Addressed p c ctLEDGER ∧
      (s.dev.share (shareOfKey (bits (c.w 1) 6 0))).role = 1 ∧ (s.dev.share (shareOfKey (bits (c.w 1) 6 0))).contrib = [x] ∧ x.dev = c.origin ∧
      x.broken = false) ∧
    (∃ (s : State) (p : _) (c : _), s.dev.cmd.held = [] ∧ s.dev.Addressed p c ctLEDGER ∧ (s.dev.share (shareOfKey (bits (c.w 1) 6 0))).role ≠ 1) ∧
    (∃ (s : State) (p : _) (c : _) (i : _), s.dev.cmd.held = [] ∧ s.dev.Addressed p c ctSTATE ∧
      s.dev.shareAtOwner c.origin (bits (c.w 1) 6 0) = some i) ∧
    (∃ (s : State), s.dev.cmd.held = [] ∧ s.dev.reg.state ≠ .registered) ∧
    (∃ (s : State) (i : _) (x : _), s.dev.cmd.held = [] ∧ s.dev.reg.state = .registered ∧ s.dev.imp.shares = [(i, x)] ∧ x.role = 2 ∧
      s.dev.zhepinOn = true ∧ s.dev.routePort x.ownerDev = some 0) ∧
    (∃ (s : State) (i : _) (x : _), s.dev.cmd.held = [] ∧ (s.dev.share i).role = 1 ∧ (s.dev.share i).contrib = [x] ∧
      x.at_ + s.dev.silence ≤ s.dev.time.now) ∧
    (∃ (s : State) (i : _), s.dev.cmd.held = [] ∧ (s.dev.share i).role = 2) ∧
    (∃ (s : State) (i : _), s.dev.cmd.held = [] ∧ (s.dev.share i).role ≠ 1 ∧ (s.dev.share i).role ≠ 2) ∧
    (∃ (s : State) (p : _) (c : _), s.dev.cmd.held = [] ∧ s.dev.Addressed p c ctREQ ∧ s.dev.contributes c.origin = true) ∧
    (∃ (s : State) (p : _) (c : _), s.dev.cmd.held = [] ∧ s.dev.Addressed p c ctREQ ∧ s.dev.contributes c.origin = false) ∧
    (∃ (s : State) (p : _) (c : _), s.dev.cmd.held = [] ∧ s.dev.Addressed p c ctCANCEL) ∧
    (∃ (s : State) (p : _) (c : _) (q : _), s.dev.cmd.held = [] ∧ s.dev.Addressed p c ctGRANT ∧ s.dev.imp.requests = [q] ∧
      q.owner = some c.origin ∧ q.id % 65536 = bits (c.w 1) 15 0 ∧ q.origin = none ∧ bit (c.w 1) 16 = false ∧
      s.dev.time.frame + 2 ≤ s.dev.frameOfTick (c.w 2)) ∧
    (∃ (s : State) (p : _) (c : _) (q : _), s.dev.cmd.held = [] ∧ s.dev.Addressed p c ctGRANT ∧ s.dev.imp.requests = [q] ∧
      q.owner = some c.origin ∧ q.id % 65536 = bits (c.w 1) 15 0 ∧ bit (c.w 1) 16 = true) :=
  ⟨⟨{ dev := ownerDev }, 0, cellOf ctLEDGER false 2 3 [5, 0x41200000, 0x41C80000], aContrib, by decide +kernel, addressed_of (by decide +kernel) (by decide +kernel), by decide +kernel, by decide +kernel, by decide +kernel, by decide +kernel⟩,
    ⟨{ dev := meshDev }, 0, cellOf ctLEDGER false 2 3 [5, 0, 0], by decide +kernel, addressed_of (by decide +kernel) (by decide +kernel), by decide +kernel⟩,
    ⟨{ dev := contribDev }, 0, cellOf ctSTATE false 0 3 [0x105], 5, by decide +kernel, addressed_of (by decide +kernel) (by decide +kernel), by decide +kernel⟩,
    ⟨{ dev := live }, by decide +kernel⟩,
    ⟨{ dev := contribDev }, 5, shareRec, by decide +kernel⟩,
    ⟨{ dev := silentDev }, 5, aContrib, by decide +kernel⟩,
    ⟨{ dev := contribDev }, 5, by decide +kernel⟩,
    ⟨{ dev := live }, 5, by decide +kernel⟩,
    ⟨{ dev := ownerDev }, 0, cellOf ctREQ false 2 3 [5, 0, 0, 0, 2560000], by decide +kernel, addressed_of (by decide +kernel) (by decide +kernel), by decide +kernel⟩,
    ⟨{ dev := meshDev }, 0, cellOf ctREQ false 2 3 [5, 0, 0, 0, 2560000], by decide +kernel, addressed_of (by decide +kernel) (by decide +kernel), by decide +kernel⟩,
    ⟨{ dev := ownerDev }, 0, cellOf ctCANCEL false 2 3 [4], by decide +kernel, addressed_of (by decide +kernel) (by decide +kernel)⟩,
    ⟨{ dev := grantDev }, 0, cellOf ctGRANT false 0 3 [4, 208000], owedRequest, by decide +kernel, addressed_of (by decide +kernel) (by decide +kernel), by decide +kernel, by decide +kernel, by decide +kernel, by decide +kernel, by decide +kernel, by decide +kernel⟩,
    ⟨{ dev := grantDev }, 0, cellOf ctGRANT false 0 3 [0x10004, 0], owedRequest, by decide +kernel, addressed_of (by decide +kernel) (by decide +kernel), by decide +kernel, by decide +kernel, by decide +kernel, by decide +kernel⟩⟩

theorem witness_PacketsCrossDevices :
    (∃ (s : State) (p : _) (c : _), s.dev.cmd.held = [] ∧ s.dev.Addressed p c ctMSG ∧ bit (c.w 1) 58 = false ∧ bit (c.w 1) 59 = false ∧
      bit (c.w 1) 56 = true ∧ bit (c.w 1) 57 = false) ∧
    (∃ (s : State) (p : _) (c : _) (a : _) (r : _), s.dev.cmd.held = [] ∧ s.dev.Addressed p c ctMSG ∧ bit (c.w 1) 58 = true ∧
      s.dev.queue.awaiting = [a] ∧ a.answered = false ∧ a.qid = bits (c.w 1) 19 0 ∧ a.pnum = bits (c.w 1) 55 40 ∧
      s.dev.queue.rings = [(a.qid, r)] ∧ r.headA = (r.tailA + a.bytes.length) % 2 ^ 32) ∧
    (∃ (s : State) (q : BitVec 20) (a : _) (r : _), s.dev.cmd.held = [] ∧ s.dev.queue.awaiting = [a] ∧ a.answered = false ∧ a.qid = q.toNat ∧
      s.dev.ring? q.toNat = some r ∧ a.sends < 3) ∧
    (∃ (s : State) (q : BitVec 20) (a : _) (r : _), s.dev.cmd.held = [] ∧ s.dev.queue.awaiting = [a] ∧ a.answered = false ∧ a.qid = q.toNat ∧
      s.dev.queue.rings = [(q.toNat, r)] ∧ 3 ≤ a.sends ∧ r.headA = (r.tailA + a.bytes.length) % 2 ^ 32) ∧
    (∃ (s : State), s.dev.cmd.held = [] ∧ s.dev.queue.awaiting = []) :=
  ⟨⟨{ dev := meshDev }, 0, cellOf ctMSG false 0 3 [0x10000000000012C, 1, 2], by decide +kernel, addressed_of (by decide +kernel) (by decide +kernel), by decide +kernel, by decide +kernel, by decide +kernel, by decide +kernel⟩,
    ⟨{ dev := peerDev }, 0, cellOf ctMSG false 0 3 [0x40001000000012C], aSent, peerRing, by decide +kernel, addressed_of (by decide +kernel) (by decide +kernel), by decide +kernel, by decide +kernel, by decide +kernel, by decide +kernel, by decide +kernel, by decide +kernel, by decide +kernel⟩,
    ⟨{ dev := peerDev }, 300, aSent, peerRing, by decide +kernel⟩,
    ⟨{ dev := peerLastDev }, 300, lastSent, peerRing, by decide +kernel⟩,
    ⟨{ dev := live }, by decide +kernel⟩⟩

theorem witness_DoorbellsAndFastSlots :
    (∃ (s : State) (f : Fin 64) (i : _), s.dev.cmd.held = [] ∧ s.dev.pcieUp = true ∧ s.dev.running = true ∧ s.dev.ringAtDoorbell f.val i = none) ∧
    (∃ (s : State) (f : Fin 64) (i : _) (v : Word64) (q : _) (r : _), s.dev.cmd.held = [] ∧ s.dev.pcieUp = true ∧ s.dev.running = true ∧
      s.dev.ringAtDoorbell f.val i = some q ∧ s.dev.ring? q = some r ∧ s.dev.carried q = none ∧ s.dev.ringSound q = true ∧ bits v.toNat 51 32 = q ∧
      bits v.toNat 63 52 = 0 ∧ s.dev.memDrops q r = false ∧ s.dev.memHeld = false ∧ eventRingOf q = none ∧ r.halt = false ∧ r.hostProduced = false) ∧
    (∃ (s : State) (f : Fin 64) (i : _) (v : Word64) (q : _) (r : _), s.dev.cmd.held = [] ∧ s.dev.pcieUp = true ∧ s.dev.running = true ∧
      s.dev.ringAtDoorbell f.val i = some q ∧ s.dev.ring? q = some r ∧ s.dev.carried q = none ∧ s.dev.ringSound q = true ∧ bits v.toNat 51 32 = q ∧
      bits v.toNat 63 52 = 0 ∧ s.dev.memDrops q r = false ∧ s.dev.memHeld = false ∧ eventRingOf q = none ∧ r.halt = false ∧ r.kind = 0) ∧
    (∃ (s : State), s.dev.cmd.held = [] ∧ s.dev.pcieUp = false) ∧
    (∃ (s : State) (f : Fin 64) (k : Fin 64) (t : _), s.dev.cmd.held = [] ∧ s.dev.pcieUp = true ∧ s.dev.running = true ∧ s.dev.blk bHCSM = true ∧
      (∀ x ∈ s.dev.fast, ¬(x.fn = f.val ∧ x.slot = k.val ∧ (s.dev.at t).time.now < x.takeAt))) ∧
    (∃ (s : State) (f : Fin 64) (k : Fin 64) (t : _) (x : _), s.dev.cmd.held = [] ∧ s.dev.pcieUp = true ∧ s.dev.running = true ∧
      s.dev.blk bHCSM = true ∧ x ∈ s.dev.fast ∧ x.fn = f.val ∧ x.slot = k.val ∧ (s.dev.at t).time.now < x.takeAt) :=
  ⟨⟨{ dev := live }, 63, 7679, by decide +kernel⟩,
    ⟨{ dev := bellDev 2 }, 0, 9, bell 300 16, 300, bellRing 2, by decide +kernel⟩,
    ⟨{ dev := bellDev 0 }, 0, 9, bell 300 20, 300, bellRing 0, by decide +kernel⟩,
    ⟨{ dev := { live with aon := { live.aon with perstHigh := false } } }, by decide +kernel⟩,
    ⟨{ dev := live }, 63, 63, 160200, by decide +kernel, by decide +kernel, by decide +kernel, by decide +kernel, fun x h => nomatch h⟩,
    ⟨{ dev := slotDev }, 63, 63, 160899, aSlot, by decide +kernel⟩⟩

theorem witness_AdminRingsFollowTheirControl :
    (∃ (s : State) (f : Fin 64), s.dev.cmd.held = [] ∧ s.dev.pcieUp = true ∧ s.dev.running = true ∧ (s.dev.fn f.val).adminEn = false) ∧
    (∃ (s : State), s.dev.cmd.held = [] ∧ s.dev.pcieUp = true ∧ s.dev.running = true) ∧
    (∃ (s : State) (f : Fin 64), s.dev.cmd.held = [] ∧ (s.dev.fn f.val).adminEn = true ∧ (s.dev.fn f.val).adminReady = false ∧
      s.dev.blk bQUEUE = true ∧ s.dev.ready.caseR = 255 ∧ s.dev.mem.poolSpans = [] ∧ (s.dev.fn f.val).cmdSz = 0 ∧ (s.dev.fn f.val).rplSz = 0 ∧
      (s.dev.fn f.val).evtSz = 0) ∧
    (∃ (s : State) (f : Fin 64), s.dev.cmd.held = [] ∧ (s.dev.fn f.val).adminEn = false) :=
  ⟨⟨{ dev := live }, 63, by decide +kernel⟩,
    ⟨{ dev := live }, by decide +kernel⟩,
    ⟨{ dev := adminDev }, 63, by decide +kernel⟩,
    ⟨{ dev := live }, 63, by decide +kernel⟩⟩

theorem witness_RegisterAndSmbusAccesses :
    (∃ (s : State), s.dev.cmd.held = [] ∧ s.dev.pcieUp = true ∧ s.dev.running = true) ∧
    (∃ (s : State), s.dev.cmd.held = [] ∧ s.dev.pcieUp = true ∧ s.dev.running = true) ∧
    (∃ (s : State), s.dev.aon.vddAon = true) ∧
    (∃ (s : State), s.dev.aon.vddAon = false) :=
  ⟨⟨{ dev := live }, by decide +kernel⟩,
    ⟨{ dev := live }, by decide +kernel⟩,
    ⟨{ dev := smbDev }, by decide +kernel⟩,
    ⟨{ dev := offDev }, by decide +kernel⟩⟩

theorem witness_MemoryEventsComplete :
    (∃ (s : State) (f : _), s.dev.cmd.held = [] ∧ s.dev.mem.freq = some f ∧ f.running = true ∧ s.dev.mem.jobs = [] ∧ s.dev.queue.doorbells = []) ∧
    (∃ (s : State), s.dev.cmd.held = [] ∧ s.dev.mem.freq = none) ∧
    (∃ (s : State) (m : Fin 5), s.dev.cmd.held = [] ∧ (s.dev.memDev m.val).state = .rebuilding ∧ s.dev.imp.die.state ≠ 2 ∧ s.dev.shutDown = false ∧
      s.dev.mem.restores = []) ∧
    (∃ (s : State) (m : Fin 5), s.dev.cmd.held = [] ∧ ((s.dev.memDev m.val).state ≠ .rebuilding ∨ s.dev.imp.die.state = 2)) ∧
    (∃ (s : State) (m : Fin 5) (c : _), s.dev.cmd.held = [] ∧ (s.dev.memDev m.val).copies = [c] ∧ c.started = true) ∧
    (∃ (s : State) (m : Fin 5), s.dev.cmd.held = [] ∧ (s.dev.memDev m.val).copies = []) ∧
    (∃ (s : State) (m : Fin 5), (s.dev.memDev m.val).state ≠ .retired) ∧
    (∃ (s : State) (m : Fin 5), (s.dev.memDev m.val).state = .retired) ∧
    (∃ (s : State) (m : Fin 5) (b : _) (r : _), (tabGet {} (s.dev.memDev m.val).banks b).last = some r) ∧
    (∃ (s : State), s.dev.blk bMEMCTL = true ∧ s.dev.mem.outOfService = false ∧ s.dev.imp.die.state ≠ 2 ∧ s.dev.shutDown = false) ∧
    (∃ (s : State), (s.dev.mem.outOfService = true ∨ s.dev.imp.die.state = 2)) :=
  ⟨⟨{ dev := freqDev }, freqJob, by decide +kernel⟩,
    ⟨{ dev := live }, by decide +kernel⟩,
    ⟨{ dev := rebuildDev }, 4, by decide +kernel⟩,
    ⟨{ dev := live }, 4, by decide +kernel⟩,
    ⟨{ dev := copyDev }, 4, aCopy, by decide +kernel⟩,
    ⟨{ dev := live }, 4, by decide +kernel⟩,
    ⟨{ dev := live }, 4, by decide +kernel⟩,
    ⟨{ dev := retiredDev }, 4, by decide +kernel⟩,
    ⟨{ dev := idleDev }, 4, 31, 5, by decide +kernel⟩,
    ⟨{ dev := live }, by decide +kernel⟩,
    ⟨{ dev := hotDev }, by decide +kernel⟩⟩

theorem witness_LifecycleAndUpdateComplete :
    (∃ (s : State), s.dev.cmd.held = [] ∧ s.dev.mode.phase = .wipe) ∧
    (∃ (s : State), s.dev.cmd.held = [] ∧ s.dev.mode.phase ≠ .wipe) ∧
    (∃ (s : State) (e : _) (up : _), s.dev.cmd.held = [] ∧ s.dev.update.completing = some e ∧ s.dev.update.upload = some up ∧
      s.dev.update.isConfig = false) ∧
    (∃ (s : State) (e : _) (up : _), s.dev.cmd.held = [] ∧ s.dev.update.completing = some e ∧ s.dev.update.upload = some up ∧
      s.dev.update.isConfig = false) ∧
    (∃ (s : State), s.dev.cmd.held = [] ∧ s.dev.mode.updActive = true) ∧
    (∃ (s : State), s.dev.cmd.held = [] ∧ s.dev.mode.updActive = true) ∧
    (∃ (s : State), s.dev.cmd.held = [] ∧ s.dev.mode.updActive = false) ∧
    (∃ (s : State) (j : _), s.dev.cmd.held = [] ∧ s.dev.ret = some j) ∧
    (∃ (s : State), s.dev.cmd.held = [] ∧ s.dev.ret = none) :=
  ⟨⟨{ dev := wipeDev }, by decide +kernel⟩,
    ⟨{ dev := live }, by decide +kernel⟩,
    ⟨{ dev := stagedDev }, anEnv, anImage, by decide +kernel⟩,
    ⟨{ dev := stagedDev }, anEnv, anImage, by decide +kernel⟩,
    ⟨{ dev := switchDev }, by decide +kernel⟩,
    ⟨{ dev := switchDev }, by decide +kernel⟩,
    ⟨{ dev := live }, by decide +kernel⟩,
    ⟨{ dev := retDev }, retJob, by decide +kernel⟩,
    ⟨{ dev := live }, by decide +kernel⟩⟩

theorem witness_ErrorsAndTheJournal :
    (∃ (s : State) (e : ErrEvent), s.dev.cmd.held = [] ∧ s.dev.running = true ∧ e.fedBy = none ∧ e.real = true ∧ e.inj = false) ∧
    (∃ (s : State) (e : ErrEvent) (b : _) (x : _), s.dev.cmd.held = [] ∧ e.fedBy = some b ∧ e.real = true ∧ e.inj = false ∧ neverConseq e = false ∧
      s.dev.flt.shadows.find? (fun y => y.block == b) = some x) ∧
    (∃ (s : State) (b : _), s.dev.cmd.held = [] ∧ s.dev.flt.shadows.find? (fun y => y.block == b) = none) ∧
    (∃ (s : State) (b : _) (x : _), s.dev.cmd.held = [] ∧ s.dev.flt.shadows.find? (fun y => y.block == b) = some x) ∧
    (∃ (s : State) (b : _) (x : _) (e : ErrEvent), s.dev.cmd.held = [] ∧ s.dev.flt.shadows.find? (fun y => y.block == b) = some x ∧
      (e, x.cause) ∈ s.dev.flt.conseq) ∧
    (∃ (s : State), s.dev.aon.jbuf = []) ∧
    (∃ (s : State) (r : _), s.dev.imp.die.shutdown = false ∧ s.dev.aon.vddAon = true ∧ s.dev.aon.jbuf = [r] ∧ s.dev.flash.jcount % 1024 ≠ 0) ∧
    (∃ (s : State), s.dev.imp.die.shutdown = false ∧ s.dev.aon.vddAon = true ∧ s.dev.aon.jbuf ≠ [] ∧ s.dev.flash.needsErase = true ∧
      s.dev.flash.erases = []) ∧
    (∃ (s : State), s.dev.aon.vddAon = true) ∧
    (∃ (s : State) (e : _) (l : _), s.dev.flash.erases = e :: l ∧ (∀ x ∈ e :: l, x.running = false) ∧ s.dev.imp.die.shutdown = false ∧
      s.dev.imp.die.temp < 115 ∧ s.dev.imp.die.state ≠ 2) ∧
    (∃ (s : State), (s.dev.imp.die.shutdown = true ∨ 115 ≤ s.dev.imp.die.temp ∨ s.dev.imp.die.state = 2)) ∧
    (∃ (s : State) (e : _), s.dev.flash.erases = [e] ∧ e.running = true) ∧
    (∃ (s : State), s.dev.flash.erases = []) :=
  ⟨⟨{ dev := live }, anError, by decide +kernel⟩,
    ⟨{ dev := shadowDev }, fedError, .engine 33, aShadow, by decide +kernel⟩,
    ⟨{ dev := live }, .flash, by decide +kernel⟩,
    ⟨{ dev := shadowDev }, .engine 33, aShadow, by decide +kernel⟩,
    ⟨{ dev := shadowDev }, .engine 33, aShadow, fedError, by decide +kernel⟩,
    ⟨{ dev := live }, by decide +kernel⟩,
    ⟨{ dev := journalDev }, aRecord, by decide +kernel⟩,
    ⟨{ dev := fullDev }, by decide +kernel⟩,
    ⟨{ dev := live }, by decide +kernel⟩,
    ⟨{ dev := { live with flash := { erases := [queuedErase] } } }, queuedErase, [], by decide +kernel⟩,
    ⟨{ dev := hotDev }, by decide +kernel⟩,
    ⟨{ dev := { live with flash := { erases := [runningErase], busy := true } } }, runningErase, by decide +kernel⟩,
    ⟨{ dev := live }, by decide +kernel⟩⟩

theorem witness_ReactionsAndFailover :
    (∃ (s : State), s.dev.cmd.held = [] ∧ s.dev.flt.latched = []) ∧
    (∃ (s : State) (l : _), s.dev.cmd.held = [] ∧ s.dev.flt.latched = [l] ∧ l.ev.inj = false ∧ l.reaction = 0) ∧
    (∃ (s : State) (l : _) (ch : _), s.dev.cmd.held = [] ∧ s.dev.flt.latched = [l] ∧ l.ev.inj = false ∧ l.reaction = 2 ∧
      s.dev.mode.phase ≠ .returned ∧ ch ∈ s.dev.parkTargets l.ev ∧ (s.dev.chan ch).arm ≠ .parked ∧ (s.dev.chan ch).parkPend = none) ∧
    (∃ (s : State) (l : _), s.dev.cmd.held = [] ∧ s.dev.flt.latched = [l] ∧ l.ev.inj = false ∧ l.reaction = 6 ∧ s.dev.mode.phase ≠ .returned) ∧
    (∃ (s : State), s.dev.cmd.held = [] ∧ s.dev.mode.updActive = false ∧ s.dev.press.standbyReady = true) ∧
    (∃ (s : State), s.dev.cmd.held = [] ∧ s.dev.mode.updActive = false ∧ s.dev.press.standbyReady = false) ∧
    (∃ (s : State), s.dev.cmd.held = [] ∧ s.dev.mode.updActive = false) ∧
    (∃ (s : State), s.dev.cmd.held = [] ∧ s.dev.press.reloading = some false) ∧
    (∃ (s : State), s.dev.cmd.held = [] ∧ s.dev.press.reloading = some true) ∧
    (∃ (s : State), s.dev.cmd.held = [] ∧ s.dev.press.reloading = none) ∧
    (∃ (s : State), s.dev.cmd.held = []) :=
  ⟨⟨{ dev := live }, by decide +kernel⟩,
    ⟨{ dev := reactDev 0 }, latchedOf 0, by decide +kernel⟩,
    ⟨{ dev := reactDev 2 }, latchedOf 2, 0, by decide +kernel⟩,
    ⟨{ dev := reactDev 6 }, latchedOf 6, by decide +kernel⟩,
    ⟨{ dev := live }, by decide +kernel⟩,
    ⟨{ dev := { live with press := { active := true } } }, by decide +kernel⟩,
    ⟨{ dev := live }, by decide +kernel⟩,
    ⟨{ dev := { live with press := { active := true, reloading := some false, alt := true } } }, by decide +kernel⟩,
    ⟨{ dev := { live with press := { reloading := some true, alt := true } } }, by decide +kernel⟩,
    ⟨{ dev := live }, by decide +kernel⟩,
    ⟨{ dev := live }, by decide +kernel⟩⟩

/-! ### Witnesses of the hypotheses of the statements about the whole device -/

/-- An action of an opcode that is due on a device with nothing else waiting. -/
def dueCmd (op : Op) (target : Nat) (par : List Byte) : Cmd := live.commandOf op (pkt op 0 target par) liveRing
def dueSched (op : Op) (c : Cmd) : Sched := { tick := 160000, acc := 3, act := .cmd op c }
def dueOn (d : Device) (op : Op) (c : Cmd) : Device := { d with sched := [dueSched op c] }

theorem due_meets (d : Device) (op : Op) (c : Cmd) (h : d.time.tick = 160000) :
    (dueOn d op c).sched = [dueSched op c] ∧ (dueSched op c).tick ≤ (dueOn d op c).time.tick ∧ (dueSched op c).act = .cmd op c :=
  ⟨rfl, Nat.le_of_eq h.symm, rfl⟩

theorem witness_ScheduledActionsTakeEffect :
    live.time.tick = 160000 ∧ proofDev.time.tick = 160000 ∧
    (dueCmd .chAutorange (onCh 0) [1, 1, 0, 1, 1, 0, 0, 0]).u8 0 = 1 ∧ (dueCmd .chAutorange (onCh 0) [0, 1, 0, 1, 1, 0, 0, 0]).u8 0 = 0 ∧
    (live.chan 0).arm = .parked ∧ (live.chan 0).range.change = none ∧ (dueCmd .chFunction (onCh 0) (le32 1)).u32 0 ≠ (live.chan 0).cfg.func ∧
    (dueCmd .tsSelect (onCh 0) (le32 15)).scope = 1 ∧ (dueCmd .tsSelect 0 (le32 15)).scope = 0 ∧
    routeMode ({ live with edge := { pins := [(63, { route := 2 })] } }.pin 63).route ≠ 0 ∧ routeMode (dueCmd .mkRoute (onIdx 63) (le32 0)).idx ≠ 1 ∧
    (dueCmd .mkRoute (onIdx 63) (le32 0)).idx = 63 ∧ routeMode ((dueCmd .mkRoute (onIdx 63) (le32 0)).u32 0) ≠ 3 ∧
    ((monDev true false).mon 63).unsettled = false ∧ (live.commandOf .elPair (pkt .elPair 0 (onCh 0) []) liveRing).opf = 0 ∧
    (live.commandOf .elPair (pkt .elPair 16 (onCh 0) []) liveRing).opf = 1 ∧ proofDev.inProof = true ∧ proofDev.proof.injections = [] ∧
    proofDev.proof.perturbs = [] ∧ (dueCmd .prfInject 0 ([0, 0] ++ le16 0 ++ le32 1 ++ le32 1 ++ zeros 4)).u32 4 ≠ 0 ∧
    (dueCmd .calCommit (onCh 0) []).scope = 1 ∧ (live.chan 0).cal.group = 0 := by
  decide +kernel

theorem witness_DueActionsActInTheirOrder : ∃ (d : Device) (x y : Sched), x.tick ≤ d.time.tick ∧ y.tick ≤ d.time.tick ∧ x.acc < y.acc ∧
    (d.sched = [x, y] ∨ d.sched = [y, x]) :=
  ⟨{ live with sched := [{ dueSched .nop (dueCmd .nop 0 []) with acc := 4 }, dueSched .nop (dueCmd .nop 0 [])] },
    dueSched .nop (dueCmd .nop 0 []), { dueSched .nop (dueCmd .nop 0 []) with acc := 4 }, by decide +kernel, by decide +kernel, by decide, Or.inr rfl⟩

theorem witness_FrameTick : ∃ b, b < 22 := ⟨21, by decide⟩

/-- The premise of the outputs' invariant holds in the reset state, and a FRAME_TICK is answered there. -/
theorem witness_OutputsFollowEveryStep : ∃ s t : State,
    ((s.dev.pins.faultN = true ↔ s.dev.mode.phase ≠ .off ∧ s.dev.mode.phase ≠ .held ∧ (s.dev.aon.force = true ∨ s.dev.flt.pf ≠ 0)) ∧
     (s.dev.pins.evtN = true ↔ s.dev.mode.phase ≠ .off ∧ s.dev.mode.phase ≠ .held ∧ (s.dev.fn 0).evtn = true ∧
       ((s.dev.fn 0).intStatus &&& (s.dev.fn 0).intMask) % 32 ≠ 0) ∧
     (s.dev.pins.smbAlertN = true ↔ s.dev.mode.phase ≠ .off ∧ s.dev.mode.phase ≠ .held ∧
       (s.dev.aon.force = true ∨ s.dev.flt.pf ≠ 0 ∨ s.dev.imp.die.state ≠ 0)) ∧
     s.dev.pins.vfSummary = s.dev.fns.foldl (fun w f => w + (if (f.2.intStatus &&& f.2.intMask) % 32 = 0 then 0 else 2 ^ f.1)) 0) ∧
    s.pending ≠ [] ∧ step s = .next t :=
  ⟨{ State.reset with pending := [.frameTick] }, _, by decide +kernel, by decide, rfl⟩

theorem witness_FaultnFollowsItsControl :
    (∃ (c : Instr) (s t : State), exec c s = .next t) ∧
    (∃ (s : State), s.dev.cmd.held = [] ∧ s.dev.reg.state ≠ .registered ∧ s.dev.pcieUp = true ∧ s.dev.running = true) :=
  ⟨⟨.frameTick, State.reset, _, rfl⟩, ⟨{ dev := live }, by decide +kernel⟩⟩

theorem witness_ModesAreReportedInTheirOrder : ∃ d : Device, d.otp.lc < 4 := ⟨live, by decide +kernel⟩

theorem witness_TimestampsChooseTheFirstBoundary : ∃ (d : Device) (frame least : Nat), 0 < d.time.n ∧ d.time.frame ≤ frame ∧ 0 < least :=
  ⟨live, 10, 500000, by decide +kernel⟩

/-- A packet's command starts at once. -/
def startsB (d : Device) (op : Op) (p : Packet) : Bool :=
  match d.ring? p.qid.toNat with
  | none => false
  | some r =>
    d.running && d.cmd.held.isEmpty && (r.kind == 0 && r.fn == p.fn.val && !r.halt) && d.ringSound p.qid.toNat &&
      ((d.arrived p).holds op p.fn.val p.qid.toNat p.body []).isNone

theorem starts_of {d : Device} {op : Op} {p : Packet} {r : Ring} (hr : d.ring? p.qid.toNat = some r) (h : startsB d op p = true) : d.Starts op p r := by
  unfold startsB at h
  rw [hr] at h
  simp only [Bool.and_eq_true, Option.isNone_iff_eq_none, List.isEmpty_iff, beq_iff_eq, Bool.not_eq_true'] at h
  exact { running := h.1.1.1.1, unheld := h.1.1.1.2, ring := hr, mine := ⟨h.1.1.2.1.1, h.1.1.2.1.2, h.1.1.2.2⟩, sound := h.1.2, free := h.2 }

theorem witness_RefusedCommandsChangeNothing :
    (∃ (d : Device) (op : Op) (p : Packet) (r : Ring) (st : Nat) (pl : List Byte), d.Starts op p r ∧
      firstFail ((d.takenBy op p r).headChecks op (d.commandOf op p r) p.body (bodyLengthOk p.body)) = some (st, pl)) ∧
    (∃ (d : Device) (op : Op) (p : Packet) (r : Ring) (st : Nat) (pl : List Byte), d.Starts op p r ∧
      firstFail ((d.takenBy op p r).headChecks op (d.commandOf op p r) p.body (bodyLengthOk p.body)) = none ∧
      ¬((d.arrived p).time.now < (d.commandOf op p r).nb ∧ (!op.leads) = true) ∧
      firstFail ((d.takenBy op p r).stateChecks op (d.commandOf op p r)) = some (st, pl)) ∧
    (∃ (op : Op) (c : Cmd) (d : Device), op ≠ .calCommit ∧ op ≠ .memRead ∧ (op.run c d).1 = .done stNOT_READY [] ∧ stNOT_READY ≠ stOK ∧
      stNOT_READY ≠ stJUMP_DEFERRED) ∧
    (∃ d : Device, d.running = false) :=
  ⟨⟨live, .chArm, pkt .chArm 0 (onCh 0) (zeros 4), liveRing, stBAD_LENGTH, le32 0xFFFFFFFF, starts_of (by decide +kernel) (by decide +kernel), by decide +kernel⟩,
    ⟨live, .memFreq, pkt .memFreq 0 0 (val 16 1), liveRing, stWRONG_MODE, [], starts_of (by decide +kernel) (by decide +kernel), by decide +kernel,
      by decide +kernel, by decide +kernel⟩,
    ⟨.fmJump, dueCmd .fmJump (onCh 0) (le32 0), live, by decide, by decide, by decide +kernel, by decide, by decide⟩,
    ⟨heldDev, by decide +kernel⟩⟩

theorem witness_TheEarliestHardParkStands :
    (∃ (d : Device) (ch : Nat), (d.chan ch).arm = .parked ∧ (d.chan ch).armReq = none) ∧ (∃ (d : Device) (ch : Nat), (d.chan ch).arm ≠ .parked) :=
  ⟨⟨live, 511, by decide +kernel⟩, ⟨armedDev, 0, by decide +kernel⟩⟩

def askingDev : Device := live.setChan 0 { cal := { ask := some (31, 7) } }

theorem witness_BlockWordsHoldTheirFields :
    (∃ (d : Device) (l : Nat) (x : Desc) (q r : Nat) (p n : Int), (d.link l).desc = some x ∧
      (d.chan (d.chanOfLink l)).loop.clamp.getD ((d.chan (d.chanOfLink l)).clamps x) = (q, r, p, n) ∧ q < 2 ∧ r < 16 ∧
      (d.chan (d.chanOfLink l)).cfg.tset < 16) ∧
    (∃ (d : Device) (l mgmt code path : Nat) (relay : Bool) (rs rk : Nat), d.linkUp l = true ∧
      d.blockState (d.chanOfLink l) = (code, path, relay) ∧ code < 2 ^ 18 ∧ path < 2 ∧ mgmt < 1024 ∧
      (d.chan (d.chanOfLink l)).cal.ask = some (rs, rk) ∧ rs < 32 ∧ rk < 8 ∧ (d.chan (d.chanOfLink l)).range.change = none ∧
      (d.chan (d.chanOfLink l)).range.v < 8 ∧ (d.chan (d.chanOfLink l)).range.i < 16) :=
  ⟨⟨live.setChan 0 { cfg := { tset := 15 }, loop := { clamp := some (1, 15, 2047, -2048) } }, 0, benchDesc, 1, 15, 2047, -2048, by decide +kernel⟩,
    ⟨askingDev, 0, 1023, (askingDev.blockState 0).1, (askingDev.blockState 0).2.1, (askingDev.blockState 0).2.2, 31, 7, by decide +kernel⟩⟩

/-- A ring whose next packet runs round its end. -/
def wrapRing : Ring := { kind := 2, headA := 4092, tailA := 4092 }

theorem witness_ProducedPacketsAreReadBackWhole : ∃ (d : Device) (q : Nat) (r : Ring) (body : List Byte) (entries : Nat) (irq : Bool),
    d.ring? q = some r ∧ r.headA % 4 = 0 ∧ r.size ≤ 20 ∧ r.headA < 2 ^ 32 ∧ r.tailA < 2 ^ 32 ∧ r.pool = false ∧
    (d.produceRaw q body entries irq).2 = true :=
  ⟨withRing 300 wrapRing, 300, wrapRing, [1, 2, 3, 4, 5], 1, true, by decide +kernel⟩

theorem witness_CellsAreReadAsTheyWereSent :
    (∃ ty len origin dest hops : Nat, ty < 256 ∧ len < 8 ∧ origin < 1024 ∧ dest < 1024 ∧ hops < 128) ∧
    (∃ (d : Device) (p id tk : Nat), d.zhepinOn = true ∧ p < 6 ∧ d.reg.state = .registered ∧ d.reg.id = some id ∧ id < 1024 ∧ d.reg.tkId = some tk ∧
      tk < 1024 ∧ d.reg.n < 64 ∧ d.reg.m < 64 ∧ d.reg.e < 32 ∧ d.time.n < 2 ^ 14 ∧ d.reg.path < 64 ∧ d.estimate d.time.tick < 2 ^ 64) :=
  ⟨⟨255, 7, 1023, 1023, 127, by decide⟩, ⟨memberDev, 5, 3, 0, by decide +kernel⟩⟩

/-! ### Commands that are not well formed -/

/-- The command packet of section 13's worked example: CH_SETPOINT 2.5 V for CH37 of device 112. -/
def setpointExample : List Byte :=
  [0x02, 0x01, 0x00, 0x01, 0x28, 0x00, 0x00, 0x00, 0x07, 0x00, 0x00, 0x00, 0x70, 0x54, 0x02, 0x00, 0x15, 0x00, 0x00, 0x00, 0x00, 0x00, 0x00, 0x00,
   0x00, 0x00, 0x00, 0x00, 0x00, 0x00, 0x00, 0x00, 0x00, 0x00, 0x20, 0x40, 0x00, 0x00, 0x00, 0x00]

def packetOf (l : List Byte) : Packet := { fn := 5, qid := 20, at_ := 0, body := l }

theorem test_example_packet_is_well_formed : (Instr.chSetpoint (packetOf setpointExample)).wellFormed = true := by decide +kernel
theorem test_other_opcode_is_ill_formed : (Instr.chRange (packetOf setpointExample)).wellFormed = false := by decide +kernel
theorem test_assign_flag_is_ill_formed : (Instr.chSetpoint (packetOf (setpointExample.set 2 8))).wellFormed = false := by decide +kernel
theorem test_assign_row_needs_the_flag : (Instr.assign (packetOf setpointExample)).wellFormed = false := by decide +kernel
theorem test_opcode_flags_tell_the_row :
    ((Instr.chParkSoft (pkt .chPark 0 (onCh 1) [])).wellFormed, (Instr.chParkSoft (pkt .chPark 16 (onCh 1) [])).wellFormed) = (false, true) := by
  decide +kernel
theorem test_first_byte_tells_the_row :
    ((Instr.setModeRun (pkt .setMode 0 0 [3, 0, 0, 0])).wellFormed, (Instr.setModeRun (pkt .setMode 0 0 [4, 0, 0, 0])).wellFormed) = (false, true) := by
  decide +kernel
theorem test_rows_have_a_limit : ((Instr.scrub 32767).wellFormed, (Instr.scrub 32768).wellFormed) = (true, false) := by decide
theorem test_banks_have_a_limit : ((Instr.refreshDeadline 0 63).wellFormed, (Instr.refreshDeadline 0 64).wellFormed) = (true, false) := by decide
theorem test_idle_pages_have_a_limit : (Instr.pageIdleTimeout 0 64).wellFormed = false := by decide
theorem test_shares_have_a_limit : ((Instr.shareSilenceTimeout 287).wellFormed, (Instr.shareSilenceTimeout 288).wellFormed) = (true, false) := by decide
theorem test_pages_are_256_bytes : ((Instr.pageData 0 0 (zeros 256)).wellFormed, (Instr.pageData 0 0 (zeros 255)).wellFormed) = (true, false) := by
  decide +kernel
theorem test_slots_are_64_bytes : (Instr.fastSlotWrite 0 0 (zeros 63) 0).wellFormed = false := by decide +kernel
theorem test_registers_are_words : ((Instr.registerWrite 0 4 0).wellFormed, (Instr.registerWrite 0 6 0).wellFormed) = (true, false) := by decide
theorem test_no_word_spells_a_command : decodeTableWord 32 0x0102 = none := by decide

/-! ### Worked examples of the specification -/

/-- R360's example (section 13): the fields read from the bytes. -/
theorem test_header_fields :
    (Packet.opcode setpointExample, Packet.length setpointExample, Packet.folio setpointExample, Packet.target setpointExample,
     Packet.replyQ setpointExample) = (0x0102, 40, 7, 0x00025470, 21) := by decide +kernel
theorem test_example_opcode : Op.code .chSetpoint = 0x0102 := by decide

/-- Section 13: 2.5 is 0x40200000. -/
theorem test_binary32 : ratToF32 (5 / 2) = 0x40200000 ∧ f32ToRat 0x40200000 = 5 / 2 := by decide +kernel

/-- R47: E(25), E(29), E(30), E(33), E(50). -/
theorem test_engine_budget : [25, 29, 30, 33, 50].map engineBudget = [300, 380, 400, 460, 720] := by decide

/-- Section 2's slot 3: four FVZ channels with overlap ranging and 4 pairs, two CP, one MV with 4 pairs, one OFF. -/
def slot3 : Device :=
  let x : Desc := { benchDesc with pmax := 16 }
  let fvz : Chan := { cfg := { func := 3, digMode := 2, pairs := 4 }, range := { ovEn := true } }
  let cp : Chan := { cfg := { func := 5 } }
  { live with
    chans := [(24, fvz), (25, fvz), (26, fvz), (27, fvz), (28, cp), (29, cp), (30, { cfg := { func := 6, digMode := 2, pairs := 4 } })]
    links := (offsets 24 31).map fun l => (l, { state := .up, active := true, desc := some x }) }

/-- R48, R49 (section 2): 460 cycles at N = 50; 445 at N = 30, over E = 400; N = 33 fits. -/
theorem test_slot_costs :
    (slot3.slotCost 50 3, slot3.overBudget 50, slot3.slotCost 30 3, slot3.overBudget 30, slot3.overBudget 33) =
    (460, none, 445, some (le32 3 ++ le32 445 ++ le32 400), none) := by decide +kernel

/-- R48: five FV and three OFF channels cost 278 cycles; a sixth FV channel makes 312, which does not fit E(25) = 300. -/
theorem test_fv_costs :
    let fv (n : Nat) : Device := { live with chans := (List.range n).map fun i => (i, { cfg := { func := 1 } }) }
    ((fv 5).slotCost 25 0, (fv 5).overBudget 25, (fv 6).slotCost 25 0, (fv 6).overBudget 25) =
    (278, none, 312, some (le32 0 ++ le32 312 ++ le32 300)) := by decide +kernel

/-- Section 3's constant-power load: Pset = 10 W, Vfloor = 2 V. -/
theorem test_constant_power :
    cpCurrent 10 2 12 = -(10 / 12) ∧ cpCurrent 10 2 2 = -5 ∧ cpCurrent 10 2 (3 / 2) = -(15 / 4) ∧ cpCurrent 10 2 (1 / 20) = -(1 / 8) := by
  decide +kernel

/-- R69: a path with a = 0 and no proportional part: 0.50 and 0.51 are accepted, 0.52 and 0.55 refused. -/
theorem test_loop_moduli :
    [50, 51, 52, 55].map (fun k => polyOk (charPoly 0 1 0 ((k : Rat) / 100))) = [true, true, false, false] := by decide +kernel

/-- R198: samples -1 and +100 in the first bytes of a line, and M0 of sample 5. -/
theorem test_line_samples :
    let l : List Byte := [0xFF, 0xFF, 0x93, 0x01, 0x00] ++ zeros 50 ++ [0x04] ++ zeros 8
    (lineSample l 0, lineSample l 1, lineSample l 2, lineMarks l 4, lineMarks l 5) = (-1, 100, 0, 0, 1) := by decide +kernel

/-- R205: the pulsed staircase of 20 steps of 100 frames, without and with RETURN. -/
theorem test_generated_lengths : (genLength 20 100 false, genLength 20 100 true) = (2000, 3900) := by decide

/-- Section 10's battery on SUP4: OCV 3.0..4.2 V, Rint 0.02, eta 0.9, eta_r 0.85, P_q 2 W, no limit in the way. -/
def cyclingLoad : LoadCtx :=
  { m := { model := 1, points := 2, r := ratToF32 (1 / 50), eta := ratToF32 (9 / 10), etaR := ratToF32 (17 / 20), pq := ratToF32 2
           ocv := [ratToF32 3, ratToF32 (21 / 5)] }
    vPos := 100, vNeg := -100, iPos := 100, iNeg := -100, regenMax := 40 }

/-- A value in thousandths. -/
def milli (q : Rat) : Int := (q * 1000 + 1 / 2).floor

/-- R300, R301 (section 10): charge [32, 44] W draws 50.889 W and heats 6.889 W; discharge [-40, -28] W draws -21.8 W and heats 8 W. -/
theorem test_load_draws :
    ((cyclingLoad.interval 2 10).map fun p => (milli p.1, milli p.2, milli (cyclingLoad.point p).1, milli (cyclingLoad.point p).2.1)) =
      some (32000, 44000, 50889, 6889) ∧
    ((cyclingLoad.interval 2 (-10)).map fun p => (milli p.1, milli p.2, milli (cyclingLoad.point p).1, milli (cyclingLoad.point p).2.1)) =
      some (-40000, -28000, -21800, 8000) := by decide +kernel

/-- R447 (section 15): A = 0x123456780 lies in stripe 4,772,185, unit 3 on MD3, channel 1, bank 6, column unit 5, row 9,320. -/
theorem test_memory_mapping :
    (stripeOf 0x123456780, unitOf 0x123456780, unitDev 4772185 3, parityDev 4772185, parityDev 4772186) = (4772185, 3, 3, 4, 3) ∧
    (bankOf 4772185, columnOf 4772185, rowOf 4772185) = (1 * 16 + 6, 5, 9320) := by decide +kernel

/-- R331 (section 11): the exchange's theta = -370.5 and delta = 160 tick units. -/
theorem test_exchange :
    (meanStamp [32 * 1000160 - (32 * 1000370 + 16) + (32 * 1000320 - (32 * 1000850 + 16))] / 2, roundHalfUp (-741 / 2)) = (-741 / 2, -370) := by
  decide +kernel

/-- R181 (section 6): TS3 at 4,800 and 2,400 with t_u = 128.03 and then 130.11. -/
theorem test_table_entries :
    [4800 - 12803 / 100, 2400 - 12803 / 100, 4800 - 13011 / 100, 2400 - 13011 / 100].map roundUp = [4672, 2272, 4670, 2270] := by decide +kernel

/-- Check values of the CRCs' parameters (R153, R197, R360) on the nine digits. -/
theorem test_crcs :
    let l : List Byte := [0x31, 0x32, 0x33, 0x34, 0x35, 0x36, 0x37, 0x38, 0x39]
    (crc8From 0x2F 0xFF l ^^^ 0xFF, crc32 l) = (0xDF, 0xCBF43926) := by decide +kernel

end Sys2Proof.Tests
end

section
/-! PROOFS. The mode, frame and block-reset commands (R29, R36, R38, R41, R388). -/

namespace Sys2Proof.Machine

/-! ### Boundaries (R60) -/

theorem le_ceilNat (q : Rat) : q ≤ (ceilNat q : Rat) := by
  have hfloor : q ≤ -((-q).floor : Rat) := by simpa only [Rat.neg_neg] using Rat.neg_le_neg (Rat.floor_le (-q))
  have hnat : ((-(-q).floor : Int) : Rat) ≤ ((ceilNat q : Int) : Rat) := Rat.intCast_le_intCast.mpr (Int.self_le_toNat _)
  rw [Rat.intCast_neg, Rat.intCast_natCast] at hnat
  exact Rat.le_trans hfloor hnat

/-- The whole steps that `ceilNat` counts cover the span. -/
theorem le_ceilNat_div_mul (span : Nat) {w : Nat} (hw : 0 < w) : span ≤ ceilNat ((span : Rat) / (w : Rat)) * w := by
  have hpos : (0 : Rat) < (w : Rat) := Rat.natCast_pos.mpr hw
  have hcover := Rat.mul_le_mul_of_nonneg_right (le_ceilNat ((span : Rat) / (w : Rat))) (Rat.le_of_lt hpos)
  rw [Rat.div_mul_cancel (Rat.ne_of_gt hpos), ← Rat.natCast_mul] at hcover
  exact Rat.natCast_le_natCast.mp hcover

/-- A boundary is not before the instant it is asked for, while frames have a length. -/
theorem Device.le_boundaryAt (d : Device) (frame least : Nat) (hn : 0 < d.time.n) : least ≤ d.boundaryAt frame least := by
  unfold Device.boundaryAt
  extract_lets base
  split
  · assumption
  · rw [Nat.max_eq_left (by omega : 1 ≤ 160 * d.time.n)]
    have hcover := le_ceilNat_div_mul (least - base) (by omega : 0 < 160 * d.time.n)
    omega

/-! ### The modes a command finds -/

theorem Device.not_inStandby_of_inSafe {d : Device} (h : d.inSafe = true) : d.inStandby = false := by
  simp only [Device.inSafe, Bool.and_eq_true] at h
  simp [Device.inStandby, h.2]

/-! ### What the opcodes answer where they accept -/

/-- SET_MODE SAFE that is accepted (R36). -/
theorem runSetMode_safe {c : Cmd} {d : Device} (ha : c.atNow = false) (hc : c.u32 0 = 7) (hg : (runSetMode c d).1.good = true) :
    runSetMode c d = okBoundary (if d.inSafe then d else d.askMode (d.nextBoundary c) c.acc (.safe 1)) (d.nextBoundary c) := by
  simp only [runSetMode, hc, if_true, Device.boundary_ahead ha, Device.commandMode_ahead ha] at hg ⊢
  exact checked_good (by simp [stWRONG_MODE, stOK, stJUMP_DEFERRED]) hg

/-- SET_MODE STANDBY that is accepted (R36). -/
theorem runSetMode_standby {c : Cmd} {d : Device} (ha : c.atNow = false) (hc : c.u32 0 = 3) (hg : (runSetMode c d).1.good = true) :
    runSetMode c d = okBoundary (if d.inStandby then d else d.askMode (d.nextBoundary c) c.acc .standby) (d.nextBoundary c) := by
  simp only [runSetMode, hc, Nat.reduceEqDiff, if_false, Device.boundary_ahead ha, Device.commandMode_ahead ha] at hg ⊢
  exact checked_good (by simp [stWRONG_MODE, stBUSY, stFAULT_ACTIVE, stOK, stJUMP_DEFERRED]) hg

/-- The device that SET_MODE RUN leaves in STANDBY: its engines wake, and RUN waits for the boundary after they run (R29). -/
def Device.wakesAt (d : Device) (c : Cmd) (b : Nat) : Device :=
  ({ d with mode := { d.mode with waking := some b } } : Device).askMode b c.acc .run

/-- SET_MODE RUN that is accepted (R29, R36). -/
theorem runSetMode_run {c : Cmd} {d : Device} (ha : c.atNow = false) (hc : c.u32 0 = 4) (hg : (runSetMode c d).1.good = true) :
    runSetMode c d =
      if d.inStandby then
        let w := d.wakeBoundary d.time.now (d.nextBoundary c)
        okBoundary (w.2.wakesAt c w.1) w.1
      else okBoundary (if d.inSafe then d.askMode (d.nextBoundary c) c.acc .run else d) (d.nextBoundary c) := by
  simp only [runSetMode, hc, Nat.reduceEqDiff, if_false, if_true, Device.boundary_ahead ha, Device.commandMode_ahead ha] at hg ⊢
  exact checked_good (by simp [stWRONG_MODE, stFAULT_ACTIVE, stOK, stJUMP_DEFERRED]) hg

/-- The engines that wake run at a boundary no earlier than the least one asked for (R29). -/
theorem Device.le_wakeBoundary (d : Device) (t least : Nat) (hn : 0 < d.time.n) : least ≤ (d.wakeBoundary t least).1 :=
  Nat.le_trans (Nat.le_max_left ..) (Device.le_boundaryAt d.free.2 _ _ hn)

theorem Device.wakeBoundary_body (d : Device) (c : Cmd) (t least b : Nat) :
    ((d.wakeBoundary t least).2.wakesAt c b).body = (d.wakesAt c b).body := rfl

/-- The mode refuses SET_FRAME with a status that does not accept (R40). -/
theorem saneCheck_setFrameMode (d : Device) :
    saneCheck (d.setFrameMode.isSome, d.setFrameMode.getD stWRONG_MODE, []) = true := by
  unfold Device.setFrameMode
  split
  · split <;> rfl
  · split <;> rfl
  · rfl

theorem setFrameChecks_sane (d : Device) (c : Cmd) : saneChecks (d.setFrameChecks c) = true := by
  unfold Device.setFrameChecks
  simp only [saneChecks_append, saneChecks_cons, saneCheck_setFrameMode]
  split <;> simp [stBUSY, stFRAME_BUDGET, stOK, stJUMP_DEFERRED]

/-- SET_FRAME that is accepted waits for its boundary, the front-ends' CONFIG sent ahead (R41, R190; log 77). -/
theorem runSetFrame_accepted {c : Cmd} {d : Device} (ha : c.atNow = false) (hg : (runSetFrame c d).1.good = true) :
    runSetFrame c d = (.later, ((d.links.map (·.1)).filter d.linkUp).foldl (fun d l => d.stageOnLink l (d.configFor l (c.u32 0)))
      { d with time := { d.time with setFrame := d.time.setFrame ++ [(d.nextBoundary c, c.u32 0, c.env)] } }) := by
  have hrun : runSetFrame c d = _ := checked_good (setFrameChecks_sane d c) hg
  rw [hrun, if_neg (by simp [ha]), Device.boundary_ahead ha]
  rfl

/-- RESET_BLOCK that is accepted (R388). -/
theorem runResetBlock_accepted {c : Cmd} {d : Device} (hg : (runResetBlock c d).1.good = true) :
    runResetBlock c d = (.interim stACCEPTED [], d.resetBlock (c.u16 0) (c.u16 2) (some c.env) 0) :=
  checked_good (by simp [stBUSY, stOK, stJUMP_DEFERRED]) hg

/-! ### What RESET_BLOCK does to the ready words and the resets under way (R388, R508) -/

/-- A part of the device that the channels' records are no part of stays as their calibration units change. -/
theorem Device.onCal_fold_frame {α : Type} (g : Device → α) (hg : ∀ (d : Device) (i : Nat) (x : Chan), g (d.setChan i x) = g d)
    (f : CalUnit → CalUnit) (l : List Nat) (d : Device) : g (d.each l fun d ch => d.onCal ch f) = g d := by
  unfold Device.each
  induction l generalizing d with
  | nil => rfl
  | cons ch l ih => exact (ih _).trans (hg d ch _)

/-- RESET_BLOCK puts the block among the resets under way and has its ready bit cleared at the next boundary; the blocks' own work
touches neither (R388, R508). -/
theorem Device.resetBlock_marks (d : Device) (b u : Nat) (e : Option Env) (cause : Nat) :
    (d.resetBlock b u e cause).resets = d.resets ++ [{ bit := b, unit := u, env := e }] ∧
    (d.resetBlock b u e cause).ready = if b ≤ 8 then { d.ready with engClr := setBit d.ready.engClr u }
      else { d.ready with blkClr := setBit d.ready.blkClr (resetReadyBit b) } := by
  unfold Device.resetBlock
  by_cases hb : b ≤ 8
  · simp only [if_pos hb]; exact ⟨rfl, rfl⟩
  · simp only [if_neg hb]
    split
    · exact ⟨Device.onCal_fold_frame (·.resets) (fun _ _ _ => rfl) .., Device.onCal_fold_frame (·.ready) (fun _ _ _ => rfl) ..⟩
    · split
      · exact ⟨rfl, rfl⟩
      · split <;> exact ⟨rfl, rfl⟩

/-! ### A packet of SET_MODE RUN that wakes the engines (R29) -/

theorem Device.takenBy_time (d : Device) (op : Op) (p : Packet) (r : Ring) : (d.takenBy op p r).time = (d.at p.at_).time :=
  (congrArg Device.time (Device.takenBy_body d op p r) :)

theorem Device.takenBy_time_n (d : Device) (op : Op) (p : Packet) (r : Ring) : (d.takenBy op p r).time.n = d.time.n :=
  (congrArg Timebase.n (Device.takenBy_time d op p r) :)

/-- SET_MODE RUN accepted in STANDBY: the engines wake, at a boundary no earlier than the command's (R29; log 22). -/
theorem exec_setModeRun_wakes {s : State} {p : Packet} {r : Ring} (h : s.dev.Accepted .setMode p r) (hr : s.dev.reg.state ≠ .registered)
    (hc : (s.dev.commandOf .setMode p r).u32 0 = 4) (hs : (s.dev.takenBy .setMode p r).inStandby = true) (hn : 0 < s.dev.time.n) :
    ∃ t b, exec (.setModeRun p) s = .next t ∧ t.pending = s.pending ∧
      (s.dev.takenBy .setMode p r).nextBoundary (s.dev.commandOf .setMode p r) ≤ b ∧
      t.dev.body = ((s.dev.takenBy .setMode p r).wakesAt (s.dev.commandOf .setMode p r) b).body := by
  have hrun : Op.setMode.run (s.dev.commandOf .setMode p r) (s.dev.takenBy .setMode p r) = _ :=
    runSetMode_run (Device.commandOf_atNow ..) hc h.good
  rw [if_pos hs] at hrun
  refine ⟨s.onDevX fun d => d.submit .setMode p, _, rfl, rfl,
    Device.le_wakeBoundary (s.dev.takenBy .setMode p r) (s.dev.takenBy .setMode p r).time.now _ (by rwa [Device.takenBy_time_n]), ?_⟩
  rw [State.submit_accepted_body h hr, hrun]
  exact Device.wakeBoundary_body ..

/-- Settles O4: each accepted form is the opcode's function with its checks passed; the wake is the one form whose boundary is a free value. -/
theorem systemCommandsComplete : Obligations.SystemCommandsComplete := by
  refine ⟨?safe, ?safeStays, ?standby, ?standbyStays, ?run, ?runStays, ?wake, ?frame, ?reset, ?resetEffect⟩
  case safe =>
    exact completes_of_run (fun _ _ => rfl) fun c d ha ⟨hc, hm⟩ hg =>
      (runSetMode_safe ha hc hg).trans (by rw [hm]; rfl)
  case safeStays =>
    exact completes_of_run (fun _ _ => rfl) fun c d ha ⟨hc, hm⟩ hg =>
      (runSetMode_safe ha hc hg).trans (by rw [hm]; rfl)
  case standby =>
    exact completes_of_run (fun _ _ => rfl) fun c d ha ⟨hc, hm⟩ hg =>
      (runSetMode_standby ha hc hg).trans (by rw [hm]; rfl)
  case standbyStays =>
    exact completes_of_run (fun _ _ => rfl) fun c d ha ⟨hc, hm⟩ hg =>
      (runSetMode_standby ha hc hg).trans (by rw [hm]; rfl)
  case run =>
    exact completes_of_run (fun _ _ => rfl) fun c d ha ⟨hc, hm⟩ hg =>
      (runSetMode_run ha hc hg).trans (by rw [hm, Device.not_inStandby_of_inSafe hm]; rfl)
  case runStays =>
    exact completes_of_run (fun _ _ => rfl) fun c d ha ⟨hc, hb, hm⟩ hg =>
      (runSetMode_run ha hc hg).trans (by rw [hb, hm]; rfl)
  case wake => exact fun s p r h hr hc hs hn => exec_setModeRun_wakes h hr hc hs hn
  case frame => exact completes_of_run (fun _ _ => rfl) fun c d ha _ hg => runSetFrame_accepted ha hg
  case reset => exact completes_of_run (fun _ _ => rfl) fun c d _ _ hg => runResetBlock_accepted hg
  case resetEffect =>
    intro d b u e
    obtain ⟨hresets, hready⟩ := d.resetBlock_marks b u e 0
    rw [hready]
    refine ⟨hresets, ?_, ?_⟩ <;> split <;> rfl

end Sys2Proof.Machine
end

section
/-! PROOFS. MODE_STATUS: the order of the modes and the condition flags (R24, R25). -/

namespace Sys2Proof.Machine

/-! ### The bits of a word of flags -/

theorem bit_bitsNat (l : List Bool) (i : Nat) : bit (bitsNat l) i = l.getD i false := by
  induction l generalizing i with
  | nil => simp [bitsNat, bit]
  | cons b l ih =>
    cases i with
    | zero => cases b <;> simp [bitsNat, bit]
    | succ i =>
      have hstep : bitsNat (b :: l) / 2 ^ (i + 1) = bitsNat l / 2 ^ i := by
        rw [Nat.pow_succ', ← Nat.div_div_eq_div_mul]
        congr 1
        cases b
        · simp [bitsNat]
        · simp only [bitsNat, if_true]; omega
      simpa [bit, hstep] using ih i

theorem bitsNat_lt (l : List Bool) : bitsNat l < 2 ^ l.length := by
  induction l with
  | nil => simp [bitsNat]
  | cons b l ih => cases b <;> simp [bitsNat, Nat.pow_succ] <;> omega

/-- Above the bits that a low part takes, a word reads as its flags. -/
theorem bit_above {low n : Nat} (h : low < 2 ^ n) (l : List Bool) (i : Nat) : bit (low + 2 ^ n * bitsNat l) (n + i) = l.getD i false := by
  rw [← bit_bitsNat]
  unfold bit
  rw [Nat.pow_add, ← Nat.div_div_eq_div_mul, Nat.add_mul_div_left _ _ (Nat.two_pow_pos n), Nat.div_eq_of_lt h, Nat.zero_add]

/-! ### MODE_STATUS (R24, R25) -/

/-- The condition flags of MODE_STATUS from bit 16 up (R25). -/
def Device.conditions (d : Device) : List Bool :=
  [d.derate, d.spareInUse, d.memRet, d.press.alt, d.oneLink, d.time.localTime, d.flt.pf ≠ 0, d.mode.memPark, d.mode.updStaged, d.mode.updActive,
   !d.proof.injections.isEmpty || !d.proof.perturbs.isEmpty, d.mode.safePend, d.mode.recovery, d.edge.mons.any fun m => m.2.wakeEn]

theorem flag_eq (b : Bool) (i : Nat) : flag b i = (if b then 1 else 0) * 2 ^ i := by cases b <;> simp [flag]

theorem Device.modeStatus_eq (d : Device) :
    d.modeStatus = d.mode.code d.degraded d.derate + d.otp.lc * 256 + 2 ^ 16 * bitsNat d.conditions := by
  simp only [Device.modeStatus, Device.conditions, bitsNat, flag_eq]
  omega

/-- The modes are reported in the order of R24. -/
theorem ModeUnit.code_eq (m : ModeUnit) (degraded derated : Bool) : m.code degraded derated =
    if m.phase = .off then 0 else if m.phase = .held then 1 else if m.phase = .bringUp then 2 else if m.phase = .wipe then 10
    else if m.phase = .returned then 11 else if m.safe = true then 7 else if m.update = true then 9 else if m.proof = true then 8
    else if m.standby = true then 3 else if degraded = true then 6 else if derated = true then 5 else 4 := by
  unfold ModeUnit.code
  cases m.phase <;> rfl

theorem ModeUnit.code_lt (m : ModeUnit) (degraded derated : Bool) : m.code degraded derated < 16 := by
  unfold ModeUnit.code
  repeat' split
  all_goals decide

theorem Device.modeStatus_low {d : Device} (h : d.otp.lc < 4) : d.mode.code d.degraded d.derate + d.otp.lc * 256 < 2 ^ 16 := by
  have := d.mode.code_lt d.degraded d.derate
  omega

theorem Device.bit_modeStatus {d : Device} (h : d.otp.lc < 4) (i : Nat) : bit d.modeStatus (16 + i) = d.conditions.getD i false := by
  rw [Device.modeStatus_eq, bit_above (Device.modeStatus_low h)]

/-- Below its flags MODE_STATUS holds MODE and LC_STATE, with the reserved bits 0 (R25). -/
theorem Device.modeStatus_fields {d : Device} (h : d.otp.lc < 4) :
    bits d.modeStatus 3 0 = d.mode.code d.degraded d.derate ∧ bits d.modeStatus 7 4 = 0 ∧ bits d.modeStatus 9 8 = d.otp.lc ∧
    bits d.modeStatus 15 10 = 0 ∧ d.modeStatus < 2 ^ 30 := by
  have hcode := d.mode.code_lt d.degraded d.derate
  have hflags : bitsNat d.conditions < 2 ^ 14 := bitsNat_lt d.conditions
  rw [Device.modeStatus_eq]
  simp only [bits]
  omega

/-- Settles O54: MODE_STATUS is the mode and the lifecycle state below bit 16 and the list of conditions from there up (R24, R25). -/
theorem modesAreReportedInTheirOrder : Obligations.ModesAreReportedInTheirOrder := by
  refine ⟨ModeUnit.code_eq, fun d hlc => ?_⟩
  obtain ⟨hmode, hres, hlife, hres', hlt⟩ := Device.modeStatus_fields hlc
  have hbit := Device.bit_modeStatus hlc
  refine ⟨hmode, hres, hlife, hres', hbit 0, hbit 1, hbit 2, hbit 3, hbit 4, hbit 5, ?uncleared, hbit 7, hbit 8, hbit 9, ?proof, hbit 11, hbit 12,
    ?wake, hlt⟩
  case uncleared => rw [show bit d.modeStatus 22 = decide (d.flt.pf ≠ 0) from hbit 6, decide_eq_true_iff]
  case proof =>
    rw [show bit d.modeStatus 26 = (!d.proof.injections.isEmpty || !d.proof.perturbs.isEmpty) from hbit 10]
    simp
  case wake => rw [show bit d.modeStatus 29 = d.edge.mons.any fun m => m.2.wakeEn from hbit 13, List.any_eq_true]

end Sys2Proof.Machine
end

section
/-! PROOFS. Power loss, resets and the release of HELD (R35, R354, R501..R503). -/

namespace Sys2Proof.Machine

/-! ### The journal keeps the rest of the device (R521..R524) -/

/-- A journal record reaches the always-on buffer and its counts, and nothing else. -/
theorem Device.journal_eq (d : Device) (k m b s e c w : Nat) (l : List Byte) : ∃ buf lost records, d.journal k m b s e c w l =
    { d with aon := { d.aon with jbuf := buf, jlost := lost }, flt := { d.flt with records := records } } := by
  unfold Device.journal
  dsimp only
  split
  · exact ⟨_, _, _, rfl⟩
  · exact ⟨_, _, _, rfl⟩

/-! ### HELD (R35, R501) -/

/-- What entry into HELD makes of a running device, but for the levels of its reset and power-good inputs (R35, R354, R501). -/
structure Device.HeldFrom (old d : Device) : Prop where
  phase : d.mode.phase = .held
  ticks : d.time.running = false
  cmd : d.cmd = {}
  fast : d.fast = []
  sched : d.sched = []
  pending : d.mode.pending = []
  links : ∀ l, (d.link l).state = .disabled
  otp : d.otp = old.otp
  flash : d.flash = old.flash
  chans : d.chans = old.chans
  mem : d.mem = old.mem
  store : d.store = old.store
  queue : d.queue = old.queue
  fns : d.fns = old.fns
  reg : d.reg = old.reg
  imp : d.imp = old.imp
  pf : d.flt.pf = old.flt.pf

/-- The always-on domain is no part of it. -/
theorem Device.HeldFrom.withAon {old d : Device} (h : old.HeldFrom d) (a : Aon) : old.HeldFrom { d with aon := a } := { h with }

theorem Device.running_iff (d : Device) : d.running = true ↔ ¬(d.mode.phase = .off ∨ d.mode.phase = .held) := by
  simp [Device.running]

/-- Links whose records are all changed to DISABLED are DISABLED, listed or not. -/
theorem tabGet_map_state (f : Nat × Link → Link) (hf : ∀ x, (f x).state = .disabled) (t : Tab Link) (l : Nat) :
    (tabGet {} (t.map fun x => (x.1, f x)) l).state = .disabled := by
  induction t with
  | nil => rfl
  | cons x t ih =>
    simp only [List.map_cons, tabGet]
    split
    · exact hf x
    · exact ih

theorem Device.hold_heldFrom {d : Device} (h : d.running = true) (t cause : Nat) : d.HeldFrom (d.hold t cause) := by
  unfold Device.hold
  rw [if_neg ((Device.running_iff d).mp h)]
  constructor
  case links => exact tabGet_map_state (fun x => { x.2 with state := .disabled, held := false, up := none }) (fun _ => rfl) _
  all_goals simp

@[simp] theorem Device.hold_coldSeen (d : Device) (t cause : Nat) : (d.hold t cause).aon.coldSeen = d.aon.coldSeen := by
  unfold Device.hold; split <;> simp

@[simp] theorem Device.hold_pg (d : Device) (t cause : Nat) : (d.hold t cause).aon.pg = d.aon.pg := by
  unfold Device.hold; split <;> simp

@[simp] theorem Device.hold_porstHigh (d : Device) (t cause : Nat) : (d.hold t cause).aon.porstHigh = d.aon.porstHigh := by
  unfold Device.hold; split <;> simp

theorem Device.off_of_running {d : Device} (h : d.running = true) : ¬d.mode.phase = .off :=
  fun hoff => (Device.running_iff d).mp h (.inl hoff)

theorem Device.pgFall_eq {d : Device} (h : d.running = true) (pg t : Nat) : d.pgFall pg t =
    { d.hold t 2 with aon := { (d.hold t 2).aon with pg := clrBit (d.hold t 2).aon.pg pg, coldSeen := true } } :=
  if_neg (Device.off_of_running h)

/-- Each reset and each power-good input that falls brings HELD from a running device; all but the warm reset are remembered as cold
(R501, R502). -/
theorem exec_reset_heldFrom {s : State} {i : Instr} {t : Nat}
    (hi : i = .porstNAssert t ∨ i = .warmRstNAssert t ∨ ∃ pg, i = .pgFall pg t) (hr : s.dev.running = true) :
    Yields i s fun d => s.dev.HeldFrom d ∧ (d.aon.coldSeen = true ↔ s.dev.aon.coldSeen = true ∨ ¬∃ u, i = .warmRstNAssert u) := by
  have hoff := Device.off_of_running hr
  rcases hi with rfl | rfl | ⟨pg, rfl⟩
  · refine yields_of_exec (f := fun d => d.porstAssert t) rfl ?_
    rw [show s.dev.porstAssert t = _ from if_neg hoff]
    exact ⟨(Device.hold_heldFrom hr t 0).withAon _, by simp⟩
  · refine yields_of_exec (f := fun d => d.warmAssert t) rfl ?_
    rw [show s.dev.warmAssert t = _ from if_neg hoff]
    exact ⟨(Device.hold_heldFrom hr t 1).withAon _, by simp⟩
  · refine yields_of_exec (f := fun d => d.pgFall pg.val t) rfl ?_
    rw [Device.pgFall_eq hr]
    exact ⟨(Device.hold_heldFrom hr t 2).withAon _, by simp⟩

/-- Neither FAULT_N nor EVT_N is driven in HELD (R354, R355). -/
theorem Device.settle_quiet {d : Device} (h : d.mode.phase = .held) : d.settle.pins.faultN = false ∧ d.settle.pins.evtN = false := by
  have hr : d.running = false := by simp [Device.running, h]
  simp [Device.settle, Device.pinsOf, Device.faultDrive, hr]

/-! ### Release of HELD (R35, R502, R503) -/

/-- The links' records that a warm reset keeps: their trims (R503). -/
def keptTrims (t : Tab Link) : Tab Link := (t.map fun l => (l.1, { trim := l.2.trim : Link })).filter fun l => l.2 ≠ {}

theorem keptTrims_cons (x : Nat × Link) (t : Tab Link) :
    keptTrims (x :: t) = if ({ trim := x.2.trim } : Link) = {} then keptTrims t else (x.1, { trim := x.2.trim }) :: keptTrims t := by
  unfold keptTrims
  rw [List.map_cons, List.filter_cons]
  simp only [decide_eq_true_eq, ne_eq, ite_not]

theorem tabGet_keptTrims_of_not_mem {t : Tab Link} {l : Nat} (h : l ∉ t.map (·.1)) : tabGet {} (keptTrims t) l = {} := by
  induction t with
  | nil => rfl
  | cons x t ih =>
    simp only [List.map_cons, List.mem_cons, not_or] at h
    rw [keptTrims_cons]
    split
    · exact ih h.2
    · rw [tabGet, if_neg (Ne.symm h.1)]; exact ih h.2

/-- A warm reset keeps the trim of every link (R503). -/
theorem tabGet_keptTrims {t : Tab Link} (h : (t.map (·.1)).Nodup) (l : Nat) : (tabGet {} (keptTrims t) l).trim = (tabGet {} t l).trim := by
  induction t with
  | nil => rfl
  | cons x t ih =>
    obtain ⟨hx, ht⟩ := List.nodup_cons.mp h
    rw [keptTrims_cons]
    by_cases hl : x.1 = l
    · subst hl
      split
      · next hdflt => rw [tabGet_keptTrims_of_not_mem hx, ← hdflt]; simp [tabGet]
      · simp [tabGet]
    · split
      · rw [ih ht]; simp [tabGet, hl]
      · simpa [tabGet, hl] using ih ht

/-- What a reset makes of the device, and what its kind keeps (R35, R502, R503). -/
structure Device.RestartedFrom (old : Device) (k : ResetKind) (d : Device) : Prop where
  phase : d.mode.phase = .bringUp
  word : d.mode.word = 0x00200002 + old.otp.lc * 256
  ready : d.ready = { blk := 1 }
  bootSel : d.aon.bootSel = old.aon.bootSel
  coldSeen : d.aon.coldSeen = false
  force : d.aon.force = false
  otp : d.otp = old.otp
  journal : d.flash.journal = old.flash.journal
  banks : d.flash.banks = old.flash.banks
  configs : d.flash.configs = old.flash.configs
  chans : d.chans = []
  fns : d.fns = []
  queue : d.queue = {}
  store : d.store = {}
  cmd : d.cmd = {}
  seq : d.seq = {}
  sched : d.sched = []
  pf : d.flt.pf = 0
  events : d.flt.events = []
  zones : d.imp.zones = []
  rails : d.imp.rails = []
  time : d.time = { n := if k = .warm then old.time.n else 100 }
  rate : d.mem.rate = if k = .warm then old.mem.rate else old.flash.coldRate
  reactions : d.flt.reactions = if k = .warm then old.flt.reactions else []
  smbAddr : d.aon.smbAddr = if k = .cold then 0x4C else old.aon.smbAddr
  snapshot : d.aon.snapshot = if k = .warm then some old.flt.pf else none
  unjoined : d.reg.state = .unjoined
  lambda : d.reg.lambda = if k = .warm then old.reg.lambda else 0
  links : d.links = if k = .warm then keptTrims old.links else []

section
variable {old d : Device} {k : ResetKind}

/-- Journal records and the marks of sectors whose erase was cut short leave it so. -/
theorem Device.RestartedFrom.record (h : old.RestartedFrom k d) (kind m b s e c w : Nat) (l : List Byte) :
    old.RestartedFrom k (d.journal kind m b s e c w l) := by
  obtain ⟨buf, lost, records, hj⟩ := d.journal_eq kind m b s e c w l
  rw [hj]
  exact { h with }

theorem Device.RestartedFrom.erasures (h : old.RestartedFrom k d) (u : List Nat) (e : List Erase) :
    old.RestartedFrom k { d with flash := { d.flash with unknown := u, erases := e } } := { h with }

theorem Device.RestartedFrom.foldl (h : old.RestartedFrom k d) {f : Device → Nat → Device}
    (hf : ∀ d x, old.RestartedFrom k d → old.RestartedFrom k (f d x)) (l : List Nat) : old.RestartedFrom k (l.foldl f d) := by
  induction l generalizing d with
  | nil => exact h
  | cons x l ih => exact ih (hf d x h)
end

/-- The restart is its fresh record, the records of how the device came to it, and the marks of sectors to erase again (R503, R520, R524). -/
theorem Device.restart_restartedFrom (d : Device) (k : ResetKind) : d.RestartedFrom k (d.restart k) := by
  unfold Device.restart
  extract_lets warm n remap rejoin dev _aon aon links ports reg _flash fresh newest snapshot unknown
  have hreg : reg.state = .unjoined ∧ reg.lambda = if k = .warm then d.reg.lambda else 0 := by
    simp only [reg, rejoin, warm]
    cases k <;> cases d.reg.autoRejoin <;> exact ⟨rfl, rfl⟩
  have hfresh : d.RestartedFrom k fresh := by
    constructor
    case unjoined => exact hreg.1
    case lambda => exact hreg.2
    all_goals cases k <;> rfl
  have hnewest : d.RestartedFrom k newest := by
    simp only [newest]
    split
    · split
      · exact hfresh
      · exact hfresh.record ..
    · exact hfresh
  have hsnapshot : d.RestartedFrom k snapshot := by
    simp only [snapshot]
    split
    · exact hnewest.record ..
    · exact hnewest
  exact (hsnapshot.foldl (fun _ _ h => h.record ..) unknown).erasures ..

theorem Device.heldRelease_eq {d : Device} (h : d.mode.phase = .held) (b : Nat) : d.heldRelease b =
    ({ d with aon := { d.aon with bootSel := b } } : Device).restart (if d.aon.coldSeen then .cold else .warm) :=
  if_pos h

/-- A release that is warm keeps the trims of the links (R502, R503). -/
theorem Device.RestartedFrom.trims {old d : Device} (h : old.RestartedFrom .warm d) (hn : (old.links.map (·.1)).Nodup) (l : Nat) :
    (d.link l).trim = (old.link l).trim := by
  rw [Device.link, h.links]
  exact tabGet_keptTrims hn l

/-- Settles O20: entry into HELD and release from it, each by what it makes of the device; power's own events by their definitions. -/
theorem powerAndResetEventsAct : Obligations.PowerAndResetEventsAct := by
  refine ⟨?powerLoss, ?powerOn, ?reset, ?pgFall, ?release⟩
  case powerLoss => exact fun s t => yields_of_exec (f := fun d => d.powerLoss t) rfl rfl
  case powerOn => exact fun s b hoff => yields_of_exec (f := fun d => d.powerOn b.toNat) rfl (if_pos hoff)
  case reset =>
    intro s i t hi hr
    obtain ⟨d, hx, h, hcold⟩ := exec_reset_heldFrom hi hr
    have hquiet := Device.settle_quiet h.phase
    exact ⟨d, hx, h.phase, h.ticks, h.cmd, h.fast, h.sched, h.pending, h.links, hquiet.1, hquiet.2, hcold, h.otp, h.flash, h.chans, h.mem, h.store,
      h.queue, h.fns, h.reg, h.imp, h.pf⟩
  case pgFall =>
    intro s t pg hr
    refine yields_of_exec (f := fun d => d.pgFall pg.val t) rfl ?_
    rw [Device.pgFall_eq hr]
    simp
  case release =>
    intro s b hheld
    refine yields_of_exec (f := fun d => d.heldRelease b.toNat) rfl ?_
    rw [Device.heldRelease_eq hheld]
    have h := Device.restart_restartedFrom { s.dev with aon := { s.dev.aon with bootSel := b.toNat } }
      (if s.dev.aon.coldSeen then .cold else .warm)
    generalize Device.restart _ _ = d at h ⊢
    have htrims : s.dev.aon.coldSeen = false → (s.dev.links.map (·.1)).Nodup → ∀ l, (d.link l).trim = (s.dev.link l).trim := by
      intro hwarm
      rw [hwarm] at h
      exact h.trims
    refine ⟨h.phase, h.word, h.ready, h.bootSel, h.coldSeen, h.force, h.otp, h.journal, h.banks, h.configs, h.chans, h.fns, h.queue, h.store, h.cmd,
      h.seq, h.sched, h.pf, h.events, h.zones, h.rails, h.time.trans ?_, h.rate.trans ?_, h.reactions.trans ?_, h.smbAddr.trans ?_,
      h.snapshot.trans ?_, h.unjoined, h.lambda.trans ?_, htrims⟩ <;> cases s.dev.aon.coldSeen <;> rfl

end Sys2Proof.Machine
end

section
/-! PROOFS. The state after reset (R11, R35, R354, R507). -/

namespace Sys2Proof.Machine

/-- Settles O51: every table of the state after reset is empty, so each unit reads as its after-reset record. -/
theorem resetLeavesTheDeviceInBringUp : Obligations.ResetLeavesTheDeviceInBringUp :=
  ⟨rfl, rfl, rfl, rfl, rfl, rfl, rfl, rfl, rfl, fun _ => rfl, fun _ => ⟨rfl, rfl⟩, fun _ => ⟨rfl, rfl⟩, rfl, rfl, rfl, rfl, rfl, fun _ => rfl, rfl⟩

end Sys2Proof.Machine
end

section
/-! PROOFS. The step function (R60, R362) and the boundary of a timestamp (R60). -/

namespace Sys2Proof.Machine

/-- Settles O49: `step` takes the front command off the queue and runs it; the empty queue is `step`'s other case. -/
theorem stepsRunTheFrontCommand : Obligations.StepsRunTheFrontCommand := ⟨fun _ _ _ => rfl, fun _ => rfl⟩

/-- A number lies below the ceiling of a quotient where its multiple falls short of the span. -/
theorem lt_ceilNat_div_iff (span k : Nat) {w : Nat} (hw : 0 < w) : k < ceilNat ((span : Rat) / (w : Rat)) ↔ k * w < span := by
  have hpos : (0 : Rat) < (w : Rat) := Rat.natCast_pos.mpr hw
  calc k < ceilNat ((span : Rat) / (w : Rat))
      _ ↔ (k : Int) < ((span : Rat) / (w : Rat)).ceil := by rw [ceilNat, ← Rat.ceil_eq_neg_floor_neg, Int.lt_toNat]
      _ ↔ ((k : Int) : Rat) < (span : Rat) / (w : Rat) := Rat.lt_ceil_iff
      _ ↔ k * w < span := by rw [Rat.lt_div_iff hpos, Rat.intCast_natCast, ← Rat.natCast_mul, Rat.natCast_lt_natCast]

/-- A boundary lies a number of whole frames after the first one that the frame allows, and every boundary before it is before the instant
asked for (R60). -/
theorem Device.boundaryAt_first (d : Device) (frame least : Nat) (hn : 0 < d.time.n) :
    ∃ k, d.boundaryAt frame least = d.nextTick + (frame - d.time.frame) * (160 * d.time.n) + k * (160 * d.time.n) ∧
      ∀ j, j < k ↔ d.nextTick + (frame - d.time.frame) * (160 * d.time.n) + j * (160 * d.time.n) < least := by
  have hlen : 0 < 160 * d.time.n := by omega
  unfold Device.boundaryAt
  extract_lets base
  split
  case isTrue hle => exact ⟨0, by simp [base], fun j => by omega⟩
  case isFalse hgt =>
    rw [Nat.max_eq_left hlen]
    refine ⟨_, rfl, fun j => ?_⟩
    rw [lt_ceilNat_div_iff _ _ hlen]
    omega

/-- Settles O55: the boundary is the first that is not before the timestamp, counted in whole frames from the next one (R60). -/
theorem timestampsChooseTheFirstBoundary : Obligations.TimestampsChooseTheFirstBoundary := by
  intro d frame least hn _
  obtain ⟨k, heq, hfirst⟩ := d.boundaryAt_first frame least hn
  refine ⟨k, by rw [heq, Nat.add_mul, Nat.add_assoc], d.le_boundaryAt frame least hn, fun j hj => ?_, fun hle => ?_⟩
  · rw [Nat.add_mul, ← Nat.add_assoc]
    exact (hfirst j).mp hj
  · have hzero := mt (hfirst 0).mp (by omega)
    omega

end Sys2Proof.Machine
end

section
/-! PROOFS. Accepted settings wait for the boundary that their reply names (R60, R115, R118, R385). -/

namespace Sys2Proof.Machine

/-! ### From an opcode's checks to its row -/

/-- A row completes whose opcode makes its own checks, leaves the rest of its effect to a boundary, and answers OK. -/
theorem completes_of_waits {row : Packet → Instr} {op : Op} {form : Cmd → Device → Prop} {before : Cmd → Device → Device}
    {tick : Cmd → Device → Nat} {payload : Cmd → Device → List Byte}
    (hx : ∀ p s, exec (row p) s = .next (s.onDevX fun d => d.submit op p))
    (hrun : ∀ c d, c.atNow = false → form c d → ∃ l, saneChecks l = true ∧
      op.run c d = checked d l (.done stOK (payload c d), (before c d).waits op c (tick c d))) :
    Completes row op form (fun c d => (before c d).waits op c (tick c d)) (fun c d => .done stOK (payload c d)) :=
  completes_of_run hx fun c d ha hf hg => by
    obtain ⟨l, hsane, heq⟩ := hrun c d ha hf
    rw [heq] at hg ⊢
    exact checked_good hsane hg

/-- The same of an opcode whose whole effect waits for the command's next boundary. -/
theorem completes_of_atBoundary {row : Packet → Instr} {op : Op} {form : Cmd → Device → Prop} {apply : Cmd → Device → Device}
    {payload : Cmd → Device → List Byte} {checks : Cmd → Device → List Check}
    (hx : ∀ p s, exec (row p) s = .next (s.onDevX fun d => d.submit op p))
    (hrun : ∀ c d, form c d → op.run c d = checked d (checks c d) (ok (d.atBoundary op c apply) (payload c d)))
    (hsane : ∀ c d, saneChecks (checks c d) = true) :
    Completes row op form (fun c d => d.waits op c (d.nextBoundary c)) (fun c d => .done stOK (payload c d)) :=
  completes_of_waits (before := fun _ d => d) hx fun c d ha hf =>
    ⟨_, hsane c d, by rw [hrun c d hf, Device.atBoundary_ahead ha, ok]⟩

/-- The same where the reply names that boundary (R385). -/
theorem completes_of_okBoundary {row : Packet → Instr} {op : Op} {form : Cmd → Device → Prop} {apply : Cmd → Device → Device}
    {checks : Cmd → Device → List Check} (hx : ∀ p s, exec (row p) s = .next (s.onDevX fun d => d.submit op p))
    (hrun : ∀ c d, form c d → op.run c d = checked d (checks c d) (okBoundary (d.atBoundary op c apply) (d.boundary c)))
    (hsane : ∀ c d, saneChecks (checks c d) = true) :
    Completes row op form (fun c d => d.waits op c (d.nextBoundary c)) (fun c d => .done stOK (le64 (d.nextBoundary c))) :=
  completes_of_waits (before := fun _ d => d) hx fun c d ha hf =>
    ⟨_, hsane c d, by rw [hrun c d hf, Device.atBoundary_ahead ha, Device.boundary_ahead ha, okBoundary]⟩

/-! ### The settings whose boundary or effect is more than that (R64, R115, R118, R139) -/

/-- The boundary of a command follows from the timebase alone. -/
theorem Device.nextBoundary_of_time {d e : Device} (h : e.time = d.time) (c : Cmd) : e.nextBoundary c = d.nextBoundary c := by
  unfold Device.nextBoundary Device.boundaryAt Device.nextTick Device.frameLen
  rw [h]

theorem Device.askRange_time (d : Device) (c : Cmd) : (d.askRange c).time = d.time := by
  unfold Device.askRange
  dsimp only
  repeat' split
  all_goals rfl

/-- CH_SETPOINT asks for its range change only where its boundary is the next one, and then waits (R64, R115; log 123). -/
theorem runChSetpoint_ahead {c : Cmd} (ha : c.atNow = false) (d : Device) : ∃ l, saneChecks l = true ∧
    runChSetpoint c d = checked d l (.done stOK (le64 (d.nextBoundary c)),
      (if d.nextBoundary c ≤ d.nextTick then d.askRange c else d).waits .chSetpoint c (d.nextBoundary c)) := by
  have htime : (if d.nextBoundary c ≤ d.nextTick then d.askRange c else d).time = d.time := by
    split
    · exact d.askRange_time c
    · rfl
  unfold runChSetpoint
  simp only [ha, Device.boundary_ahead ha, Device.atBoundary_ahead ha, Bool.not_false, Bool.true_and, decide_eq_true_eq,
    Device.nextBoundary_of_time htime, okBoundary]
  exact ⟨_, by simp [stLOCKED, stOK, stJUMP_DEFERRED], rfl⟩

/-- CH_FUNCTION waits for its boundary; its reply allows for the range change that must end first (R76, R118). -/
theorem runChFunction_ahead {c : Cmd} (ha : c.atNow = false) (d : Device) : ∃ l, saneChecks l = true ∧
    runChFunction c d = checked d l (.done stOK (le64 (max (d.nextBoundary c)
      (if (d.chan c.idx).range.change.isSome then d.nextTick + (d.changeLeft c.idx - 1) * (160 * d.time.n) else 0))),
      d.waits .chFunction c (d.nextBoundary c)) := by
  unfold runChFunction
  simp only [Device.boundary_ahead ha, Device.atBoundary_ahead ha, okBoundary]
  exact ⟨_, by simp [stLOCKED, stOK, stJUMP_DEFERRED], rfl⟩

/-- CAL_COMMIT with DISCARD waits for its boundary and answers with the last commit (R139, R141, R403). -/
theorem runCalCommit_discard {c : Cmd} (ha : c.atNow = false) (hf : c.opf = 2) (d : Device) : ∃ l, saneChecks l = true ∧
    runCalCommit c d = checked d l (.done stOK (le64 (d.nextBoundary c) ++ leF32 (d.chan (d.calLead c)).cal.lastStep ++
      [BitVec.ofNat 8 (d.chan (d.calLead c)).cal.lastSet] ++ zeros 3), d.waits .calCommit c (d.nextBoundary c)) := by
  unfold runCalCommit
  simp only [Device.boundary_ahead ha, Device.atBoundary_ahead ha, if_pos hf]
  exact ⟨_, by simp [stBAD_TARGET, stOK, stJUMP_DEFERRED], rfl⟩

/-- Each form of EL_PAIR waits for its boundary (R184, R187). -/
theorem elPair_completes {row : Packet → Instr} (hx : ∀ p s, exec (row p) s = .next (s.onDevX fun d => d.submit .elPair p))
    (form : Cmd → Device → Prop) : Completes row .elPair form (fun c d => d.waits .elPair c (d.nextBoundary c))
      (fun c d => .done stOK (le64 (d.nextBoundary c))) :=
  completes_of_okBoundary hx (fun _ _ _ => rfl) fun c d => by simp [stBAD_TARGET, stBUSY, stNOT_READY, stOK, stJUMP_DEFERRED]

/-- FM_STOP of a running context has no check of its own and waits for its boundary (R245). -/
theorem runFmStop_running {c : Cmd} {d : Device} (h : (d.chan c.idx).running = true) :
    runFmStop c d = okBoundary (d.atBoundary .fmStop c applyFmStop) (d.boundary c) := by
  simp [runFmStop, h]

theorem runFmStop_idle {c : Cmd} {d : Device} (h : (d.chan c.idx).running = false) : runFmStop c d = ok d (le64 0) := by
  simp [runFmStop, h]

/-- TRIG_CONFIG without CLEAR and QUERY waits for its boundary (R260, R407). -/
theorem runTrigConfig_set {c : Cmd} (ha : c.atNow = false) (hf : c.opf = 0) (d : Device) : ∃ l, saneChecks l = true ∧
    runTrigConfig c d = checked d l (.done stOK [], d.waits .trigConfig c (d.nextBoundary c)) := by
  unfold runTrigConfig
  simp only [Device.atBoundary_ahead ha, if_pos hf, ok]
  exact ⟨_, by split <;> simp, rfl⟩

/-! ### Every setting -/

/-- Settles O5: each setting's own checks passed, `Device.atBoundary` puts the rest down for the command's boundary. -/
theorem settingsWaitForTheirBoundary : Obligations.SettingsWaitForTheirBoundary := by
  refine ⟨⟨?chConfig, ?chFunction, ?chSetpoint, ?chLimits, ?chAutorange, ?chAperture⟩,
    ?imZone, ?imRail, ?calMode, ?calDiscard, ?mkRoute, ?trigConfig, ?monConfig, ?tsSelect, ?fltReaction, ?qNotify, ?fmStop, ?fmStopped,
    elPair_completes (fun _ _ => rfl) _, elPair_completes (fun _ _ => rfl) _, elPair_completes (fun _ _ => rfl) _, ?prfInject, ?prfPerturb⟩
  case chConfig =>
    exact completes_of_okBoundary (fun _ _ => rfl) (fun _ _ _ => rfl) fun c d => by
      cases d.desc? c.idx <;> simp [stLOCKED, stBAD_TARGET, stFRAME_BUDGET, stOK, stJUMP_DEFERRED]
      split <;> simp
  case chFunction => exact completes_of_waits (before := fun _ d => d) (fun _ _ => rfl) fun c d ha _ => runChFunction_ahead ha d
  case chSetpoint => exact completes_of_waits (fun _ _ => rfl) fun c d ha _ => runChSetpoint_ahead ha d
  case chLimits =>
    exact completes_of_okBoundary (fun _ _ => rfl) (fun _ _ _ => rfl) fun c d => by cases d.desc? c.idx <;> simp
  case chAutorange =>
    exact completes_of_okBoundary (fun _ _ => rfl) (fun _ _ _ => rfl) fun c d => by
      cases d.desc? c.idx <;> cases bit (c.u8 4) 0 <;> simp [stLOCKED, stOK, stJUMP_DEFERRED]
  case chAperture =>
    exact completes_of_okBoundary (fun _ _ => rfl) (fun _ _ _ => rfl) fun c d => by simp [stLOCKED, stOK, stJUMP_DEFERRED]
  case imZone => exact completes_of_okBoundary (fun _ _ => rfl) (fun _ _ _ => rfl) fun c d => by simp [stBUSY, stOK, stJUMP_DEFERRED]
  case imRail => exact completes_of_okBoundary (fun _ _ => rfl) (fun _ _ _ => rfl) fun c d => by simp [stBUSY, stOK, stJUMP_DEFERRED]
  case calMode => exact completes_of_okBoundary (fun _ _ => rfl) (fun _ _ _ => rfl) fun c d => by simp [stBUSY, stOK, stJUMP_DEFERRED]
  case calDiscard => exact completes_of_waits (before := fun _ d => d) (fun _ _ => rfl) fun c d ha hf => runCalCommit_discard ha hf d
  case mkRoute => exact completes_of_okBoundary (fun _ _ => rfl) (fun _ _ _ => rfl) fun c d => by simp
  case trigConfig =>
    exact completes_of_waits (before := fun _ d => d) (payload := fun _ _ => []) (fun _ _ => rfl) fun c d ha hf => runTrigConfig_set ha hf d
  case monConfig =>
    exact completes_of_okBoundary (fun _ _ => rfl) (fun _ _ _ => rfl) fun c d => by simp [stBAD_TARGET, stOK, stJUMP_DEFERRED]
  case tsSelect => exact completes_of_waits (before := fun _ d => d) (fun _ _ => rfl) fun c d _ _ => ⟨_, by simp, rfl⟩
  case fltReaction => exact completes_of_atBoundary (payload := fun _ _ => []) (fun _ _ => rfl) (fun _ _ _ => rfl) fun c d => by simp
  case qNotify => exact completes_of_atBoundary (payload := fun _ _ => []) (fun _ _ => rfl) (fun _ _ _ => rfl) fun c d => by simp
  case fmStop =>
    exact completes_of_okBoundary (checks := fun _ _ => []) (fun _ _ => rfl) (fun c d hf => runFmStop_running hf) fun _ _ => rfl
  case fmStopped => exact completes_of_run (fun _ _ => rfl) fun c d _ hf _ => runFmStop_idle hf
  case prfInject => exact completes_of_okBoundary (fun _ _ => rfl) (fun _ _ _ => rfl) fun c d => by simp [stWRONG_MODE, stOK, stJUMP_DEFERRED]
  case prfPerturb =>
    exact completes_of_okBoundary (fun _ _ => rfl) (fun _ _ _ => rfl) fun c d => by
      by_cases hk : c.u8 0 = 3 <;> simp [hk, stWRONG_MODE, stOK, stJUMP_DEFERRED]

end Sys2Proof.Machine
end

section
/-! PROOFS. A channel's compute phase takes no time: every function that it calls leaves the timebase as it was (R43). -/

namespace Sys2Proof.Machine

/-! ### Shared operations -/

/-- What leaves the body alone leaves the time alone. -/
theorem Device.time_of_body {d e : Device} (h : e.body = d.body) : e.time = d.time := (congrArg Device.time h :)

section
variable (d : Device) (ch : Nat)

@[simp] theorem Device.onChan_time (f : Chan → Chan) : (d.onChan ch f).time = d.time := rfl
@[simp] theorem Device.onSeq_time (f : SeqCtx → SeqCtx) : (d.onSeq ch f).time = d.time := rfl
@[simp] theorem Device.onCal_time (f : CalUnit → CalUnit) : (d.onCal ch f).time = d.time := rfl
@[simp] theorem Device.event_time (e t : Nat) : (d.event e t).time = d.time := rfl
@[simp] theorem Device.raiseErr_time (e : ErrEvent) (t : Nat) : (d.raiseErr e t).time = d.time := Device.raiseErrAs_time ..
@[simp] theorem Device.onRing_time (q : Nat) (f : Ring → Ring) : (d.onRing q f).time = d.time := Device.time_of_body (Device.onRing_body ..)
@[simp] theorem Device.final_time (e : Env) (s : Nat) (l : List Byte) : (d.final e s l).time = d.time := Device.time_of_body (Device.final_body ..)
@[simp] theorem Device.final?_time (e : Option Env) (s : Nat) (l : List Byte) : (d.final? e s l).time = d.time :=
  Device.time_of_body (Device.final?_body ..)
@[simp] theorem Device.freeBytes_time (q n : Nat) (e : Bool) : (d.freeBytes q n e).time = d.time := Device.time_of_body (Device.freeBytes_body ..)

@[simp] theorem Device.park_time (c t : Nat) : (d.park ch c t).time = d.time := by
  unfold Device.park
  dsimp only
  repeat' split
  all_goals rfl

/-! ### Frame values, apertures and pairs (R77..R82, R133) -/

@[simp] theorem Device.pushEntry_time (e : Entry) : (d.pushEntry ch e).time = d.time := rfl

@[simp] theorem Device.apertureEnd_time : (d.apertureEnd ch).time = d.time := by
  unfold Device.apertureEnd
  dsimp only
  repeat' split
  all_goals rfl

@[simp] theorem Device.takeFrame_time (cv : Conv) (v i : Rat) (fl : Nat) (cut : Bool) : (d.takeFrame ch cv v i fl cut).time = d.time := by
  simp [Device.takeFrame]

@[simp] theorem Device.captureFrame_time (cv : Conv) (u : Upstream) : (d.captureFrame ch cv u).time = d.time := by
  unfold Device.captureFrame
  dsimp only
  repeat' split
  all_goals rfl

@[simp] theorem Device.formValue_time (cv : Conv) (s : Option Sample) (fl : Nat) : (d.formValue ch cv s fl).time = d.time := by
  unfold Device.formValue
  dsimp only
  repeat' split
  all_goals simp

@[simp] theorem Device.sourcePair_time (cv : Conv) (s : Sample) : (d.sourcePair ch cv s).time = d.time := by
  unfold Device.sourcePair
  dsimp only
  repeat' split
  all_goals rfl

/-! ### Range changes (R99..R117) -/

@[simp] theorem Device.startChange_time (x : Desc) (w : RWant) : (d.startChange ch x w).time = d.time := by
  unfold Device.startChange
  dsimp only
  repeat' split
  all_goals simp

@[simp] theorem Device.answerChange_time (e : Option Env) (b : Nat) (l : List Byte) : (d.answerChange ch e b l).time = d.time := by
  unfold Device.answerChange
  repeat' split
  all_goals simp

@[simp] theorem Device.abandonChange_time (g : RChange) : (d.abandonChange ch g).time = d.time := by
  simp [Device.abandonChange]

@[simp] theorem Device.selectChange_time (x : Desc) (a : Option AutoOut) : (d.selectChange ch x a).time = d.time := by
  unfold Device.selectChange
  dsimp only
  repeat' split
  all_goals simp

@[simp] theorem Device.rangeStep_time (x : Desc) (s : Option Sample) (k : Rat) (z : Bool) : (d.rangeStep ch x s k z).time = d.time := by
  unfold Device.rangeStep
  dsimp only
  repeat' split
  all_goals simp

/-! ### Arming and setpoints (R51, R64, R87, R115, R177) -/

@[simp] theorem Device.armRecheck_time : (d.armRecheck ch).time = d.time := by
  unfold Device.armRecheck
  dsimp only
  repeat' split
  all_goals simp

@[simp] theorem Device.armShift_time : (d.armShift ch).time = d.time := by
  unfold Device.armShift
  dsimp only
  split <;> rfl

@[simp] theorem Device.countClamp_time (i : Option Nat) : (d.countClamp i).time = d.time := by
  unfold Device.countClamp
  repeat' split
  all_goals rfl

@[simp] theorem Device.takeSet_time (x : Desc) : (d.takeSet ch x).time = d.time := by
  unfold Device.takeSet
  dsimp only
  repeat' split
  all_goals simp

@[simp] theorem Device.setpointMissed_time : (d.setpointMissed ch).time = d.time := by simp [Device.setpointMissed]

/-! ### Samples and supplied values (R207..R217) -/

@[simp] theorem Device.nearF32_time (v : F32) (f : Rat → Rat) : (d.nearF32 v f).2.time = d.time := by
  simp only [Device.nearF32, apply_ite Prod.snd, apply_ite Device.time]
  simp [Device.freeRat]

@[simp] theorem Device.supplySet_time (v : F32) : (d.supplySet ch v).time = d.time := by
  unfold Device.supplySet
  dsimp only
  repeat' split
  all_goals simp

@[simp] theorem Device.missSet_time : (d.missSet ch).time = d.time := rfl

@[simp] theorem Device.underrun_time (i : Nat) (g : Segment) : (d.underrun ch i g).time = d.time := by
  unfold Device.underrun
  dsimp only
  repeat' split
  all_goals simp

@[simp] theorem Device.freeStream_time (i n : Nat) : (d.freeStream i n).time = d.time := by
  induction n generalizing d with
  | zero => rfl
  | succ n ih =>
    unfold Device.freeStream
    repeat' split
    all_goals simp [ih]

@[simp] theorem Device.passLines_time (i b : Nat) (a : Bool) : (d.passLines i b a).time = d.time := by
  unfold Device.passLines
  dsimp only
  repeat' split
  all_goals simp

@[simp] theorem Device.supplySample_time (i : Nat) (p q : F32) (j : Nat) : (d.supplySample ch i p q j).time = d.time := by
  unfold Device.supplySample
  dsimp only
  repeat' split
  all_goals simp

@[simp] theorem Device.supplySpan_time (s : Span) (j : Nat) : (d.supplySpan ch s j).time = d.time := by
  unfold Device.supplySpan
  dsimp only
  repeat' split
  all_goals simp

@[simp] theorem Device.supplyWait_time (s : Span) : (d.supplyWait ch s).time = d.time := by
  unfold Device.supplyWait
  dsimp only
  repeat' split
  all_goals simp

/-! ### Walks and requests (R226..R237, R303) -/

@[simp] theorem Device.countLog_time (k : SpanKind) : (d.countLog k).time = d.time := by
  unfold Device.countLog
  dsimp only
  repeat' split
  all_goals simp

@[simp] theorem Device.makeRequest_time (c p : Nat) (x : Profile) (l : Bool) (w : Option Nat) : (d.makeRequest ch c p x l w).2.time = d.time := rfl

@[simp] theorem Device.askAdmission_time (st : WalkSt) (s : Span) : (d.askAdmission ch st s).2.time = d.time := by
  unfold Device.askAdmission
  dsimp only
  repeat' split
  all_goals simp

@[simp] theorem Device.decideSpan_time (st : WalkSt) (va : List F32) (n : Nat) (w : Nat → Bool) : (d.decideSpan ch st va n w).time = d.time := by
  simp [Device.decideSpan]

@[simp] theorem Device.walkNow_time (f fl : Nat) (m : WalkMode) : (d.walkNow ch f fl m).time = d.time := by
  unfold Device.walkNow
  dsimp only
  repeat' split
  all_goals simp

@[simp] theorem Device.continuationWalk_time : (d.continuationWalk ch).time = d.time := by
  unfold Device.continuationWalk
  dsimp only
  split <;> simp

@[simp] theorem Device.deferralTimeout_time : (d.deferralTimeout ch).time = d.time := by
  unfold Device.deferralTimeout
  dsimp only
  split <;> rfl

/-! ### Waits and jumps (R234..R242) -/

@[simp] theorem Device.judgeArm_time : (d.judgeArm ch).time = d.time := rfl

@[simp] theorem Device.judgeWait_time : (d.judgeWait ch).time = d.time := by
  unfold Device.judgeWait
  dsimp only
  repeat' split
  all_goals rfl

@[simp] theorem Device.dropRequests_time (b : Bool) : (d.dropRequests ch b).time = d.time := rfl

@[simp] theorem Device.takeJump_time (j : Jump) : (d.takeJump ch j).time = d.time := by
  unfold Device.takeJump
  dsimp only
  split <;> simp

@[simp] theorem Device.judgeJump_time : (d.judgeJump ch).time = d.time := by
  unfold Device.judgeJump
  repeat' split
  all_goals simp

@[simp] theorem Device.answerJump_time : (d.answerJump ch).time = d.time := by
  unfold Device.answerJump
  dsimp only
  repeat' split
  all_goals simp

/-! ### The sequence unit's share (R207, R221, R227, R244) -/

@[simp] theorem Device.startForme_time : (d.startForme ch).time = d.time := by
  unfold Device.startForme
  dsimp only
  repeat' split
  all_goals simp

@[simp] theorem Device.askLate_time (n : Nat) (s : Span) : (d.askLate ch n s).time = d.time := by
  unfold Device.askLate
  dsimp only
  repeat' split
  all_goals simp

@[simp] theorem Device.judgeHead_time : (d.judgeHead ch).time = d.time := by
  unfold Device.judgeHead
  dsimp only
  repeat' split
  all_goals simp

@[simp] theorem Device.callWalk_time : (d.callWalk ch).time = d.time := by
  unfold Device.callWalk
  dsimp only
  repeat' split
  all_goals simp

@[simp] theorem Device.queueRange_time (w : Nat) : (d.queueRange ch w).1.time = d.time := by
  unfold Device.queueRange
  dsimp only
  repeat' split
  all_goals simp

@[simp] theorem Device.queueRanges_time (l : List Effect) : (d.queueRanges ch l).1.time = d.time := by
  induction l generalizing d with
  | nil => rfl
  | cons e l ih =>
    unfold Device.queueRanges
    dsimp only
    repeat' split
    all_goals simp [ih]

@[simp] theorem Device.feed_time : (d.feed ch).time = d.time := by
  unfold Device.feed
  dsimp only
  repeat' split
  all_goals simp

@[simp] theorem Device.seqCompute_time : (d.seqCompute ch).time = d.time := by
  unfold Device.seqCompute
  dsimp only
  split <;> simp

/-! ### One channel (R43) -/

@[simp] theorem Device.computeBare_time (m : Bool) : (d.computeBare ch m).time = d.time := by
  simp [Device.computeBare]

/-- Steps 1 to 7 of R43 for a channel with a descriptor, one stage of it after the other. -/
@[simp] theorem Device.computeLive_time (x : Desc) (m : Bool) : (d.computeLive ch x m).time = d.time := by
  unfold Device.computeLive
  extract_lets k ended cv0 cv conv begun c u s ls scale o _ lawed entered ranged sequenced supplied clamped flags captured formed paired noted
  clear_value u s
  have hlaw : entered.time = d.time := by
    simp only [entered]
    split <;> simp [lawed, begun, ended]
  have hset : clamped.time = entered.time := by
    simp only [clamped, supplied]
    split <;> simp [sequenced, ranged]
  have hvalue : formed.time = clamped.time := by
    simp only [formed, captured]
    split <;> simp
  have hpair : paired.time = formed.time := by
    simp only [paired]
    split <;> simp
  have hnote : noted.time = paired.time := by
    simp only [noted]
    repeat' split
    all_goals simp
  rw [Device.onChan_time, hnote, hpair, hvalue, hset, hlaw]

@[simp] theorem Device.computeChan_time (m : Bool) : (d.computeChan ch m).time = d.time := by
  unfold Device.computeChan
  repeat' split
  all_goals simp

end

end Sys2Proof.Machine
end

section
/-! PROOFS. The result banks: compute phases, apertures and collection (R42, R43, R51, R53..R55, R79, R93). -/

namespace Sys2Proof.Machine

/-! ### The compute phase ends with the banks swapped (R43, R53) -/

theorem Device.each_time {f : Device → Nat → Device} (hf : ∀ d x, (f d x).time = d.time) (l : List Nat) (d : Device) :
    (d.each l f).time = d.time := by
  unfold Device.each
  induction l generalizing d with
  | nil => rfl
  | cons x l ih => exact (ih _).trans (hf d x)

theorem Device.each_id {f : Device → Nat → Device} {d : Device} {l : List Nat} (hf : ∀ x ∈ l, f d x = d) : d.each l f = d := by
  unfold Device.each
  induction l with
  | nil => rfl
  | cons x l ih =>
    rw [List.foldl_cons, hf x List.mem_cons_self]
    exact ih fun y hy => hf y (List.mem_cons_of_mem x hy)

/-- Entries that are lost count on their rings alone. -/
theorem Device.loseEntries_body (d : Device) (es : List Entry) : (d.loseEntries es).body = d.body := by
  unfold Device.loseEntries
  induction es generalizing d with
  | nil => rfl
  | cons e es ih => exact (ih _).trans (Device.onRing_body ..)

theorem Device.loseEntries_slot (d : Device) (es : List Entry) (j : Nat) : (d.loseEntries es).slot j = d.slot j :=
  (congrArg (Device.slot · j) (d.loseEntries_body es) :)

/-- The swap notes the frame, and what was filled drains (R53). -/
theorem Device.swapBank_slot (d : Device) (j : Nat) :
    (d.swapBank j).slot j = { d.slot j with drain := (d.slot j).fill, fill := [], swapAt := d.time.frame } := by
  unfold Device.swapBank
  simp only [Device.setSlot_get, Device.loseEntries_slot, Device.time_of_body (d.loseEntries_body _)]

theorem Device.swapBank_time (d : Device) (j : Nat) : (d.swapBank j).time = d.time :=
  (Device.setSlot_time ..).trans (Device.time_of_body (d.loseEntries_body _))

/-- With nothing left to drain the swap loses nothing. -/
theorem Device.swapBank_drained {d : Device} {j : Nat} (h : (d.slot j).drain = []) :
    d.swapBank j = d.setSlot j { d.slot j with drain := (d.slot j).fill, fill := [], swapAt := d.time.frame } := by
  unfold Device.swapBank
  rw [h]
  rfl

theorem Device.computeChan_unserved {d : Device} {ch : Nat} (h : d.served ch = false) (m : Bool) : d.computeChan ch m = d := by
  simp [Device.computeChan, h]

/-- The phase of an open slot with its engine: every channel of the slot in turn, from L on, and the swap (R42, R43). -/
theorem Device.computePhase_open {d : Device} {j e : Nat} (he : d.computeEngine j = some e) (ho : d.slotOpen j = true) :
    d.computePhase j = (d.fromL.each (slotChans j) fun d ch => d.computeChan ch true).swapBank j := by
  simp [Device.computePhase, he, ho]

/-- A slot without its engine, or whose phase is over, is left alone (R51, R93). -/
theorem Device.computePhase_closed {d : Device} {j : Nat} (h : d.computeEngine j = none ∨ d.slotOpen j = false) : d.computePhase j = d := by
  unfold Device.computePhase
  rcases h with h | h
  · rw [h]
  · cases d.computeEngine j <;> simp [h]

/-! ### The end of an aperture (R53, R79, R80, R86) -/

/-- The aperture that follows a finished one: nothing taken, the folio that the next slug will carry. -/
def Aper.after (a : Aper) (folio : Nat) : Aper := { folio := folio, cut := a.cut }

theorem Device.apertureEnd_slug {d : Device} {ch q : Nat} {e : Bool} (he : (d.chan ch).aper.ended = some e) (hq : (d.chan ch).resultRing = some q)
    (hs : d.inStandby = false) : d.apertureEnd ch =
      (d.setChan ch { d.chan ch with aper := (d.chan ch).aper.after (((d.chan ch).aper.folio + 1) % 256) }).pushEntry ch
        { ch := ch, ring := q, bytes := (d.chan ch).slug } := by
  simp only [Device.apertureEnd, he, hq, hs]
  rfl

theorem Device.apertureEnd_unbound {d : Device} {ch : Nat} {e : Bool} (he : (d.chan ch).aper.ended = some e) (hq : (d.chan ch).resultRing = none) :
    d.apertureEnd ch = d.setChan ch { d.chan ch with aper := (d.chan ch).aper.after (d.chan ch).aper.folio } := by
  simp only [Device.apertureEnd, he, hq]
  rfl

@[simp] theorem Device.pushEntry_chan (d : Device) (ch k : Nat) (e : Entry) : (d.pushEntry ch e).chan k = d.chan k := rfl

/-- An entry joins the bank that fills, or the one just closed once the channel is computed (R53). -/
theorem Device.pushEntry_slot (d : Device) (ch : Nat) (e : Entry) : (d.pushEntry ch e).slot (ch / 8) =
    if (d.chan ch).loop.done then { d.slot (ch / 8) with drain := (d.slot (ch / 8)).drain ++ [e] }
    else { d.slot (ch / 8) with fill := (d.slot (ch / 8)).fill ++ [e] } :=
  Device.setSlot_get ..

/-! ### The collector leaves the banks and the time alone (R54, R55, R438) -/

/-- What the collector's packets leave alone. -/
def Device.banks (d : Device) : Tab Slot × Timebase := (d.slots, d.time)

theorem Device.banks_of_body {d e : Device} (h : e.body = d.body) : e.banks = d.banks := (congrArg Device.banks h :)

section
variable (d : Device)

@[simp] theorem Device.produce_banks (q : Nat) (l : List Byte) (n : Nat) (irq : Bool) : (d.produce q l n irq).1.banks = d.banks :=
  Device.banks_of_body (Device.produce_body ..)

@[simp] theorem Device.loseFrame_banks (q : Nat) : (d.loseFrame q).banks = d.banks := Device.banks_of_body (Device.onRing_body ..)

@[simp] theorem Device.setChan_banks (i : Nat) (x : Chan) : (d.setChan i x).banks = d.banks := rfl
@[simp] theorem Device.onChan_banks (i : Nat) (f : Chan → Chan) : (d.onChan i f).banks = d.banks := rfl

@[simp] theorem Device.closeCapture_banks (ch : Nat) : (d.closeCapture ch).banks = d.banks := by
  unfold Device.closeCapture
  dsimp only
  split <;> simp

@[simp] theorem Device.captureEntry_banks (e : Entry) : (d.captureEntry e).banks = d.banks := by
  unfold Device.captureEntry
  dsimp only
  repeat' split
  all_goals simp

theorem Device.collectEntry_banks (n : Nat) (e : Entry) : (d.collectEntry n e).banks = d.banks := by
  unfold Device.collectEntry
  split
  · rfl
  · simp

theorem Device.writeSlugs_banks (q n : Nat) : (d.writeSlugs q n).banks = d.banks := by
  unfold Device.writeSlugs
  dsimp only
  split
  · rfl
  · exact Device.produce_banks ..

theorem Device.foldl_banks {α : Type} {f : Device → α → Device} (hf : ∀ d x, (f d x).banks = d.banks) (l : List α) (d : Device) :
    (l.foldl f d).banks = d.banks := by
  induction l generalizing d with
  | nil => rfl
  | cons x l ih => exact (ih _).trans (hf d x)

theorem Device.endRuns_banks (j : Nat) (l : List Entry) : (d.endRuns j l).banks = d.banks :=
  Device.foldl_banks (fun d ch => by dsimp only; split <;> simp) ..

theorem Device.flushSlugs_banks : d.flushSlugs.banks = d.banks := by
  unfold Device.flushSlugs
  exact Device.foldl_banks (fun d r => Device.writeSlugs_banks ..) ..

/-- COLLECTION_PHASE empties the slot's draining bank (R54, R55). -/
theorem Device.collect_banks {d : Device} (ht : d.time.started = true) (hb : d.blk bCOLLECT = true) (j : Nat) :
    (d.collect j).banks = (d.setSlot j { d.slot j with drain := [] }).banks := by
  unfold Device.collect
  simp only [ht, hb, Bool.not_true, Bool.or_self, Bool.false_eq_true, if_false]
  rw [Device.flushSlugs_banks, Device.endRuns_banks, Device.foldl_banks fun d e => d.collectEntry_banks _ e]

end

/-- Settles O24: the phases by what each makes of the slot's banks; that a computed channel takes no time is `Device.computeChan_time`. -/
theorem computePhasesFillTheBanks : Obligations.ComputePhasesFillTheBanks := by
  refine ⟨⟨?swap, ?unused, ?closed⟩, ?slug, ?unbound, ?collect⟩
  case swap =>
    intro s j e hheld he ho
    refine yieldsCells_of_exec (f := fun d => d.computePhase j.val) rfl hheld ?_
    rw [Device.computePhase_open he ho, Device.swapBank_slot, Device.swapBank_time]
    refine ⟨rfl, rfl, ?_⟩
    rw [Device.each_time fun d ch => d.computeChan_time ch true]
    rfl
  case unused =>
    intro s j e hheld he ho hdrain hserved
    refine yieldsCells_of_exec (f := fun d => d.computePhase j.val) rfl hheld ?_
    dsimp only
    rw [Device.computePhase_open he ho, Device.each_id fun ch hch => Device.computeChan_unserved (d := s.dev.fromL) (hserved ch hch) true]
    exact Device.swapBank_drained (d := s.dev.fromL) hdrain
  case closed =>
    intro s j hheld h
    exact yieldsCells_of_exec (f := fun d => d.computePhase j.val) rfl hheld (Device.computePhase_closed h)
  case slug =>
    intro s ch e q hheld he hq hs
    refine yieldsCells_of_exec (f := fun d => d.apertureEnd ch.val) rfl hheld ?_
    rw [Device.apertureEnd_slug he hq hs, Device.pushEntry_slot]
    simp only [Device.pushEntry_chan, Device.setChan_get]
    refine ⟨rfl, fun k hk => Device.setChan_get_ne _ _ _ _ hk, fun hdone => ?_, fun hdone => ?_⟩
    · rw [if_neg (by simp [hdone])]; rfl
    · rw [if_pos hdone]; rfl
  case unbound =>
    intro s ch e hheld he hq
    exact yieldsCells_of_exec (f := fun d => d.apertureEnd ch.val) rfl hheld (Device.apertureEnd_unbound he hq)
  case collect =>
    intro s j hheld ht hb
    have hbanks := Device.collect_banks ht hb j.val
    exact yieldsCells_of_exec (f := fun d => d.collect j.val) rfl hheld ⟨congrArg Prod.fst hbanks, congrArg Prod.snd hbanks⟩

end Sys2Proof.Machine
end

section
/-! PROOFS. A channel's hard park and its commands (R87..R90, R94, R266, R389, R392). -/

namespace Sys2Proof.Machine

/-! ### A hard-park cause by what it finds (R89, R482) -/

section
variable {d : Device} {ch : Nat}

/-- A channel that is parked and has no CH_ARM accepted takes no hard park (R89; log 91). -/
theorem Device.park_parked (ha : (d.chan ch).arm = .parked) (hr : (d.chan ch).armReq = none) (cause least : Nat) : d.park ch cause least = d := by
  simp [Device.park, Chan.armed, ha, hr]

/-- The first cause of a channel that is not parked is put down. -/
theorem Device.park_first (ha : (d.chan ch).arm ≠ .parked) (hp : (d.chan ch).parkPend = none) (cause least : Nat) :
    d.park ch cause least = d.setChan ch { d.chan ch with parkPend := some (cause, least) } := by
  simp [Device.park, Chan.armed, ha, hp]

/-- A cause that is no earlier than the one put down changes nothing. -/
theorem Device.park_later {k t least : Nat} (hp : (d.chan ch).parkPend = some (k, t)) (ht : t ≤ least) (cause : Nat) :
    d.park ch cause least = d := by
  simp [Device.park, hp, ht]

/-- An earlier cause takes the place of the one put down. -/
theorem Device.park_earlier {k t least : Nat} (ha : (d.chan ch).arm ≠ .parked) (hp : (d.chan ch).parkPend = some (k, t)) (ht : ¬t ≤ least)
    (cause : Nat) : d.park ch cause least = d.setChan ch { d.chan ch with parkPend := some (cause, least) } := by
  simp [Device.park, Chan.armed, ha, hp, ht]

end

/-- Settles O57: of the causes of a channel that is not parked, `Device.park` keeps the one put down unless the new one is earlier. -/
theorem theEarliestHardParkStands : Obligations.TheEarliestHardParkStands := by
  refine ⟨fun d ch cause least ha hr => Device.park_parked ha hr cause least, fun d ch cause least ha => ?_⟩
  cases hp : (d.chan ch).parkPend with
  | none =>
    rw [Device.park_first ha hp]
    exact ⟨by simp, fun k hk => Device.setChan_get_ne _ _ _ _ hk, by simp, rfl⟩
  | some x =>
    obtain ⟨k, t⟩ := x
    by_cases ht : t ≤ least
    · rw [Device.park_later hp ht]
      exact ⟨by simp [hp, ht], fun _ _ => rfl, rfl, rfl⟩
    · rw [Device.park_earlier ha hp ht]
      exact ⟨by simp [ht], fun k hk => Device.setChan_get_ne _ _ _ _ hk, by simp, rfl⟩

/-! ### What the commands answer where they accept -/

section
variable {c : Cmd} {d : Device}

/-- CH_ARM of a channel that arms or is armed has no check of its own (R87). -/
theorem runChArm_again (hx : (d.chan c.idx).arm = .arming ∨ (d.chan c.idx).arm = .armed) (hm : d.armMode c.idx = true) :
    runChArm c d = ok d (le64 (d.tickOfFrame (d.chan c.idx).armFrame) ++ le32 (d.chan c.idx).settle) := by
  rcases hx with hx | hx <;> simp [runChArm, hx, hm]

/-- CH_ARM of a parked channel that is accepted: answered where one is accepted already, else put down (R87, R120). -/
theorem runChArm_parked (ha : c.atNow = false) (hx : (d.chan c.idx).arm = .parked) (hg : (runChArm c d).1.good = true) :
    runChArm c d =
      if (d.chan c.idx).armReq.isSome then ok d (le64 (d.nextBoundary c) ++ le32 (d.settleOf c.idx))
      else (.later, d.setChan c.idx { d.chan c.idx with armReq := some (d.nextBoundary c, c.env) }) := by
  have hrun : runChArm c d = checked d (d.armChecks c.idx) _ := if_neg (by simp [hx])
  rw [hrun] at hg ⊢
  rw [checked_good (armChecks_sane d c.idx) hg, Device.boundary_ahead ha]
  cases (d.chan c.idx).armReq <;> rfl

/-- CH_PARK that is accepted, by its forms (R89, R90, R389). -/
theorem runChPark_accepted (ha : c.atNow = false) (hg : (runChPark c d).1.good = true) :
    runChPark c d =
      if c.scope = 0 then
        okBoundary (d.parkAll (d.usedChans.filter fun ch => c.env.fn == 0 || (d.chan ch).owner == c.env.fn) 1 (d.nextBoundary c)) (d.nextBoundary c)
      else if c.opf = 1 then
        okBoundary (d.softPark c.idx (c.u32 0) (d.nextBoundary c))
          (if (d.chan c.idx).arm = .softPark then (d.chan c.idx).rampTick else d.nextBoundary c)
      else okBoundary (d.park c.idx 1 (d.nextBoundary c)) (d.nextBoundary c) := by
  rw [← Device.boundary_ahead ha]
  exact checked_good (chParkStatic_sane c) hg

/-- A hard park of one channel (R89). -/
theorem runChPark_hard (ha : c.atNow = false) (hs : c.scope = 1) (ho : c.opf = 0) (hg : (runChPark c d).1.good = true) :
    runChPark c d = okBoundary (d.park c.idx 1 (d.nextBoundary c)) (d.nextBoundary c) := by
  rw [runChPark_accepted ha hg, if_neg (by simp [hs]), if_neg (by simp [ho])]

/-- A soft park of an ARMED channel with a closed loop waits for its ramp (R90). -/
theorem Device.softPark_ramp {ch : Nat} (hx : (d.chan ch).arm = .armed) (hc : fnClosed (d.chan ch).cfg.func = true) (p least : Nat) :
    d.softPark ch p least = d.setChan ch { d.chan ch with softReq := some (least, p) } := by
  simp [Device.softPark, hx, hc]

theorem runChPark_soft (ha : c.atNow = false) (hs : c.scope = 1) (ho : c.opf = 1) (hx : (d.chan c.idx).arm = .armed)
    (hc : fnClosed (d.chan c.idx).cfg.func = true) (hg : (runChPark c d).1.good = true) :
    runChPark c d = okBoundary (d.setChan c.idx { d.chan c.idx with softReq := some (d.nextBoundary c, c.u32 0) }) (d.nextBoundary c) := by
  rw [runChPark_accepted ha hg, if_neg (by simp [hs]), if_pos ho, Device.softPark_ramp hx hc, if_neg (by simp [hx])]

end

/-- Settles O8: CH_ARM and CH_PARK by the channel's state, the other commands with their checks passed. -/
theorem channelCommandsComplete : Obligations.ChannelCommandsComplete := by
  refine ⟨?arm, ?armAgain, ?armAsked, ?park, ?parkParked, ?parkAll, ?parkSoft, ?measure, ?strobe, ?migrate⟩
  case arm =>
    exact completes_of_run (fun _ _ => rfl) fun c d ha ⟨hx, hr⟩ hg => (runChArm_parked ha hx hg).trans (if_neg (by simp [hr]))
  case armAgain => exact completes_of_run (fun _ _ => rfl) fun c d _ ⟨hx, hm⟩ _ => runChArm_again hx hm
  case armAsked =>
    exact completes_of_run (fun _ _ => rfl) fun c d ha ⟨hx, hr⟩ hg => (runChArm_parked ha hx hg).trans (if_pos hr)
  case park =>
    exact completes_of_run (fun _ _ => rfl) fun c d ha ⟨hs, ho, hx, hp⟩ hg =>
      (runChPark_hard ha hs ho hg).trans (by rw [Device.park_first hx hp, okBoundary])
  case parkParked =>
    exact completes_of_run (fun _ _ => rfl) fun c d ha ⟨hs, ho, hx, hr⟩ hg =>
      (runChPark_hard ha hs ho hg).trans (by rw [Device.park_parked hx hr, okBoundary])
  case parkAll =>
    exact completes_of_run (fun _ _ => rfl) fun c d ha hs hg => (runChPark_accepted ha hg).trans (if_pos hs)
  case parkSoft =>
    exact completes_of_run (fun _ _ => rfl) fun c d ha ⟨hs, ho, hx, hc⟩ hg => runChPark_soft ha hs ho hx hc hg
  case measure => exact completes_of_run (fun _ _ => rfl) fun c d _ _ hg => checked_good (by simp [stBUSY, stOK, stJUMP_DEFERRED]) hg
  case strobe => exact completes_of_run (fun _ _ => rfl) fun c d _ _ hg => checked_good (by simp [stBAD_TARGET, stOK, stJUMP_DEFERRED]) hg
  case migrate =>
    exact completes_of_run (fun _ _ => rfl) fun c d _ _ hg =>
      checked_good (by simp [stWRONG_MODE, stBUSY, stFAULT_ACTIVE, stOK, stJUMP_DEFERRED]) hg

end Sys2Proof.Machine
end

section
/-! PROOFS. The ends of arming, of a soft park's ramp and of a range change (R88, R90, R91, R107, R111, R116, R117, R238). -/

namespace Sys2Proof.Machine

/-! ### Arming and soft parks (R88, R90, R91) -/

section
variable {d : Device} {ch : Nat}

theorem Device.armingComplete_due (ha : (d.chan ch).arm = .arming) (hs : (d.chan ch).armFrame + (d.chan ch).settle ≤ d.time.frame + 1) :
    d.armingComplete ch = d.setChan ch { d.chan ch with arm := .armed, loop := (d.chan ch).loop.fresh } := if_pos ⟨ha, hs⟩

theorem Device.armingComplete_idle (ha : (d.chan ch).arm ≠ .arming) : d.armingComplete ch = d := if_neg fun h => ha h.1

/-- A ramp that is done takes its hard park at the next boundary, with cause 0x1. -/
theorem Device.rampComplete_due (ha : (d.chan ch).arm = .softPark) (hr : (d.chan ch).rampP ≤ (d.chan ch).rampJ) :
    d.rampComplete ch = d.park ch 1 d.nextTick := if_pos ⟨ha, hr⟩

theorem Device.rampComplete_idle (ha : (d.chan ch).arm ≠ .softPark) : d.rampComplete ch = d := if_neg fun h => ha h.1

end

/-! ### The answer to a change's command (R116) -/

section
variable (d : Device)

/-- What leaves the body alone leaves the channels and the events alone. -/
theorem Device.chan_of_body {d e : Device} (h : e.body = d.body) (k : Nat) : e.chan k = d.chan k :=
  (congrArg (fun x : Device => x.chan k) h :)
theorem Device.events_of_body {d e : Device} (h : e.body = d.body) : e.events = d.events := (congrArg Device.events h :)

@[simp] theorem Device.onChan_get (ch : Nat) (f : Chan → Chan) : (d.onChan ch f).chan ch = f (d.chan ch) := Device.setChan_get ..

variable (ch : Nat) (env : Option Env) (boundary : Nat) (payload : List Byte)

/-- The answer is given at once, or its channel keeps it for the next tick. -/
theorem Device.answerChange_cases : (d.answerChange ch env boundary payload).body = d.body ∨
    d.time.tick < boundary ∧ ∃ r, d.answerChange ch env boundary payload = d.onChan ch fun c => { c with rangeReply := r } := by
  unfold Device.answerChange
  split
  · exact .inl rfl
  · split
    · exact .inl (Device.final_body ..)
    · exact .inr ⟨by omega, _, rfl⟩

variable {d ch env boundary payload}

theorem Device.answerChange_events : (d.answerChange ch env boundary payload).events = d.events := by
  obtain hbody | ⟨-, r, heq⟩ := d.answerChange_cases ch env boundary payload
  · exact Device.events_of_body hbody
  · rw [heq]; rfl

theorem Device.answerChange_chan_ne {k : Nat} (hk : k ≠ ch) : (d.answerChange ch env boundary payload).chan k = d.chan k := by
  obtain hbody | ⟨-, r, heq⟩ := d.answerChange_cases ch env boundary payload
  · exact Device.chan_of_body hbody k
  · rw [heq]; exact Device.setChan_get_ne _ _ _ _ hk

theorem Device.answerChange_range : ((d.answerChange ch env boundary payload).chan ch).range = (d.chan ch).range := by
  obtain hbody | ⟨-, r, heq⟩ := d.answerChange_cases ch env boundary payload
  · rw [Device.chan_of_body hbody]
  · rw [heq, Device.onChan_get]

/-- An answer whose boundary has begun changes no channel. -/
theorem Device.answerChange_chan_due (hb : boundary ≤ d.time.tick) (k : Nat) : (d.answerChange ch env boundary payload).chan k = d.chan k := by
  obtain hbody | ⟨hlt, -⟩ := d.answerChange_cases ch env boundary payload
  · exact Device.chan_of_body hbody k
  · omega

end

/-! ### The end of a change (R107, R111, R116, R238) -/

/-- The channel with no range change in progress. -/
def Chan.steady (c : Chan) : Chan := { c with range := { c.range with state := .steady, change := none } }

section
variable {d : Device} {ch : Nat}

/-- A change with no further step ends with its event and its answer. -/
theorem Device.completeChange_last (hc : (d.chan ch).range.cont = none) (g : RChange) (boundary : Nat) :
    ∃ payload, d.completeChange ch g boundary =
      ((d.setChan ch (d.chan ch).steady).event (128 + ch) d.time.now).answerChange ch g.want.env boundary payload :=
  ⟨_, if_neg (by simp [hc])⟩

theorem Device.completeChange_events (hc : (d.chan ch).range.cont = none) (g : RChange) (boundary : Nat) :
    (d.completeChange ch g boundary).events = (d.event (128 + ch) d.time.now).events := by
  obtain ⟨payload, heq⟩ := Device.completeChange_last hc g boundary
  rw [heq, Device.answerChange_events]
  rfl

theorem Device.completeChange_chan_ne (hc : (d.chan ch).range.cont = none) (g : RChange) (boundary : Nat) {k : Nat} (hk : k ≠ ch) :
    (d.completeChange ch g boundary).chan k = d.chan k := by
  obtain ⟨payload, heq⟩ := Device.completeChange_last hc g boundary
  rw [heq, Device.answerChange_chan_ne hk]
  exact Device.setChan_get_ne _ _ _ _ hk

theorem Device.completeChange_range (hc : (d.chan ch).range.cont = none) (g : RChange) (boundary : Nat) :
    ((d.completeChange ch g boundary).chan ch).range = (d.chan ch).steady.range := by
  obtain ⟨payload, heq⟩ := Device.completeChange_last hc g boundary
  rw [heq, Device.answerChange_range]
  exact congrArg Chan.range (Device.setChan_get ..)

theorem Device.completeChange_due (hc : (d.chan ch).range.cont = none) (g : RChange) {boundary : Nat} (hb : boundary ≤ d.time.tick) :
    (d.completeChange ch g boundary).chan ch = (d.chan ch).steady := by
  obtain ⟨payload, heq⟩ := Device.completeChange_last hc g boundary
  rw [heq, Device.answerChange_chan_due]
  · exact Device.setChan_get ..
  · exact hb

/-! ### The phases of a change (R107, R111, R117) -/

theorem Device.ovMakeEnd_due {g : RChange} (hs : (d.chan ch).range.state = .ovMake) (hg : (d.chan ch).range.change = some g)
    (hj : g.mkN + 1 ≤ g.j) : d.ovMakeEnd ch = d.setChan ch { d.chan ch with
      range := { (d.chan ch).range with state := .ovCompare, change := some { g with j := g.mkN + 1 } } } := by
  simp [Device.ovMakeEnd, hs, hg, hj]

theorem Device.hsHoldEnd_due {g : RChange} (hs : (d.chan ch).range.state = .hsHold) (hg : (d.chan ch).range.change = some g)
    (hj : g.m + 1 ≤ g.j) : d.hsHoldEnd ch = d.completeChange ch g d.time.tick := by
  simp [Device.hsHoldEnd, hs, hg, hj]

end

@[simp] theorem Chan.rescale_range (c : Chan) (x : Desc) (q old new : Nat) : (c.rescale x q old new).range = c.range := by
  unfold Chan.rescale; split <;> rfl

@[simp] theorem Chan.rezero_range (c : Chan) : c.rezero.range = c.range := by
  unfold Chan.rezero; split <;> rfl

/-- The ranging of a channel whose fade has ended: the new code in use, its tail counted in the frame given, the pacing begun anew (R107). -/
def RangeUnit.faded (r : RangeUnit) (g : RChange) (tailFrame : Nat) : RangeUnit :=
  { r.setCode g.want.quantity g.new with tail := some (g.want.quantity, tailFrame), downV := 0, downI := 0 }

theorem RangeUnit.faded_cont (r : RangeUnit) (g : RChange) (f : Nat) : (r.faded g f).cont = r.cont := by
  unfold RangeUnit.faded RangeUnit.setCode; split <;> rfl

/-- The end of a fade completes the change on a channel that has its new range (R107). -/
theorem Device.ovFadeEnd_due {d : Device} {ch : Nat} {g : RChange} {x : Desc} (hs : (d.chan ch).range.state = .ovFade)
    (hg : (d.chan ch).range.change = some g) (hx : d.desc? ch = some x) (hj : g.mkN + 3 + g.m ≤ g.j) :
    ∃ c : Chan, c.range = (d.chan ch).range.faded g (d.time.frame + 1) ∧
      d.ovFadeEnd ch = (d.setChan ch c).completeChange ch g d.nextTick := by
  simp only [Device.ovFadeEnd, hs, hg, hx, if_pos hj]
  exact ⟨_, by simp [RangeUnit.faded], rfl⟩

/-- Settles O27: each end by its own case; the fade and the hold end in `Device.completeChange`, which raises the event. -/
theorem armingParkingAndRangeChangesComplete : Obligations.ArmingParkingAndRangeChangesComplete := by
  refine ⟨⟨?armed, ?notArming, ?ramped, ?notRamping⟩, ?make, ?fade, ?hold⟩
  case armed => exact fun s ch ha hs => yields_of_exec (f := fun d => d.armingComplete ch.val) rfl (Device.armingComplete_due ha hs)
  case notArming => exact fun s ch ha => yields_of_exec (f := fun d => d.armingComplete ch.val) rfl (Device.armingComplete_idle ha)
  case ramped =>
    exact fun s ch ha hr hp => yields_of_exec (f := fun d => d.rampComplete ch.val) rfl
      ((Device.rampComplete_due ha hr).trans (Device.park_first (by simp [ha]) hp ..))
  case notRamping => exact fun s ch ha => yields_of_exec (f := fun d => d.rampComplete ch.val) rfl (Device.rampComplete_idle ha)
  case make =>
    exact fun s ch g hheld hs hg hj => yieldsCells_of_exec (f := fun d => d.ovMakeEnd ch.val) rfl hheld (Device.ovMakeEnd_due hs hg hj)
  case fade =>
    intro s ch g x hheld hs hg hx hj hc
    refine yieldsCells_of_exec (f := fun d => d.ovFadeEnd ch.val) rfl hheld ?_
    obtain ⟨c, hrange, heq⟩ := Device.ovFadeEnd_due hs hg hx hj
    have hcont : ((s.dev.setChan ch.val c).chan ch.val).range.cont = none := by rw [Device.setChan_get, hrange, RangeUnit.faded_cont, hc]
    rw [heq, Device.completeChange_range hcont, Device.completeChange_events hcont, Device.setChan_get, Chan.steady, hrange]
    exact ⟨rfl, rfl, rfl, rfl, rfl, fun k hk =>
      (Device.completeChange_chan_ne hcont g _ hk).trans (Device.setChan_get_ne _ _ _ _ hk)⟩
  case hold =>
    intro s ch g hheld hs hg hj hc
    refine yieldsCells_of_exec (f := fun d => d.hsHoldEnd ch.val) rfl hheld ?_
    rw [Device.hsHoldEnd_due hs hg hj]
    exact ⟨Device.completeChange_due hc g (Nat.le_refl _), Device.completeChange_events hc g _,
      fun k hk => Device.completeChange_chan_ne hc g _ hk⟩

end Sys2Proof.Machine
end

section
/-! PROOFS. CH_RANGE answers the plan of its change and queues it, or completes with its boundary (R99, R102, R116, R391). -/

namespace Sys2Proof.Machine

/-! ### What CH_RANGE asks of its channel -/

/-- The channel with CH_RANGE's settings taken over and autoranging of its quantity ended, as the plan of the change finds it (R102, R116). -/
def Chan.rangeAsked (x : Chan) (c : Cmd) : Chan :=
  let y := x.overlapSet (bit (c.u8 2) 0) (c.u8 4)
  if c.u8 0 = 0 then { y with range := { y.range with autoV := false } } else { y with range := { y.range with autoI := false } }

/-- The code that a further change of a quantity starts from: the target of the change of that quantity in progress, else the present one. -/
def RangeUnit.startCode (r : RangeUnit) (q : Nat) : Nat :=
  match r.change with
  | some g => if g.want.quantity = q then g.want.target else r.code q
  | none => r.code q

/-- The outcome of CH_RANGE for the channel that it leaves and the plan of its change: completed where nothing would change and no change
is in progress, else the change queued (R116, R391). -/
def Device.rangePlanned (d : Device) (c : Cmd) (y : Chan) (plan : Nat × Nat × Rat) : Res :=
  if plan.1 = 2 ∧ (d.chan c.idx).range.change.isNone then
    (.both (le32 plan.1 ++ le32 plan.2.1 ++ leF32 (ratToF32 plan.2.2)) stOK
      (le64 (d.boundary c) ++ le64 (d.boundary c) ++ [BitVec.ofNat 8 (c.u8 1)] ++ zeros 3), d.setChan c.idx y)
  else
    (.interim stACCEPTED (le32 plan.1 ++ le32 plan.2.1 ++ leF32 (ratToF32 plan.2.2)), d.setChan c.idx
      { y with
        range := { y.range with
          queued := some { quantity := c.u8 0, target := c.u8 1, source := .command, env := some c.env }, bound := ratToF32 plan.2.2 } })

section
variable {x : Chan} {c : Cmd} {d : Device}

theorem Chan.rangeAsked_voltage (hq : c.u8 0 = 0) : x.rangeAsked c = { x with
    range := { x.range with
      ovEn := bit (c.u8 2) 0, fade := if c.u8 4 = 0 then x.range.fade else c.u8 4, autoV := false } } := if_pos hq

theorem Chan.rangeAsked_current (hq : c.u8 0 = 1) : x.rangeAsked c = { x with
    range := { x.range with
      ovEn := bit (c.u8 2) 0, fade := if c.u8 4 = 0 then x.range.fade else c.u8 4, autoI := false } } := if_neg (by simp [hq])

/-! ### What it answers where it accepts -/

/-- CH_RANGE of a channel with a descriptor is its checks and the outcome of its plan (R116). -/
theorem runChRange_described {t : Desc} (ht : d.desc? c.idx = some t) : ∃ l, saneChecks l = true ∧
    runChRange c d = checked d l (d.rangePlanned c ((d.chan c.idx).rangeAsked c) (((d.chan c.idx).rangeAsked c).changePlan t d.time.n
      (c.u8 0) ((d.chan c.idx).range.startCode (c.u8 0)) (c.u8 1))) := by
  unfold runChRange
  simp only [ht]
  exact ⟨_, by cases bit (c.u8 2) 0 <;> simp [stLOCKED, stBUSY, stOK, stJUMP_DEFERRED], rfl⟩

/-- CH_RANGE that is accepted, for the channel, the code and the plan that its form names. -/
theorem runChRange_accepted {t : Desc} {y : Chan} {q k m len : Nat} {dev : Rat} (ht : d.desc? c.idx = some t) (hq : c.u8 0 = q)
    (hy : (d.chan c.idx).rangeAsked c = y) (hk : (d.chan c.idx).range.startCode q = k)
    (hplan : y.changePlan t d.time.n q k (c.u8 1) = (m, len, dev)) (hg : (runChRange c d).1.good = true) :
    runChRange c d = d.rangePlanned c y (m, len, dev) := by
  subst hq hy hk
  obtain ⟨l, hsane, heq⟩ := runChRange_described ht
  rw [hplan] at heq
  rw [heq] at hg ⊢
  exact checked_good hsane hg

/-- Where nothing would change and no change is in progress, CH_RANGE completes with its boundary (R391). -/
theorem Device.rangePlanned_kept {y : Chan} {m len : Nat} {dev : Rat} (ha : c.atNow = false)
    (h : m = 2 ∧ (d.chan c.idx).range.change.isNone) : d.rangePlanned c y (m, len, dev) =
      (.both (le32 m ++ le32 len ++ leF32 (ratToF32 dev)) stOK
        (le64 (d.nextBoundary c) ++ le64 (d.nextBoundary c) ++ [BitVec.ofNat 8 (c.u8 1)] ++ zeros 3), d.setChan c.idx y) := by
  rw [Device.rangePlanned, if_pos h, Device.boundary_ahead ha]

/-- Otherwise the change is queued (R116). -/
theorem Device.rangePlanned_queued {y : Chan} {q m len : Nat} {dev : Rat} (hq : c.u8 0 = q)
    (h : ¬(m = 2 ∧ (d.chan c.idx).range.change.isNone)) : d.rangePlanned c y (m, len, dev) =
      (.interim stACCEPTED (le32 m ++ le32 len ++ leF32 (ratToF32 dev)), d.setChan c.idx
        { y with
          range := { y.range with
            queued := some { quantity := q, target := c.u8 1, source := .command, env := some c.env }, bound := ratToF32 dev } }) := by
  rw [Device.rangePlanned, if_neg h, hq]

end

/-- Settles O9: an accepted CH_RANGE is the outcome of its plan, queued or kept, for the voltage and for the current. -/
theorem chRangeCompletes : Obligations.ChRangeCompletes := by
  intro t y k m len dev
  refine ⟨?voltageQueued, ?voltageKept, ?currentQueued, ?currentKept⟩
  case voltageQueued =>
    exact completes_of_run (fun _ _ => rfl) fun c d _ ⟨ht, hq, hy, hk, hplan, hm⟩ hg =>
      (runChRange_accepted ht hq ((Chan.rangeAsked_voltage hq).trans hy.symm) hk hplan hg).trans (Device.rangePlanned_queued hq hm)
  case voltageKept =>
    exact completes_of_run (fun _ _ => rfl) fun c d ha ⟨ht, hq, hy, hk, hplan, hm⟩ hg =>
      (runChRange_accepted ht hq ((Chan.rangeAsked_voltage hq).trans hy.symm) hk hplan hg).trans (Device.rangePlanned_kept ha hm)
  case currentQueued =>
    exact completes_of_run (fun _ _ => rfl) fun c d _ ⟨ht, hq, hy, hk, hplan, hm⟩ hg =>
      (runChRange_accepted ht hq ((Chan.rangeAsked_current hq).trans hy.symm) hk hplan hg).trans (Device.rangePlanned_queued hq hm)
  case currentKept =>
    exact completes_of_run (fun _ _ => rfl) fun c d ha ⟨ht, hq, hy, hk, hplan, hm⟩ hg =>
      (runChRange_accepted ht hq ((Chan.rangeAsked_current hq).trans hy.symm) hk hplan hg).trans (Device.rangePlanned_kept ha hm)

end Sys2Proof.Machine
end

section
/-! PROOFS. CAL_COMMIT with and without FORCE, CAL_WRITE and CAL_PERSIST (R136, R140, R144, R147, R403, R405). -/

namespace Sys2Proof.Machine

/-- The device whose answering channel waits for a command's commit, with the step that was tested (R138, R140). -/
def Device.commitAsked (d : Device) (c : Cmd) (force : Bool) (step : Rat) (set : Nat) : Device :=
  d.onCal (d.calLead c) fun k =>
    { k with commit := some { nb := d.nextBoundary c, env := some c.env, interim := false, force := force, step := ratToF32 step, set := set } }

/-- A commit that still waits completes, with its own step, as a later CAL_COMMIT takes its place (R140). -/
def Device.endOlderCommit (d : Device) (old : Option PendCommit) (b : Nat) : Device :=
  match old with
  | some p => d.final? p.env stOK (commitPayload b p.step p.set)
  | none => d

section
variable {c : Cmd} {d : Device} {st : Rat} {n : Nat} {past : Bool}

/-- A CAL_COMMIT that is neither DISCARD nor held to a step past its limit waits for its boundary (R136, R139, R140). -/
theorem runCalCommit_waits (ha : c.atNow = false) (ht : d.stepTest (d.calTargets c) = (st, n, past)) (hd : c.opf ≠ 2)
    (hp : ¬(c.opf = 0 ∧ past = true)) (hg : (runCalCommit c d).1.good = true) :
    runCalCommit c d =
      (.later, (d.commitAsked c (c.opf == 1) st n).endOlderCommit (d.chan (d.calLead c)).cal.commit (d.nextBoundary c)) := by
  have hsane : saneChecks [badAny (c.opf == 3), no (c.scope == 2 && (d.calTargets c).isEmpty) stBAD_TARGET] = true := by
    simp [stBAD_TARGET, stOK, stJUMP_DEFERRED]
  unfold runCalCommit at hg ⊢
  simp only [ht, Device.boundary_ahead ha] at hg ⊢
  rw [checked_good hsane hg, if_neg hd, if_neg (by simpa using hp), ha]
  rfl

/-- CAL_COMMIT without FORCE and within the step limit (R136, R138). -/
theorem runCalCommit_within (ha : c.atNow = false) (ho : c.opf = 0) (ht : d.stepTest (d.calTargets c) = (st, n, past)) (hp : past = false)
    (hg : (runCalCommit c d).1.good = true) : runCalCommit c d =
      (.later, (d.commitAsked c false st n).endOlderCommit (d.chan (d.calLead c)).cal.commit (d.nextBoundary c)) := by
  rw [runCalCommit_waits ha ht (by simp [ho]) (by simp [hp]) hg, ho]
  rfl

/-- CAL_COMMIT with FORCE, whatever its step (R139). -/
theorem runCalCommit_force (ha : c.atNow = false) (ho : c.opf = 1) (ht : d.stepTest (d.calTargets c) = (st, n, past))
    (hg : (runCalCommit c d).1.good = true) : runCalCommit c d =
      (.later, (d.commitAsked c true st n).endOlderCommit (d.chan (d.calLead c)).cal.commit (d.nextBoundary c)) := by
  rw [runCalCommit_waits ha ht (by simp [ho]) (by simp [ho]) hg, ho]
  rfl

/-- CAL_WRITE that is accepted stages its set (R147). -/
theorem runCalWrite_accepted (hg : (runCalWrite c d).1.good = true) : runCalWrite c d =
    ok (d.onCal c.idx fun k => { k with staged := { k.staged with
      valid := setBit k.staged.valid (c.u8 0), sets := tabSet { g := 0 } k.staged.sets (c.u8 0) (decodeCoef c.par 4) } }) [] :=
  checked_good (by simp [stBUSY, stOK, stJUMP_DEFERRED]) hg

/-- CAL_PERSIST that is accepted begins its persist (R144). -/
theorem runCalPersist_accepted (hg : (runCalPersist c d).1.good = true) :
    runCalPersist c d = (.interim stACCEPTED [], d.startPersist c.idx (some c.env)) :=
  checked_good (by simp [stNOT_READY, stBUSY, stOK, stJUMP_DEFERRED]) hg

end

/-- Settles O14: an accepted commit takes its place in front of an older one, which completes; CAL_WRITE and CAL_PERSIST with their checks
passed. -/
theorem calibrationCommandsComplete : Obligations.CalibrationCommandsComplete := by
  refine ⟨?within, ?force, ?withinOld, ?forceOld, ?write, ?persist⟩
  case within =>
    exact fun st n past => completes_of_run (fun _ _ => rfl) fun c d ha ⟨ho, ht, hp, hold⟩ hg =>
      (runCalCommit_within ha ho ht hp hg).trans (by rw [hold]; rfl)
  case force =>
    exact fun st n past => completes_of_run (fun _ _ => rfl) fun c d ha ⟨ho, ht, hold⟩ hg =>
      (runCalCommit_force ha ho ht hg).trans (by rw [hold]; rfl)
  case withinOld =>
    exact fun st n past old => completes_of_run (fun _ _ => rfl) fun c d ha ⟨ho, ht, hp, hold⟩ hg =>
      (runCalCommit_within ha ho ht hp hg).trans (by rw [hold]; rfl)
  case forceOld =>
    exact fun st n past old => completes_of_run (fun _ _ => rfl) fun c d ha ⟨ho, ht, hold⟩ hg =>
      (runCalCommit_force ha ho ht hg).trans (by rw [hold]; rfl)
  case write => exact completes_of_run (fun _ _ => rfl) fun c d _ _ hg => runCalWrite_accepted hg
  case persist => exact completes_of_run (fun _ _ => rfl) fun c d _ _ hg => runCalPersist_accepted hg

end Sys2Proof.Machine
end

section
/-! PROOFS. The fits of a round, the persist timer, sensors valid again, measurements and self-tests (R22, R94, R130, R131, R144, R292, R392,
R484). -/

namespace Sys2Proof.Machine

/-! ### What the fits of a round leave of a channel (R130) -/

/-- A channel's fits still due, its rounds counted and the descriptor by which it works. -/
def Device.roundState (d : Device) (ch : Nat) : List (Nat × List (Nat × Rat) × Rat × Bool) × Nat × Option Desc :=
  ((d.chan ch).cal.fits, (d.chan ch).cal.rounds, d.desc? ch)

@[simp] theorem Device.onCal_cal (d : Device) (i : Nat) (f : CalUnit → CalUnit) : ((d.onCal i f).chan i).cal = f (d.chan i).cal := by
  simp [Device.onCal]

theorem Device.onCal_chan_ne (d : Device) {i ch : Nat} (h : ch ≠ i) (f : CalUnit → CalUnit) : (d.onCal i f).chan ch = d.chan ch :=
  Device.setChan_get_ne _ _ _ _ h

/-- Calibration does not choose the link of a channel. -/
@[simp] theorem Device.onCal_desc? (d : Device) (i ch : Nat) (f : CalUnit → CalUnit) : (d.onCal i f).desc? ch = d.desc? ch := by
  have hlink : (d.onCal i f).linkOf ch = d.linkOf ch := by
    unfold Device.linkOf
    by_cases h : ch = i
    · subst h; simp [Device.onCal]
    · rw [Device.onCal_chan_ne d h]
  unfold Device.desc?
  rw [hlink]
  rfl

theorem Device.onCal_roundState {d : Device} {i : Nat} {f : CalUnit → CalUnit} (hfits : (f (d.chan i).cal).fits = (d.chan i).cal.fits)
    (hrounds : (f (d.chan i).cal).rounds = (d.chan i).cal.rounds) (ch : Nat) : (d.onCal i f).roundState ch = d.roundState ch := by
  unfold Device.roundState
  by_cases h : ch = i
  · subst h; simp [hfits, hrounds]
  · simp [Device.onCal_chan_ne d h]

theorem Device.roundState_of_body {d e : Device} (h : e.body = d.body) (ch : Nat) : e.roundState ch = d.roundState ch :=
  (congrArg (fun x : Device => x.roundState ch) h :)

theorem Device.foldl_roundState {α : Type} {ch : Nat} {f : Device → α → Device} (hf : ∀ d x, (f d x).roundState ch = d.roundState ch)
    (l : List α) (d : Device) : (l.foldl f d).roundState ch = d.roundState ch :=
  List.foldlRecOn l f (motive := fun e => e.roundState ch = d.roundState ch) rfl fun e he x _ => (hf e x).trans he

/-! ### A fit discarded and a fit accepted (R130, R131, R139) -/

/-- The calibration of a channel that has discarded a fit of a set: the rounds in a row and the fits discarded counted (R131). -/
def CalUnit.discardFit (k : CalUnit) (s : Nat) : CalUnit :=
  { k with
    fails := tabSet 0 k.fails s (tabGet 0 k.fails s + 1)
    fitFail := if 16 ≤ tabGet 0 k.fails s + 1 then setBit k.fitFail s else k.fitFail
    fitsDisc := sat32 (k.fitsDisc + 1) }

/-- The bit that the sixteenth discarded fit raises is no part of the body. -/
theorem Device.fitDiscarded_body (d : Device) (ch s : Nat) : (d.fitDiscarded ch s).body = (d.onCal ch (·.discardFit s)).body := by
  unfold Device.fitDiscarded
  dsimp only
  split
  · exact Device.raiseErrAs_body _ _ _ _ _ (show ¬(50 : Nat) ≤ 8 by decide)
  · rfl

theorem Device.fitDiscarded_roundState (d : Device) (s i ch : Nat) : (d.fitDiscarded i s).roundState ch = d.roundState ch :=
  (Device.roundState_of_body (d.fitDiscarded_body i s) ch).trans (Device.onCal_roundState rfl rfl ch)

theorem CalUnit.accept_rounds (k : CalUnit) (s : Nat) (c : Coef) : (k.accept s c).fits = k.fits ∧ (k.accept s c).rounds = k.rounds := by
  unfold CalUnit.accept
  dsimp only
  split
  · split <;> exact ⟨rfl, rfl⟩
  · exact ⟨rfl, rfl⟩

theorem CalUnit.fitSource_rounds (k : CalUnit) (s : Nat) : (k.fitSource s).1.fits = k.fits ∧ (k.fitSource s).1.rounds = k.rounds := by
  unfold CalUnit.fitSource
  extract_lets ps act f gT hi k' fit
  clear_value fit
  cases fit with
  | none => exact ⟨rfl, rfl⟩
  | some c =>
    dsimp only
    split
    · exact k'.accept_rounds s c
    · exact ⟨rfl, rfl⟩

theorem Device.fitMeasure_roundState (d : Device) (i ch : Nat) (f : Nat × List (Nat × Rat) × Rat × Bool) :
    (d.fitMeasure i f).roundState ch = d.roundState ch := by
  unfold Device.fitMeasure
  dsimp only
  split
  · rfl
  · split
    · exact Device.fitDiscarded_roundState ..
    · split
      · exact Device.onCal_roundState (CalUnit.accept_rounds ..).1 (CalUnit.accept_rounds ..).2 ch
      · exact Device.fitDiscarded_roundState ..

theorem Device.fitSources_roundState (d : Device) (i ch : Nat) : (d.fitSources i).roundState ch = d.roundState ch := by
  unfold Device.fitSources
  split
  · rfl
  · refine Device.foldl_roundState (fun d s => ?_) _ d
    have hkept := Device.onCal_roundState (d := d) (i := i) (f := fun _ => ((d.chan i).cal.fitSource s).1) (CalUnit.fitSource_rounds ..).1
      (CalUnit.fitSource_rounds ..).2 ch
    dsimp only
    split
    · exact hkept
    · exact (Device.fitDiscarded_roundState ..).trans hkept

theorem Device.withhold_roundState (d : Device) (l : List Nat) (st : Rat) (s ch : Nat) : (d.withhold l st s).roundState ch = d.roundState ch :=
  Device.foldl_roundState (fun _ _ => (Device.roundState_of_body (Device.notice_body ..) ch).trans (Device.onCal_roundState rfl rfl ch)) l d

theorem Device.autoCommit_roundState (d : Device) (i ch : Nat) : (d.autoCommit i).roundState ch = d.roundState ch := by
  have hready : (d.onCal i fun k => { k with ready := true }).roundState ch = d.roundState ch := Device.onCal_roundState rfl rfl ch
  unfold Device.autoCommit
  dsimp only
  split
  · rfl
  · split
    · split
      · exact (Device.withhold_roundState ..).trans hready
      · exact (Device.onCal_roundState rfl rfl ch).trans hready
    · exact hready

/-! ### CAL_FIT_COMPLETE (R130, R131) -/

/-- The device whose oldest due fit of a channel has been carried out. -/
def Device.fitTaken (d : Device) (ch : Nat) (f : Nat × List (Nat × Rat) × Rat × Bool) (rest : List (Nat × List (Nat × Rat) × Rat × Bool)) : Device :=
  (d.onCal ch fun k => { k with fits := rest }).fitMeasure ch f

/-- The calibration of a channel at the end of a round: the round counted and the monitor step shown (R130, R139). -/
def CalUnit.endRound (k : CalUnit) : CalUnit :=
  { k with rounds := sat32 (k.rounds + 1), monitor := if k.withheld then ratToF32 k.monAcc else 0, monAcc := 0 }

section
variable {d : Device} {ch : Nat} {f : Nat × List (Nat × Rat) × Rat × Bool} {rest : List (Nat × List (Nat × Rat) × Rat × Bool)}

theorem Device.fitTaken_roundState :
    (d.fitTaken ch f rest).roundState ch = (rest, (d.chan ch).cal.rounds, d.desc? ch) := by
  rw [Device.fitTaken, Device.fitMeasure_roundState, Device.roundState]
  simp

theorem Device.fitTaken_desc? : (d.fitTaken ch f rest).desc? ch = d.desc? ch := congrArg (·.2.2) Device.fitTaken_roundState

/-- With nothing due nothing is taken. -/
theorem Device.calFitComplete_idle (h : (d.chan ch).cal.fits = []) : d.calFitComplete ch = d := by
  simp [Device.calFitComplete, h]

/-- A fit that is not the last of its round is taken and nothing more. -/
theorem Device.calFitComplete_midRound (h : (d.chan ch).cal.fits = f :: rest)
    (hl : ¬∃ x, d.desc? ch = some x ∧ x.roundSets.getLast? = some f.1) : d.calFitComplete ch = d.fitTaken ch f rest := by
  unfold Device.calFitComplete
  simp only [h]
  rw [← Device.fitTaken, Device.fitTaken_desc?]
  cases hx : d.desc? ch with
  | none => rfl
  | some x => exact if_neg fun he => hl ⟨x, hx, he⟩

/-- The last fit of a round brings the source refits, the round's count and the commit (R130, R133, R137). -/
theorem Device.calFitComplete_last {x : Desc} (h : (d.chan ch).cal.fits = f :: rest) (hx : d.desc? ch = some x)
    (hl : x.roundSets.getLast? = some f.1) :
    d.calFitComplete ch = (((d.fitTaken ch f rest).fitSources ch).onCal ch CalUnit.endRound).autoCommit ch := by
  unfold Device.calFitComplete
  simp only [h]
  rw [← Device.fitTaken, Device.fitTaken_desc?, hx]
  exact if_pos hl

/-- The fits due and the rounds counted once the oldest fit is taken (R130). -/
theorem Device.calFitComplete_rounds (h : (d.chan ch).cal.fits = f :: rest) :
    ((d.calFitComplete ch).chan ch).cal.fits = rest ∧ ∀ x, d.desc? ch = some x →
      ((d.calFitComplete ch).chan ch).cal.rounds =
        if x.roundSets.getLast? = some f.1 then sat32 ((d.chan ch).cal.rounds + 1) else (d.chan ch).cal.rounds := by
  by_cases hl : ∃ x, d.desc? ch = some x ∧ x.roundSets.getLast? = some f.1
  · obtain ⟨x, hx, hlast⟩ := hl
    have hsources := (Device.fitSources_roundState (d.fitTaken ch f rest) ch ch).trans Device.fitTaken_roundState
    have hstate := Device.autoCommit_roundState (((d.fitTaken ch f rest).fitSources ch).onCal ch CalUnit.endRound) ch ch
    rw [← Device.calFitComplete_last h hx hlast] at hstate
    have hfits : (((d.fitTaken ch f rest).fitSources ch).chan ch).cal.fits = rest := congrArg (·.1) hsources
    have hrounds : (((d.fitTaken ch f rest).fitSources ch).chan ch).cal.rounds = (d.chan ch).cal.rounds := congrArg (·.2.1) hsources
    refine ⟨(congrArg (·.1) hstate).trans ?_, fun y hy => (congrArg (·.2.1) hstate).trans ?_⟩
    · simp [Device.roundState, CalUnit.endRound, hfits]
    · obtain rfl : x = y := Option.some.inj (hx.symm.trans hy)
      simp [Device.roundState, CalUnit.endRound, hrounds, hlast]
  · rw [Device.calFitComplete_midRound h hl]
    exact ⟨congrArg (·.1) Device.fitTaken_roundState, fun x hx => by
      rw [if_neg fun he => hl ⟨x, hx, he⟩]
      exact congrArg (·.2.1) Device.fitTaken_roundState⟩

/-- A set with a lost point has its fit discarded (R131; log 31). -/
theorem Device.fitTaken_lost {k : Nat} {pts : List (Nat × Rat)} {th : Rat} {x : Desc} (hx : d.desc? ch = some x) :
    ((d.fitTaken ch (k, pts, th, true) rest).chan ch).cal = ({ (d.chan ch).cal with fits := rest } : CalUnit).discardFit k := by
  have heq : d.fitTaken ch (k, pts, th, true) rest = (d.onCal ch fun k => { k with fits := rest }).fitDiscarded ch k := by
    simp [Device.fitTaken, Device.fitMeasure, hx]
  rw [heq, Device.chan_of_body (Device.fitDiscarded_body ..)]
  simp

/-! ### The persist timer (R144) -/

theorem Device.persistTimer_starts {x : Desc} (hx : d.desc? ch = some x) (hm : x.capMemory = true) (hp : (d.chan ch).cal.persist = none) :
    d.persistTimer ch = d.startPersist ch none := by
  simp [Device.persistTimer, hx, hm, hp]

theorem Device.persistTimer_memoryless (h : ∀ x, d.desc? ch = some x → x.capMemory = false) : d.persistTimer ch = d := by
  unfold Device.persistTimer
  cases hx : d.desc? ch with
  | none => rfl
  | some x => simp [h x hx]

/-! ### CH_MEASURE's completion (R392) -/

/-- The frames are taken and some were valid: the completion carries the means over the valid ones. -/
theorem Device.measureComplete_done {m : Measure} (h : (d.chan ch).measure = some m) (ht : m.k ≤ m.taken) (hv : 0 < m.valid) :
    d.measureComplete ch = (d.setChan ch { d.chan ch with measure := none }).final m.env stOK
      (le64 m.stamp ++ leF32 (ratToF32 (m.sumV / (m.valid : Rat))) ++ leF32 (ratToF32 (m.sumI / (m.valid : Rat))) ++ le32 (m.flags ||| m.lastFlags) ++
        [BitVec.ofNat 8 m.ranges] ++ zeros 3) := by
  simp only [Device.measureComplete, h, if_neg (Nat.not_lt.mpr ht), if_neg (Nat.ne_of_gt hv), Nat.max_eq_left hv]

theorem Device.measureComplete_idle (h : (d.chan ch).measure = none) : d.measureComplete ch = d := by
  simp [Device.measureComplete, h]

end

/-! ### A broken sensor reads validly again (R292) -/

/-- A broken sensor is valid again once 10 s of valid readings lie behind it. -/
theorem Sensor.revalidates_iff (x : Sensor) (now : Nat) :
    x.revalidates now = true ↔ x.broken = true ∧ ∃ t, x.validSince = some t ∧ t + 10 * secUnits ≤ now := by
  unfold Sensor.revalidates
  cases x.validSince <;> simp

section
variable {d : Device} {z p : Nat} {x : Sensor}

/-- The sensor's record is replaced, and the calibration of its own channel may go on (R134, R292). -/
theorem Device.sensorRevalidated_due (hx : (d.zone z).sensors[p]? = some x) (h : x.revalidates d.time.now = true) :
    d.sensorRevalidated z p =
      if x.kind = 0 then
        (d.setZone z { d.zone z with sensors := (d.zone z).sensors.set p x.revalidated }).onCal (d.chanOfLink x.index) fun k =>
          { k with sensorHold := false }
      else d.setZone z { d.zone z with sensors := (d.zone z).sensors.set p x.revalidated } := by
  simp only [Device.sensorRevalidated, hx, h, Bool.not_true, Bool.false_eq_true, if_false]
  rfl

theorem Device.sensorRevalidated_zone (hx : (d.zone z).sensors[p]? = some x) (h : x.revalidates d.time.now = true) (k : Nat) :
    (d.sensorRevalidated z p).zone k = (d.setZone z { d.zone z with sensors := (d.zone z).sensors.set p x.revalidated }).zone k := by
  rw [Device.sensorRevalidated_due hx h]
  split <;> rfl

theorem Device.sensorRevalidated_flt (hx : (d.zone z).sensors[p]? = some x) (h : x.revalidates d.time.now = true) :
    (d.sensorRevalidated z p).flt = d.flt := by
  rw [Device.sensorRevalidated_due hx h]
  split <;> rfl

theorem Device.sensorRevalidated_idle (hx : (d.zone z).sensors[p]? = some x) (h : x.revalidates d.time.now = false) :
    d.sensorRevalidated z p = d := by
  simp [Device.sensorRevalidated, hx, h]

end

/-! ### Self-tests (R22, R94, R484) -/

section
variable {d : Device}

/-- The only migration under way passes its test. -/
theorem Device.migrateTested_passed {m : Migration} {j : Nat} (h : d.migrations = [m]) (hj : m.slot = j) (hp : m.passed = false) :
    d.migrateTested j true = { d with migrations := [{ m with passed := true }] } := by
  simp [Device.migrateTested, h, hj, hp]

/-- The device whose only migration is refused: its target held faulty (R94). -/
def Device.targetFailed (d : Device) (m : Migration) : Device :=
  let d := { d with migrations := [] }
  d.setEngine m.engine { d.engine m.engine with faulty := true, tested := false }

theorem Device.migrateTested_failed {m : Migration} {j : Nat} (h : d.migrations = [m]) (hj : m.slot = j) (hp : m.passed = false) :
    d.migrateTested j false = (d.targetFailed m).final m.env stFAULT_ACTIVE [] := by
  simp [Device.migrateTested, Device.targetFailed, h, hj, hp]

theorem Device.targetFailed_engine (m : Migration) :
    (d.targetFailed m).engine m.engine = { d.engine m.engine with faulty := true, tested := false } := (Device.setEngine_get _ m.engine _ :)

theorem Device.engine_of_body {d e : Device} (h : e.body = d.body) (k : Nat) : e.engine k = d.engine k :=
  (congrArg (fun x : Device => x.engine k) h :)

/-- Raising an error marks at most the error of one engine. -/
theorem Device.raiseErrAs_engine (d : Device) (e : ErrEvent) (t : Nat) (ov : Option Nat) (c k : Nat) :
    ∃ b, (d.raiseErrAs e t ov c).engine k = { d.engine k with errored := b } := by
  have hmark (i : Nat) : ∃ b, (d.setEngine i { d.engine i with errored := true }).engine k = { d.engine k with errored := b } := by
    by_cases hk : k = i
    · subst hk; exact ⟨true, Device.setEngine_get ..⟩
    · exact ⟨(d.engine k).errored, Device.setEngine_get_ne _ _ _ _ hk⟩
  have hjournal (d : Device) (k' m b s e c w : Nat) (l : List Byte) : (d.journal k' m b s e c w l).engine k = d.engine k := by
    simp [Device.engine]
  unfold Device.raiseErrAs
  simp only [apply_ite (Device.engine · k), hjournal, ite_self]
  split
  · exact hmark _
  · exact ⟨(d.engine k).errored, rfl⟩

/-- The spare that has failed its self-test, before its bit is raised: held faulty, out of readiness (R22, R484). -/
def Device.spareFailed (d : Device) (e : Nat) : Device :=
  let d := d.setEngine e { d.engine e with tested := false, faulty := true }
  { d with ready := { d.ready with engClr := setBit d.ready.engClr e } }

theorem Device.spareFailed_engine (e : Nat) : (d.spareFailed e).engine e = { d.engine e with tested := false, faulty := true } :=
  Device.setEngine_get d e { d.engine e with tested := false, faulty := true }

theorem Device.spareSelftest_passed {e : Nat} (hs : d.slotOf e = none) (hf : (d.engine e).faulty = false) :
    d.spareSelftest e true = d.setEngine e { d.engine e with tested := true } := by
  simp [Device.spareSelftest, hs, hf]

theorem Device.spareSelftest_failed {e : Nat} (hs : d.slotOf e = none) (hf : (d.engine e).faulty = false) :
    d.spareSelftest e false = (d.spareFailed e).raiseErrAs (errAt (e / 8) (e % 8) 10 none) d.time.now none 0 := by
  simp [Device.spareSelftest, Device.spareFailed, Device.raiseErr, hs, hf]

/-- A failed spare raises its own engine's bit with CHECK 0xA. -/
theorem Device.spareSelftest_records {e : Nat} (he : e < 72) (hs : d.slotOf e = none) (hf : (d.engine e).faulty = false) :
    d.Records (d.spareSelftest e false) (e / 8) (e % 8) 10 d.time.now := by
  have hbit : (errAt (e / 8) (e % 8) 10 none).bit.val = e / 8 := Nat.mod_eq_of_lt (by omega)
  have hunit : (errAt (e / 8) (e % 8) 10 none).unit.val = e % 8 := Nat.mod_eq_of_lt (by omega)
  obtain ⟨hpf, hevent, hword, hreaction⟩ :=
    (d.spareFailed e).raiseErrAs_records (errAt (e / 8) (e % 8) 10 none) d.time.now none 0 rfl rfl rfl
  rw [hbit] at hpf hevent hword hreaction
  rw [hunit] at hword
  rw [Device.spareSelftest_failed hs hf]
  exact ⟨hpf, hevent, hword, hreaction⟩

end

/-- Settles O30: the fits by the round's state, which all but the round's end leaves alone; the other events each by its own case. -/
theorem calibrationSensorsAndTestsProceed : Obligations.CalibrationSensorsAndTestsProceed := by
  refine ⟨⟨?fit, ?lost, ?noFit, ?timer, ?noMemory⟩, ⟨?valid, ?broken⟩, ?measure, ?noMeasure, ?migrate, ?spare⟩
  case fit =>
    exact fun s ch f rest hheld hfits => yieldsCells_of_exec (f := fun d => d.calFitComplete ch.val) rfl hheld (Device.calFitComplete_rounds hfits)
  case lost =>
    intro s ch k pts th rest x hheld hfits hx hl
    refine yieldsCells_of_exec (f := fun d => d.calFitComplete ch.val) rfl hheld ?_
    have hmid : ¬∃ y, s.dev.desc? ch.val = some y ∧ y.roundSets.getLast? = some k := by
      rintro ⟨y, hy, hlast⟩
      exact hl (Option.some.inj (hx.symm.trans hy) ▸ hlast)
    rw [Device.calFitComplete_midRound hfits hmid, Device.fitTaken_lost hx]
    exact ⟨rfl, rfl, rfl⟩
  case noFit =>
    exact fun s ch hheld hfits => yieldsCells_of_exec (f := fun d => d.calFitComplete ch.val) rfl hheld (Device.calFitComplete_idle hfits)
  case timer =>
    exact fun s ch x hheld hx hm hp => yieldsCells_of_exec (f := fun d => d.persistTimer ch.val) rfl hheld (Device.persistTimer_starts hx hm hp)
  case noMemory =>
    exact fun s ch hheld h => yieldsCells_of_exec (f := fun d => d.persistTimer ch.val) rfl hheld (Device.persistTimer_memoryless h)
  case valid =>
    intro s z p x t hx hb ht hle
    have hdue := (x.revalidates_iff _).mpr ⟨hb, t, ht, hle⟩
    refine yields_of_exec (f := fun d => d.sensorRevalidated z.val p.val) rfl ⟨?_, fun k hk => ?_, Device.sensorRevalidated_flt hx hdue⟩
    · rw [Device.sensorRevalidated_zone hx hdue, Device.setZone_get]; rfl
    · rw [Device.sensorRevalidated_zone hx hdue, Device.setZone_get_ne _ _ _ _ hk]
  case broken =>
    intro s z p x hx h
    refine yields_of_exec (f := fun d => d.sensorRevalidated z.val p.val) rfl (Device.sensorRevalidated_idle hx ?_)
    rw [Bool.eq_false_iff, ne_eq, Sensor.revalidates_iff]
    rintro ⟨hb, t, ht, hle⟩
    rcases h with hb' | hnone | ⟨u, hu, hlt⟩
    · simp [hb] at hb'
    · simp [ht] at hnone
    · obtain rfl : t = u := Option.some.inj (ht.symm.trans hu)
      omega
  case measure =>
    exact fun s ch m hheld hm ht hv =>
      yieldsCells_of_exec (f := fun d => d.measureComplete ch.val) rfl hheld (Device.measureComplete_done hm ht hv)
  case noMeasure =>
    exact fun s ch hheld hm => yieldsCells_of_exec (f := fun d => d.measureComplete ch.val) rfl hheld (Device.measureComplete_idle hm)
  case migrate =>
    intro s j m hheld hm hj hp
    refine ⟨yieldsCells_of_exec (f := fun d => d.migrateTested j.val true) rfl hheld (Device.migrateTested_passed hm hj hp),
      yieldsCells_of_exec (f := fun d => d.migrateTested j.val false) rfl hheld ?_⟩
    dsimp only
    rw [Device.migrateTested_failed hm hj hp, Device.engine_of_body (Device.final_body ..)]
    have hbody := (s.dev.targetFailed m).final_body m.env stFAULT_ACTIVE []
    exact ⟨(congrArg Device.migrations hbody :), Device.targetFailed_engine m, (congrArg Device.slots hbody :)⟩
  case spare =>
    intro s e hs hf
    refine ⟨yields_of_exec (f := fun d => d.spareSelftest e.val true) rfl (Device.spareSelftest_passed hs hf),
      yields_of_exec (f := fun d => d.spareSelftest e.val false) rfl ?_⟩
    obtain ⟨b, hengine⟩ := (s.dev.spareFailed e.val).raiseErrAs_engine (errAt (e.val / 8) (e.val % 8) 10 none) s.dev.time.now none 0 e.val
    rw [← Device.spareSelftest_failed hs hf, Device.spareFailed_engine] at hengine
    refine ⟨by rw [hengine], by rw [hengine], ?_, Device.spareSelftest_records e.isLt hs hf⟩
    rw [Device.spareSelftest_failed hs hf, Device.raiseErrAs_ready]
    rfl

end Sys2Proof.Machine
end

section
/-! PROOFS. The words of a downstream block hold their fields (R159, R160). -/

namespace Sys2Proof.Machine

/-! ### A word as the fields that it is made of -/

/-- The word that fields, each a width and a value, make up from bit 0 upwards. -/
def packed : List (Nat × Nat) → Nat
  | [] => 0
  | x :: l => x.2 + 2 ^ x.1 * packed l

/-- The bits that fields take together. -/
def fieldsWidth (l : List (Nat × Nat)) : Nat := (l.map Prod.fst).sum

theorem packed_lt {l : List (Nat × Nat)} (h : ∀ x ∈ l, x.2 < 2 ^ x.1) : packed l < 2 ^ fieldsWidth l := by
  induction l with
  | nil => exact Nat.one_pos
  | cons x l ih =>
    obtain ⟨hx, hl⟩ := List.forall_mem_cons.mp h
    have hwidth : 2 ^ fieldsWidth (x :: l) = 2 ^ x.1 * 2 ^ fieldsWidth l := by simp [fieldsWidth, Nat.pow_add]
    rw [hwidth]
    calc x.2 + 2 ^ x.1 * packed l < 2 ^ x.1 * (packed l + 1) := by rw [Nat.mul_add_one]; omega
      _ ≤ 2 ^ x.1 * 2 ^ fieldsWidth l := Nat.mul_le_mul_left _ (ih hl)

/-- Each field is read at its bits, above those of the fields before it, whatever the others hold within their widths. -/
theorem bits_packed {l : List (Nat × Nat)} (h : ∀ x ∈ l, x.2 < 2 ^ x.1) (i : Nat) {w v hi lo : Nat} (hf : l[i]? = some (w + 1, v))
    (hlo : fieldsWidth (l.take i) = lo) (hhi : lo + w = hi) : bits (packed l) hi lo = v := by
  subst hlo hhi
  induction l generalizing i with
  | nil => simp at hf
  | cons x l ih =>
    obtain ⟨hx, hl⟩ := List.forall_mem_cons.mp h
    cases i with
    | zero =>
      obtain rfl : x = (w + 1, v) := by simpa using hf
      simpa [bits, packed, fieldsWidth] using Nat.mod_eq_of_lt hx
    | succ i =>
      have hskip : packed (x :: l) / 2 ^ (x.1 + fieldsWidth (l.take i)) = packed l / 2 ^ fieldsWidth (l.take i) := by
        rw [Nat.pow_add, ← Nat.div_div_eq_div_mul, packed, Nat.add_mul_div_left _ _ (Nat.two_pow_pos _), Nat.div_eq_of_lt hx, Nat.zero_add]
      have hfield := ih hl i hf
      rw [show fieldsWidth ((x :: l).take (i + 1)) = x.1 + fieldsWidth (l.take i) from by simp [fieldsWidth]]
      simpa only [bits, hskip, show x.1 + fieldsWidth (l.take i) + w + 1 - (x.1 + fieldsWidth (l.take i)) = w + 1 by omega,
        show fieldsWidth (l.take i) + w + 1 - fieldsWidth (l.take i) = w + 1 by omega] using hfield

theorem bit_eq_testBit (v i : Nat) : bit v i = v.testBit i := by
  rw [Nat.testBit_eq_decide_div_mod_eq]
  rfl

/-- A bit of a field is the bit of the word at the field's place. -/
theorem bit_bits {v hi lo g : Nat} (h : lo + g ≤ hi) : bit (bits v hi lo) g = bit v (lo + g) := by
  simp only [bits, bit_eq_testBit, Nat.testBit_mod_two_pow, Nat.testBit_div_two_pow, Nat.add_comm g lo]
  simp; omega

/-- A flag is read from a field of one bit. -/
theorem bit_of_bits {v i : Nat} {b : Bool} (h : bits v i i = b.toNat) : bit v i = b := by
  have hbit := bit_bits (v := v) (Nat.le_refl (i + 0))
  rw [Nat.add_zero, h] at hbit
  rw [← hbit]
  cases b <;> rfl

theorem flag_eq_toNat (b : Bool) (i : Nat) : flag b i = b.toNat * 2 ^ i :=
  (flag_eq b i).trans (by cases b <;> rfl)

theorem clamp12_lt (v : Int) : clamp12 v < 2 ^ 12 := by
  simp only [clamp12, ofSigned]
  omega

/-! ### D0 (R159) -/

/-- MASK holds one bit for each strobe group (R159). -/
theorem Device.strobeMask_eq (d : Device) : d.strobeMask = bitsNat ((List.range 16).map fun g => (d.strobe g).fires) := by
  rw [Device.strobeMask, show List.range 16 = [0, 1, 2, 3, 4, 5, 6, 7, 8, 9, 10, 11, 12, 13, 14, 15] from rfl]
  simp only [List.foldl, List.map, bitsNat, flag_eq]
  omega

theorem Device.strobeMask_lt (d : Device) : d.strobeMask < 2 ^ 16 := by
  simpa [Device.strobeMask_eq] using bitsNat_lt ((List.range 16).map fun g => (d.strobe g).fires)

theorem Device.bit_strobeMask (d : Device) {g : Nat} (h : g < 16) : bit d.strobeMask g = (d.strobe g).fires := by
  simp [Device.strobeMask_eq, bit_bitsNat, h]

/-- The class of the frame length that D0 names (R159). -/
def Device.lengthClass (d : Device) : Nat := if d.time.n < 50 then 1 else if d.time.n < 100 then 2 else 3

theorem Device.lengthClass_lt (d : Device) : d.lengthClass < 2 ^ 2 := by
  unfold Device.lengthClass
  repeat' split
  all_goals decide

theorem Link.blockType_lt (x : Link) : x.blockType < 2 ^ 4 := by
  unfold Link.blockType
  repeat' split
  all_goals decide

/-- Is the frame one whose D0 goes half a unit interval later (R154). -/
def Device.halfFrame (d : Device) : Bool := decide (d.time.n % 2 = 1 ∧ d.time.frame % 2 = 1)

/-- The fields of D0 from bit 0 upwards (R159): type, timing set, frame number, half, MASK, class, TAPPLY and the clamps. -/
def Device.d0Fields (d : Device) (l : Nat) (apply : Bool) (q r : Nat) (p n : Int) : List (Nat × Nat) :=
  [(4, (d.link l).blockType), (4, (d.chan (d.chanOfLink l)).cfg.tset), (7, d.time.frame % 128), (1, d.halfFrame.toNat), (16, d.strobeMask),
   (2, d.lengthClass), (1, apply.toNat), (1, q), (4, r), (12, clamp12 p), (12, clamp12 n)]

section
variable {d : Device} {l q r : Nat} {p n : Int} {x : Desc} (apply : Bool)

theorem Device.d0Fields_fit (hq : q < 2) (hr : r < 16) (ht : (d.chan (d.chanOfLink l)).cfg.tset < 16) :
    ∀ f ∈ d.d0Fields l apply q r p n, f.2 < 2 ^ f.1 := by
  simp only [Device.d0Fields, List.forall_mem_cons]
  exact ⟨Link.blockType_lt _, ht, Nat.mod_lt _ (by decide), Bool.toNat_lt _, d.strobeMask_lt, d.lengthClass_lt, Bool.toNat_lt _, hq, hr,
    clamp12_lt p, clamp12_lt n, nofun⟩

theorem Device.blockD0_eq_packed (hx : (d.link l).desc = some x)
    (hc : (d.chan (d.chanOfLink l)).loop.clamp.getD ((d.chan (d.chanOfLink l)).clamps x) = (q, r, p, n)) :
    d.blockD0 l apply = packed (d.d0Fields l apply q r p n) := by
  simp only [Device.blockD0, hx, hc, packed, Device.d0Fields, Device.halfFrame, Device.lengthClass, flag_eq_toNat]
  omega

end

/-! ### D1 (R160) -/

/-- The fields of D1 from bit 0 upwards with no range change in progress (R160): code, path, relay, ranges, the section's bits clear,
the reference asked for, the management byte and the place of the CRC clear. -/
def Device.d1Fields (d : Device) (l mgmt code path : Nat) (relay : Bool) (rs rk : Nat) : List (Nat × Nat) :=
  [(18, code), (1, path), (1, relay.toNat), (3, (d.chan (d.chanOfLink l)).range.v), (4, (d.chan (d.chanOfLink l)).range.i), (6, 0), (3, rk), (5, rs),
   (10, mgmt), (13, 0)]

theorem Device.blockD1_eq_packed {d : Device} {l code path rs rk : Nat} {relay : Bool} (mgmt : Nat) (hup : d.linkUp l = true)
    (hs : d.blockState (d.chanOfLink l) = (code, path, relay)) (ha : (d.chan (d.chanOfLink l)).cal.ask = some (rs, rk))
    (hc : (d.chan (d.chanOfLink l)).range.change = none) : d.blockD1 l mgmt = packed (d.d1Fields l mgmt code path relay rs rk) := by
  simp only [Device.blockD1, hup, hs, ha, hc, packed, Device.d1Fields, flag_eq_toNat, if_true, Option.isSome_none, Bool.and_false, Bool.toNat_false]
  omega

/-- Settles O58: either word is packed from its fields, each within its width, and a packed field is read at its bits (R159, R160). -/
theorem blockWordsHoldTheirFields : Obligations.BlockWordsHoldTheirFields := by
  refine ⟨?d0, ?d1⟩
  case d0 =>
    intro d l apply x q r p n hx hc hq hr ht
    have hfit := Device.d0Fields_fit (d := d) (l := l) (p := p) (n := n) apply hq hr ht
    rw [Device.blockD0_eq_packed apply hx hc]
    refine ⟨bits_packed hfit 0 rfl rfl rfl, bits_packed hfit 1 rfl rfl rfl, bits_packed hfit 2 rfl rfl rfl, ?half, ?mask,
      bits_packed hfit 5 rfl rfl rfl, bit_of_bits (bits_packed hfit 6 rfl rfl rfl), bits_packed hfit 7 rfl rfl rfl,
      bits_packed hfit 8 rfl rfl rfl, bits_packed hfit 9 rfl rfl rfl, bits_packed hfit 10 rfl rfl rfl, packed_lt hfit⟩
    case half =>
      have hhalf : bits (packed (d.d0Fields l apply q r p n)) 15 15 = d.halfFrame.toNat := bits_packed hfit 3 rfl rfl rfl
      rw [bit_of_bits hhalf, Device.halfFrame, decide_eq_true_iff]
    case mask =>
      intro g hg
      have hmask : bits (packed (d.d0Fields l apply q r p n)) 31 16 = d.strobeMask := bits_packed hfit 4 rfl rfl rfl
      rw [← bit_bits (hi := 31) (by omega), hmask, d.bit_strobeMask hg]
  case d1 =>
    intro d l mgmt code path relay rs rk hup hs hcode hpath hmgmt ha hrs hrk hc hv hi
    have hfit : ∀ f ∈ d.d1Fields l mgmt code path relay rs rk, f.2 < 2 ^ f.1 := by
      simp only [Device.d1Fields, List.forall_mem_cons]
      exact ⟨hcode, hpath, Bool.toNat_lt _, hv, hi, by decide, hrk, hrs, hmgmt, by decide, nofun⟩
    rw [Device.blockD1_eq_packed mgmt hup hs ha hc]
    exact ⟨bits_packed hfit 0 rfl rfl rfl, bits_packed hfit 1 rfl rfl rfl, bit_of_bits (bits_packed hfit 2 rfl rfl rfl),
      bits_packed hfit 3 rfl rfl rfl, bits_packed hfit 4 rfl rfl rfl, bits_packed hfit 5 rfl rfl rfl, bits_packed hfit 6 rfl rfl rfl,
      bits_packed hfit 7 rfl rfl rfl, bits_packed hfit 8 rfl rfl rfl, bits_packed hfit 9 rfl rfl rfl⟩

end Sys2Proof.Machine
end

section
/-! PROOFS. Management replies while a link is described, the ACK that brings it UP and requests without a reply (R167..R169, R173, R175, R176). -/

namespace Sys2Proof.Machine

/-! ### What the management traffic of a link leaves alone (R166..R168) -/

/-- A reading of a link in which the requests on their way have no part. -/
def Link.OffTraffic {α : Type} (f : Link → α) : Prop :=
  ∀ (x : Link) out reqs tx tapply, f { x with out := out, reqs := reqs, tx := tx, tapply := tapply } = f x

section
variable {α : Type} {f : Link → α} (hf : Link.OffTraffic f)
include hf

theorem Link.OffTraffic.pump (x : Link) (l frame : Nat) : f (x.pump l frame) = f x := by
  unfold Link.pump
  repeat' split
  · rfl
  · rfl
  · exact hf x ..

theorem Link.OffTraffic.request (d : Device) (l : Nat) (rs : List MgmtReq) : f ((d.request l rs).link l) = f (d.link l) := by
  rw [Device.request, Device.onLink, Device.setLink_get]
  exact (hf.pump _ l d.time.frame).trans (hf (d.link l) ..)

theorem Link.OffTraffic.reqDone (d : Device) (l : Nat) : f ((d.reqDone l).link l) = f (d.link l) := by
  have hsent : f ((d.onLink l fun x => { x with out := none }.pump l d.time.frame).link l) = f (d.link l) := by
    rw [Device.onLink, Device.setLink_get]
    exact (hf.pump _ l d.time.frame).trans (hf (d.link l) ..)
  unfold Device.reqDone
  extract_lets was drained e
  change f (e.link l) = f (d.link l) at hsent
  split
  · exact hsent
  · split
    · unfold Device.tsLinkDone
      split <;> exact hsent
    · split
      · rw [Device.onLink, Device.setLink_get]
        exact (hf (e.link l) ..).trans hsent
      · exact hsent

end

/-- The pages and the slot headers that a front-end has sent. -/
def Link.replies (x : Link) : Tab (List Byte) × Tab (List Byte) := (x.pages, x.hdrs)

theorem Link.offTraffic_state : Link.OffTraffic Link.state := fun _ _ _ _ _ => rfl
theorem Link.offTraffic_pages : Link.OffTraffic Link.pages := fun _ _ _ _ _ => rfl
theorem Link.offTraffic_recBytes : Link.OffTraffic Link.recBytes := fun _ _ _ _ _ => rfl
theorem Link.offTraffic_replies : Link.OffTraffic Link.replies := fun _ _ _ _ _ => rfl

/-! ### Pages, slot headers and record bytes (R169, R172, R173) -/

theorem Link.loading_replies (x : Link) (rs : List MgmtReq) : (x.loading rs).replies = x.replies :=
  List.foldlRecOn rs _ (motive := fun y : Link => y.replies = x.replies) rfl fun y hy r _ => by
    cases r <;> exact hy

theorem Device.configureLink_replies (d : Device) (l : Nat) : ((d.configureLink l).link l).replies = (d.link l).replies := by
  unfold Device.configureLink
  extract_lets c cfg tables rs
  rw [Link.offTraffic_replies.request, Device.onLink, Device.setLink_get, Link.loading_replies]

theorem Device.nextRecord_replies (d : Device) (l : Nat) : ((d.nextRecord l).link l).replies = (d.link l).replies := by
  unfold Device.nextRecord
  split
  · rw [Link.offTraffic_replies.request, Device.onLink, Device.setLink_get]
    rfl
  · rw [Device.configureLink_replies, Device.onLink, Device.setLink_get]
    rfl

theorem Device.descriptorRead_pages (d : Device) (l : Nat) : ((d.descriptorRead l).link l).pages = (d.link l).pages := by
  unfold Device.descriptorRead
  extract_lets x other code _ desc e
  have hkept : (e.link l).pages = x.pages := (congrArg Link.pages (Device.setLink_get ..) :)
  split
  · exact (congrArg Link.pages (Device.setLink_get ..) :)
  · split
    · exact (Link.offTraffic_pages.request e l _).trans hkept
    · exact (Prod.mk.inj (e.configureLink_replies l)).1.trans hkept

section
variable {d : Device} {l : Nat} {o : Outstanding} (hs : (d.link l).state = .describe) (ho : (d.link l).out = some o)
include hs ho

/-- The page asked for is kept, whatever it lets the link do next (R167, R169, R172). -/
theorem Device.pageData_pages {page : Nat} {data : List Byte} (hlen : data.length = 256) (hm : o.msg = .pageRead page) :
    ((d.pageData l page data).link l).pages = tabInsert (d.link l).pages page data := by
  unfold Device.pageData
  extract_lets x e e'
  have hread : (e.link l).pages = tabInsert x.pages page data :=
    (Link.offTraffic_pages.reqDone _ l).trans (congrArg Link.pages (Device.setLink_get ..))
  have hasked : (e'.link l).pages = tabInsert x.pages page data := by
    unfold e'
    split
    · exact (Link.offTraffic_pages.request e l _).trans hread
    · exact hread
  rw [if_pos ⟨hs, hlen, by rw [ho, ← hm]; rfl⟩]
  split
  · exact (e'.descriptorRead_pages l).trans hasked
  · exact hasked

/-- The header asked for is kept (R167, R173). -/
theorem Device.nvmData_header {slot : Nat} {data : List Byte} (hm : o.msg = .nvmRead slot 0 data.length) :
    tabGet [] ((d.nvmData l slot 0 data).link l).hdrs slot = data := by
  unfold Device.nvmData
  extract_lets x e e'
  have hkept : tabGet [] (e'.link l).hdrs slot = data := by
    rw [show (e'.link l).hdrs = tabInsert (e.link l).hdrs slot data from congrArg Link.hdrs (Device.setLink_get ..), tabGet_insert_self]
  rw [if_pos ⟨hs, by rw [ho, ← hm]; rfl⟩, if_pos rfl]
  split
  · rw [show ((e'.nextRecord l).link l).hdrs = (e'.link l).hdrs from (Prod.mk.inj (e'.nextRecord_replies l)).2, hkept]
  · exact hkept

/-- Bytes that do not complete the record gather (R173). -/
theorem Device.nvmData_gathers {slot off : Nat} {data : List Byte} (hm : o.msg = .nvmRead slot off data.length) (hoff : off ≠ 0)
    (hlen : ((d.link l).recBytes ++ data).length < 1024) :
    ((d.nvmData l slot off data).link l).recBytes = (d.link l).recBytes ++ data := by
  unfold Device.nvmData
  extract_lets x e e₀ e' x'
  have hgathered : (e'.link l).recBytes = x.recBytes ++ data :=
    (congrArg Link.recBytes (Device.setLink_get ..)).trans
      (congrArg (· ++ data) (Link.offTraffic_recBytes.reqDone d l))
  rw [if_pos ⟨hs, by rw [ho, ← hm]; rfl⟩, if_neg hoff, if_pos (by rw [hgathered]; exact hlen)]
  exact hgathered

end

/-- A page that no request asked for is dropped (R167). -/
theorem Device.pageData_idle {d : Device} {l : Nat} (h : (d.link l).out = none) (page : Nat) (data : List Byte) : d.pageData l page data = d :=
  if_neg fun ⟨_, _, hreq⟩ => by simp [h] at hreq

/-! ### What leaves the states of the links alone -/

/-- The device but for its channels. -/
def Device.offChans (d : Device) : Device := { d with chans := [] }

section
variable {d : Device} (ch : Nat)

theorem Device.onChan_offChans (f : Chan → Chan) : (d.onChan ch f).offChans = d.offChans := rfl

theorem Device.park_offChans (cause least : Nat) : (d.park ch cause least).offChans = d.offChans := by
  unfold Device.park
  extract_lets c
  split
  · rfl
  · split
    · split <;> rfl
    · rfl

theorem Device.rangesUp_offChans : (d.rangesUp ch).offChans = d.offChans := by
  unfold Device.rangesUp
  split <;> rfl

theorem Device.calLinkUp_offChans (r : Option (List Byte)) : (d.calLinkUp ch r).offChans = d.offChans := by
  unfold Device.calLinkUp
  split <;> rfl

theorem Device.retryPersist_offChans : (d.retryPersist ch).offChans = d.offChans := by
  unfold Device.retryPersist
  split <;> rfl

end

/-- The state of a link (R175). -/
def Device.linkState (d : Device) (l : Nat) : LinkState := (d.link l).state

theorem Device.linkState_of_body {d e : Device} (h : e.body = d.body) (l : Nat) : e.linkState l = d.linkState l :=
  (congrArg (fun x : Device => x.linkState l) h :)

theorem Device.linkState_of_offChans {d e : Device} (h : e.offChans = d.offChans) (l : Nat) : e.linkState l = d.linkState l :=
  (congrArg (fun x : Device => x.linkState l) h :)

section
variable (d : Device) (ch l : Nat)

@[simp] theorem Device.setLink_linkState (x : Link) : (d.setLink l x).linkState l = x.state := congrArg Link.state (Device.setLink_get ..)

theorem Device.onLink_linkState {f : Link → Link} (hf : ∀ x, (f x).state = x.state) (i : Nat) : (d.onLink i f).linkState l = d.linkState l := by
  by_cases h : l = i
  · subst h
    exact (Device.setLink_linkState d l _).trans (hf _)
  · exact congrArg Link.state (Device.setLink_get_ne d i l _ h)

@[simp] theorem Device.tsLinkDone_linkState (k : Nat) (lost : Bool) : (d.tsLinkDone k lost).linkState l = d.linkState l := by
  unfold Device.tsLinkDone
  split <;> rfl

@[simp] theorem Device.abortRange_linkState : (d.abortRange ch).linkState l = d.linkState l := by
  unfold Device.abortRange
  extract_lets r
  split
  · split
    · rfl
    · exact Device.linkState_of_body (Device.final?_body ..) l
  · exact Device.linkState_of_body (Device.final?_body ..) l

@[simp] theorem Device.swapActive_linkState (k : Nat) : (d.swapActive k).linkState l = d.linkState l := by
  unfold Device.swapActive
  exact (Device.abortRange_linkState ..).trans <| (Device.linkState_of_offChans (Device.onChan_offChans ..) l).trans <|
    (Device.onLink_linkState _ l (by intro _; rfl) _).trans (Device.onLink_linkState d l (by intro _; rfl) k)

@[simp] theorem Device.endPersist_linkState (done : Bool) : (d.endPersist ch done).linkState l = d.linkState l := by
  unfold Device.endPersist
  split
  · rfl
  · rw [Device.linkState_of_body (Device.final?_body ..)]
    split <;> exact Device.onLink_linkState _ l (by intro _; rfl) _

@[simp] theorem Device.calLinkLost_linkState : (d.calLinkLost ch).linkState l = d.linkState l := by
  unfold Device.calLinkLost
  extract_lets pend e e'
  have hkept : e'.linkState l = d.linkState l := Device.endPersist_linkState d ch l false
  clear_value pend
  cases pend with
  | none => exact hkept
  | some p => exact (Device.linkState_of_body (Device.final?_body ..) l).trans hkept

/-- A link that leaves its state goes where its leaving takes it (R175, R176). -/
theorem Device.dropLink_linkState (cause : Nat) (dst : LinkState) : (d.dropLink l cause dst).linkState l = dst := by
  unfold Device.dropLink
  extract_lets x wasUp c o saved _ e gone _ marked
  have hgone : gone.linkState l = dst := (Device.tsLinkDone_linkState e l l true).trans (Device.setLink_linkState d l _)
  split
  · exact hgone
  · split
    · split
      · exact (Device.swapActive_linkState marked l l).trans hgone
      · exact hgone
    · exact (Device.calLinkLost_linkState _ _ l).trans ((Device.linkState_of_offChans (Device.park_offChans ..) l).trans hgone)

end

/-! ### A request without a reply (R168, R176) -/

section
variable {d : Device} {l : Nat} {o : Outstanding} (ho : (d.link l).out = some o)
include ho

/-- It goes out again until it has gone three times. -/
theorem Device.mgmtTimeout_repeats (ha : o.attempts < 3) :
    d.mgmtTimeout l = d.setLink l { d.link l with
      out := some { o with attempts := o.attempts + 1, sentAt := d.time.frame }, tx := o.msg.words l } := by
  simp only [Device.mgmtTimeout, ho, if_pos ha]

theorem Device.mgmtTimeout_describe (ha : 3 ≤ o.attempts) (hs : (d.link l).state = .describe) : d.mgmtTimeout l = d.dropLink l 3 .search := by
  simp only [Device.mgmtTimeout, ho, if_neg (Nat.not_lt.mpr ha), if_pos hs]

theorem Device.mgmtTimeout_up (ha : 3 ≤ o.attempts) (hs : (d.link l).state = .up) (hm : o.msg.isNvm = false) : d.mgmtTimeout l = d.linkLost l := by
  simp [Device.mgmtTimeout, ho, Nat.not_lt.mpr ha, hs, hm]

end

/-- The loss of an UP link takes it to SEARCH and raises the bit of its links (R176). -/
theorem Device.linkLost_up {d : Device} {l : Nat} (hl : l < 512) (hs : (d.link l).state = .up) :
    (d.linkLost l).linkState l = .search ∧ bit (d.linkLost l).flt.pf (9 + l / 16) = true := by
  unfold Device.linkLost
  extract_lets id up e raised
  rw [if_pos (show d.linkUp l = true by simp [Device.linkUp, hs])]
  constructor
  · exact (congrArg (fun t => (tabGet {} t l).state) (Device.raiseErrAs_links ..)).trans (d.dropLink_linkState l 3 .search)
  · have hrecords := e.raiseErrAs_records (errAt (9 + l / 16) (l % 16) 8 (some (e.chanOfLink l))) e.time.now none 0 rfl rfl rfl
    have hbit : (errAt (9 + l / 16) (l % 16) 8 (some (e.chanOfLink l))).bit.val = 9 + l / 16 := Nat.mod_eq_of_lt (by omega)
    have hpf : raised.flt.pf = setBit e.flt.pf (9 + l / 16) := hbit ▸ hrecords.pf
    exact hpf ▸ bit_setBit _ _

/-! ### The ACK of ACCEPT (R175) -/

/-- The link is UP and its ready bit is due. -/
def Device.HasUp (d : Device) (l : Nat) : Prop := d.linkState l = .up ∧ bit d.ready.linksNext l = true

section
variable {d e : Device} {l : Nat}

theorem Device.HasUp.of_body (h : d.HasUp l) (hb : e.body = d.body) : e.HasUp l :=
  (congrArg (fun x : Device => x.HasUp l) hb :).mpr h

theorem Device.HasUp.of_offChans (h : d.HasUp l) (hc : e.offChans = d.offChans) : e.HasUp l :=
  (congrArg (fun x : Device => x.HasUp l) hc :).mpr h

theorem Device.HasUp.onLink (h : d.HasUp l) {f : Link → Link} (hf : ∀ x, (f x).state = x.state) (i : Nat) : (d.onLink i f).HasUp l :=
  ⟨(d.onLink_linkState l hf i).trans h.1, h.2⟩

theorem Device.linkUpNow_hasUp (d : Device) (l : Nat) : (d.linkUpNow l).HasUp l := by
  unfold Device.linkUpNow
  extract_lets x ch o otherUp ser fresh rec_ e _ marked noticed active
  have hmarked : marked.HasUp l := ⟨show e.linkState l = .up from Device.setLink_linkState d l _, bit_setBit _ _⟩
  have hnoticed : noticed.HasUp l := by
    unfold noticed
    split
    · exact hmarked.of_body (Device.notice_body ..)
    · exact hmarked
  have hactive : active.HasUp l := by
    unfold active
    split
    · exact (hnoticed.onLink (by intro _; rfl) o).of_offChans (Device.onChan_offChans ..)
    · exact hnoticed
  split
  · exact hnoticed
  · exact ((hactive.of_offChans (Device.rangesUp_offChans ch)).of_offChans (Device.calLinkUp_offChans ch _)).of_offChans
      (Device.retryPersist_offChans ch)

theorem Device.ackEvent_idle (h : (d.link l).out = none) (code : Nat) : d.ackEvent l code = d := by
  simp only [Device.ackEvent, h]

theorem Device.ackEvent_accept {o : Outstanding} (ho : (d.link l).out = some o) (hm : o.msg = .accept) (hs : (d.link l).state = .describe) :
    d.ackEvent l 0 = (d.reqDone l).linkUpNow l := by
  have hkept : ((d.reqDone l).link l).state = .describe :=
    (Link.offTraffic_state.reqDone d l).trans hs
  simp [Device.ackEvent, ho, hm, hkept]

end

/-- Settles O32: each reply and each timeout by its own case, on what the link's management traffic leaves alone (R166..R168). -/
theorem managementRepliesAdvanceTheLink : Obligations.ManagementRepliesAdvanceTheLink := by
  refine ⟨?page, ?noPage, ?header, ?record, ?accept, ?noAck, ?again, ?describe, ?up⟩
  case page =>
    intro s l p data o hheld hs hlen ho hm
    refine yieldsCells_of_exec (f := fun d => d.pageData l.val p.val data) rfl hheld ?_
    rw [Device.pageData_pages hs ho hlen hm]
    exact ⟨tabGet_insert_self .., fun k hk => tabGet_insert_ne _ _ _ _ _ hk.symm⟩
  case noPage =>
    exact fun s l p data hheld ho => yieldsCells_of_exec (f := fun d => d.pageData l.val p.val data) rfl hheld (Device.pageData_idle ho ..)
  case header =>
    exact fun s l slot data o hheld hs ho hm =>
      yieldsCells_of_exec (f := fun d => d.nvmData l.val slot.val 0 data) rfl hheld (Device.nvmData_header hs ho hm)
  case record =>
    exact fun s l slot off data o hheld hs ho hm hoff hlen =>
      yieldsCells_of_exec (f := fun d => d.nvmData l.val slot.val off data) rfl hheld (Device.nvmData_gathers hs ho hm hoff hlen)
  case accept =>
    intro s l o hheld hs ho hm
    refine yieldsCells_of_exec (f := fun d => d.ackEvent l.val 0) rfl hheld ?_
    rw [Device.ackEvent_accept ho hm hs]
    exact Device.linkUpNow_hasUp ..
  case noAck =>
    exact fun s l c hheld ho => yieldsCells_of_exec (f := fun d => d.ackEvent l.val c.toNat) rfl hheld (Device.ackEvent_idle ho _)
  case again =>
    exact fun s l o hheld ho ha => yieldsCells_of_exec (f := fun d => d.mgmtTimeout l.val) rfl hheld (Device.mgmtTimeout_repeats ho ha)
  case describe =>
    intro s l o hheld ho ha hs
    refine yieldsCells_of_exec (f := fun d => d.mgmtTimeout l.val) rfl hheld ?_
    rw [Device.mgmtTimeout_describe ho ha hs]
    exact Device.dropLink_linkState ..
  case up =>
    intro s l o hheld ho ha hs hm
    refine yieldsCells_of_exec (f := fun d => d.mgmtTimeout l.val) rfl hheld ?_
    rw [Device.mgmtTimeout_up ho ha hs hm]
    exact Device.linkLost_up l.isLt hs

end Sys2Proof.Machine
end

section
/-! PROOFS. A galley line that the fetcher has read: taken, read again or counted bad (R208, R210). -/

namespace Sys2Proof.Machine

section
variable {d : Device} {ch : Nat}

theorem Device.galleyLine_idle (hn : d.nextLine ch = none) (ok : Bool) : d.galleyLine ch ok = d := by
  simp only [Device.galleyLine, hn]

/-- A good line of the span in play joins the line buffer (R208). -/
theorem Device.galleyLine_joins {id i : Nat} {g : Segment} (hn : d.nextLine ch = some (id, g, i, false))
    (hgood : lineOk (d.storedLine g i) id i = true) :
    d.galleyLine ch true = d.onSeq ch fun x =>
      { x with retry := false, buffer := x.buffer ++ [{ index := i, at_ := d.time.now, bytes := d.storedLine g i }] } := by
  simp [Device.galleyLine, hn, hgood]

section
variable {ok isAhead : Bool} {id i : Nat} {g : Segment} (hn : d.nextLine ch = some (id, g, i, isAhead))
  (hbad : ok = false ∨ lineOk (d.storedLine g i) id i = false)
include hn hbad

/-- The first failure of a line has it read again (R210). -/
theorem Device.galleyLine_rereads (hfirst : (d.chan ch).seq.retry = false) :
    d.galleyLine ch ok = d.onSeq ch fun x => { x with retry := true } := by
  have hfails : (ok && lineOk (d.storedLine g i) id i) = false := Bool.and_eq_false_iff.mpr hbad
  simp [Device.galleyLine, hn, hfails, hfirst]

/-- The second failure counts in the segment; of the rest only the channel changes, and its next line is read afresh (R210). -/
theorem Device.galleyLine_counts (hagain : (d.chan ch).seq.retry = true) :
    ∃ f : SeqCtx → SeqCtx, (∀ x, (f x).retry = false) ∧
      d.galleyLine ch ok = (d.setSeg id (some { g with bad := sat32 (g.bad + 1) })).onSeq ch f := by
  have hfails : (ok && lineOk (d.storedLine g i) id i) = false := Bool.and_eq_false_iff.mpr hbad
  simp only [Device.galleyLine, hn, hfails, hagain, Bool.not_true, Bool.and_false, Bool.false_eq_true, if_false]
  refine ⟨_, fun x => ?_, rfl⟩
  cases isAhead <;> rfl

end

end

/-- Settles O29: a line by what its check makes of it, and a failed one by whether it has been read again (R210). -/
theorem galleyLinesAreCheckedAndRetried : Obligations.GalleyLinesAreCheckedAndRetried := by
  refine ⟨?joins, ?rereads, ?counts, ?idle⟩
  case joins =>
    exact fun s ch id g i hheld hn hgood =>
      yieldsCells_of_exec (f := fun d => d.galleyLine ch.val true) rfl hheld (Device.galleyLine_joins hn hgood)
  case rereads =>
    exact fun s ch ok id g i isAhead hheld hn hbad hfirst =>
      yieldsCells_of_exec (f := fun d => d.galleyLine ch.val ok) rfl hheld (Device.galleyLine_rereads hn hbad hfirst)
  case counts =>
    intro s ch ok id g i isAhead hheld hn hbad hagain
    refine yieldsCells_of_exec (f := fun d => d.galleyLine ch.val ok) rfl hheld ?_
    obtain ⟨f, hf, hcounted⟩ := Device.galleyLine_counts hn hbad hagain
    rw [hcounted]
    refine ⟨Device.setSeg_get .., ?_, fun k hk => Device.setChan_get_ne _ _ _ _ hk⟩
    rw [Device.onSeq, Device.onChan_get]
    exact hf _
  case idle =>
    exact fun s ch ok hheld hn =>
      yieldsCells_of_exec (f := fun d => d.galleyLine ch.val ok) rfl hheld (Device.galleyLine_idle hn ok)

end Sys2Proof.Machine
end

section
/-! PROOFS. FM_LOAD, FM_START, FM_JUMP, FM_RELEASE and FM_STREAM_BIND (R211, R220, R221, R238, R240, R244, R394..R396). -/

namespace Sys2Proof.Machine

section
variable {c : Cmd} {d : Device}

/-! ### FM_LOAD and FM_START (R220, R244, R395) -/

/-- FM_LOAD at offset 0 that is accepted begins the image anew (R220). -/
theorem runFmLoad_begins (ho : c.u32 0 = 0) (hg : (runFmLoad c d).1.good = true) : runFmLoad c d =
    ok (d.onSeq c.idx fun x => { x with state := .loaded, image := c.par.drop 8, total := c.u32 4 }) (le32 (c.par.drop 8).length) := by
  unfold runFmLoad at hg ⊢
  simp only [if_pos ho] at hg ⊢
  exact checked_good (by simp [stLOCKED, stOK, stJUMP_DEFERRED]) hg

/-- FM_LOAD at another offset that is accepted appends to the image (R220, R395). -/
theorem runFmLoad_appends (ho : c.u32 0 ≠ 0) (hg : (runFmLoad c d).1.good = true) : runFmLoad c d =
    ok (d.onSeq c.idx fun x => { x with state := .loaded, image := x.image ++ c.par.drop 8, total := c.u32 4 })
      (le32 ((d.chan c.idx).seq.image ++ c.par.drop 8).length) := by
  unfold runFmLoad at hg ⊢
  simp only [if_neg ho] at hg ⊢
  exact checked_good (by simp [stLOCKED, stOK, stJUMP_DEFERRED]) hg

/-- FM_START that is accepted puts down frame a and its command (R244). -/
theorem runFmStart_accepted (ha : c.atNow = false) (hg : (runFmStart c d).1.good = true) : runFmStart c d =
    (.later, d.onSeq c.idx fun q => { q with starting := some (d.time.frame + 1, d.frameOfTick (d.nextBoundary c), c.env) }) := by
  rw [← Device.boundary_ahead ha]
  exact checked_good (by simp [stNOT_READY, stBUSY, stOK, stJUMP_DEFERRED]) hg

/-! ### FM_JUMP (R238, R240) -/

/-- The request that FM_JUMP to an address puts down (R238). -/
def Device.jumpAsked (d : Device) (c : Cmd) (a : Nat) : Jump :=
  { target := a, staged := d.stagedWord c.idx a, latch := d.latchFrame c.stamp, env := some c.env, answered := false }

/-- What an accepted FM_JUMP makes of its request: answered where its boundary is known, else recorded and answered later (R240). -/
def Device.jumpPlanned (d : Device) (c : Cmd) (j : Jump) : Res :=
  match d.jumpPlan c.idx j with
  | some (b, next) =>
    (.done (if next then stOK else stJUMP_DEFERRED) (le64 (d.tickOfFrame b)), d.onSeq c.idx fun q => { q with jump := some { j with answered := true } })
  | none => (.later, d.onSeq c.idx fun q => { q with jump := some j })

/-- FM_JUMP that is accepted plans the request to its target (R238, R240). -/
theorem runFmJump_accepted (ha : c.atNow = false) (hg : (runFmJump c d).1.good = true) : runFmJump c d =
    d.jumpPlanned c (d.jumpAsked c (if bit (c.u32 0) 16 = true then imageTarget (d.chan c.idx).seq.image (bits (c.u32 0) 15 0)
      else bits (c.u32 0) 15 0)) := by
  unfold runFmJump at hg ⊢
  simp only [ha, Bool.false_eq_true, if_false] at hg ⊢
  exact checked_good (by simp [stNOT_READY, stBUSY, stOK, stJUMP_DEFERRED]) hg

/-- FM_JUMP by address whose boundary is not known yet. -/
theorem runFmJump_byAddress_unplanned (ha : c.atNow = false) (hx : bit (c.u32 0) 16 = false)
    (hplan : d.jumpPlan c.idx (d.jumpAsked c (bits (c.u32 0) 15 0)) = none) (hg : (runFmJump c d).1.good = true) :
    runFmJump c d = (.later, d.onSeq c.idx fun q => { q with jump := some (d.jumpAsked c (bits (c.u32 0) 15 0)) }) := by
  rw [runFmJump_accepted ha hg, hx, if_neg Bool.false_ne_true, Device.jumpPlanned, hplan]

/-- FM_JUMP by target index whose boundary is known. -/
theorem runFmJump_byIndex_planned {b : Nat} {next : Bool} (ha : c.atNow = false) (hx : bit (c.u32 0) 16 = true)
    (hplan : d.jumpPlan c.idx (d.jumpAsked c (imageTarget (d.chan c.idx).seq.image (bits (c.u32 0) 15 0))) = some (b, next))
    (hg : (runFmJump c d).1.good = true) :
    runFmJump c d = (.done (if next then stOK else stJUMP_DEFERRED) (le64 (d.tickOfFrame b)), d.onSeq c.idx fun q =>
      { q with jump := some { d.jumpAsked c (imageTarget (d.chan c.idx).seq.image (bits (c.u32 0) 15 0)) with answered := true } }) := by
  rw [runFmJump_accepted ha hg, if_pos hx, Device.jumpPlanned, hplan]

/-! ### FM_RELEASE (R221) -/

/-- FM_RELEASE that is accepted releases a forme that is locked, and only that (R221). -/
theorem runFmRelease_accepted (hg : (runFmRelease c d).1.good = true) :
    runFmRelease c d = if (d.chan c.idx).lockedForme then ok (d.releaseForme c.idx) [] else ok d [] :=
  checked_good (by simp [stBUSY, stOK, stJUMP_DEFERRED]) hg

/-! ### FM_STREAM_BIND (R211) -/

/-- The checks of the ring that FM_STREAM_BIND names. -/
def Device.streamRingChecks (d : Device) (c : Cmd) : List Check :=
  if c.u32 4 = 0xFFFFF then []
  else [bad (d.ring? (c.u32 4)).isNone 4, no (match d.ring? (c.u32 4) with | some r => r.fn ≠ c.env.fn | none => false) stBAD_TARGET,
        bad (match d.ring? (c.u32 4) with | some r => r.kind ≠ 5 | none => false) 4,
        no (match d.carried (c.u32 4) with | some s => s ≠ c.u16 0 | none => false) stBUSY]

@[simp] theorem Device.streamRingChecks_sane (d : Device) (c : Cmd) : saneChecks (d.streamRingChecks c) = true := by
  unfold Device.streamRingChecks
  split
  · rfl
  · simp [stBAD_TARGET, stBUSY, stOK, stJUMP_DEFERRED]

/-- FM_STREAM_BIND that is accepted of a segment that is defined (R211). -/
theorem runFmStreamBind_accepted {g : Segment} (hs : d.seg? (c.u16 0) = some g) (hg : (runFmStreamBind c d).1.good = true) :
    runFmStreamBind c d = ok (d.setSeg (c.u16 0) (some
      (if c.u32 4 = 0xFFFFF then { g with chan := none, ring := none, taken := [], inRing := [] }
       else { g with chan := some c.idx, ring := some (c.u32 4), taken := [], inRing := [],
                     readPos := match d.ring? (c.u32 4) with | some r => r.tailA | none => 0 }))) [] := by
  have hsane : saneChecks (fmStreamBindStatic c ++ d.segChecks c (c.u16 0) 0 ++ [bad (g.kind ≠ 2) 0, no (g.state == 2) stLOCKED] ++
      d.streamRingChecks c) = true := by simp [stLOCKED, stOK, stJUMP_DEFERRED]
  unfold runFmStreamBind at hg ⊢
  simp only [hs] at hg ⊢
  exact checked_good hsane hg

/-- The unused ring code unbinds the segment (R211). -/
theorem runFmStreamBind_unbinds {g : Segment} (hs : d.seg? (c.u16 0) = some g) (hq : c.u32 4 = 0xFFFFF)
    (hg : (runFmStreamBind c d).1.good = true) : runFmStreamBind c d =
      ok (d.setSeg (c.u16 0) (some { g with chan := none, ring := none, taken := [], inRing := [] })) [] := by
  rw [runFmStreamBind_accepted hs hg, if_pos hq]

/-- A ring is bound, and read on from where its consumer stands (R211). -/
theorem runFmStreamBind_binds {g : Segment} {x : Ring} (hs : d.seg? (c.u16 0) = some g) (hq : c.u32 4 ≠ 0xFFFFF)
    (hr : d.ring? (c.u32 4) = some x) (hg : (runFmStreamBind c d).1.good = true) : runFmStreamBind c d =
      ok (d.setSeg (c.u16 0) (some
        { g with chan := some c.idx, ring := some (c.u32 4), taken := [], inRing := [], readPos := x.tailA })) [] := by
  rw [runFmStreamBind_accepted hs hg, if_neg hq, hr]

end

/-! ### What the release of a forme leaves of its context and of the program space (R221) -/

/-- Unlocking a forme's segments takes no program space. -/
@[simp] theorem Device.unlockForme_cacheUsed (d : Device) (ch : Nat) : (d.unlockForme ch).seq.cacheUsed = d.seq.cacheUsed := by
  unfold Device.unlockForme
  refine List.foldlRecOn _ _ (motive := fun e : Device => e.seq.cacheUsed = d.seq.cacheUsed) rfl fun e he s _ => ?_
  split
  · exact he
  · exact he

@[simp] theorem Device.onSeq_get (d : Device) (ch : Nat) (f : SeqCtx → SeqCtx) : ((d.onSeq ch f).chan ch).seq = f (d.chan ch).seq := by
  rw [Device.onSeq, Device.onChan_get]

/-- A released context is LOADED and holds neither locks nor pre-staged lines. -/
theorem Device.releaseForme_context (d : Device) (ch : Nat) : ((d.releaseForme ch).chan ch).seq.state = .loaded ∧
    ((d.releaseForme ch).chan ch).seq.locks = [] ∧ ((d.releaseForme ch).chan ch).seq.prestaged = [] := by
  simp [Device.releaseForme]

/-- Program space that the forme held is free again. -/
theorem Device.releaseForme_cacheUsed (d : Device) (ch : Nat) : (d.releaseForme ch).seq.cacheUsed =
    d.seq.cacheUsed - (if (d.chan ch).seq.cache then imageW (d.chan ch).seq.image else 0) := by
  rw [← Device.unlockForme_cacheUsed d ch]
  rfl

/-- Settles O10: each accepted form is its opcode's function with its checks passed, FM_JUMP by whether its boundary is known; the release
by what it leaves of the context and of the program space. -/
theorem sequencerCommandsComplete : Obligations.SequencerCommandsComplete := by
  refine ⟨?loadBegins, ?loadAppends, ?start, ?jumpUnplanned, ?jumpPlanned, ?releaseUnlocked, ?releaseLocked, ?unbinds, ?binds, ?released⟩
  case loadBegins => exact completes_of_run (fun _ _ => rfl) fun c d _ ho hg => runFmLoad_begins ho hg
  case loadAppends => exact completes_of_run (fun _ _ => rfl) fun c d _ ho hg => runFmLoad_appends ho hg
  case start => exact completes_of_run (fun _ _ => rfl) fun c d ha _ hg => runFmStart_accepted ha hg
  case jumpUnplanned =>
    exact completes_of_run (fun _ _ => rfl) fun c d ha ⟨hx, hplan⟩ hg => runFmJump_byAddress_unplanned ha hx hplan hg
  case jumpPlanned =>
    exact fun b next => completes_of_run (fun _ _ => rfl) fun c d ha ⟨hx, hplan⟩ hg => runFmJump_byIndex_planned ha hx hplan hg
  case releaseUnlocked =>
    exact completes_of_run (fun _ _ => rfl) fun c d _ hl hg =>
      (runFmRelease_accepted hg).trans (if_neg (by simp [hl]))
  case releaseLocked =>
    exact completes_of_run (fun _ _ => rfl) fun c d _ hl hg => (runFmRelease_accepted hg).trans (if_pos hl)
  case unbinds =>
    exact fun g => completes_of_run (fun _ _ => rfl) fun c d _ ⟨hs, hq⟩ hg => runFmStreamBind_unbinds hs hq hg
  case binds =>
    exact fun g x => completes_of_run (fun _ _ => rfl) fun c d _ ⟨hs, hq, hr⟩ hg => runFmStreamBind_binds hs hq hr hg
  case released =>
    intro d ch
    obtain ⟨hstate, hlocks, hprestaged⟩ := d.releaseForme_context ch
    exact ⟨hstate, hlocks, hprestaged, d.releaseForme_cacheUsed ch⟩

end Sys2Proof.Machine
end

section
/-! PROOFS. Timing-set, trigger, comparator and auxiliary-DAC commands (R255, R264, R265, R268, R274, R280, R406, R409, R411). -/

namespace Sys2Proof.Machine

section
variable {c : Cmd} {d : Device}

/-- The links that TS_WRITE sends the entry of its set to: the UP links on which it changes (R182, R255). -/
def Device.tsWriteLinks (d : Device) (c : Cmd) : List Nat :=
  (d.links.map (·.1)).filter fun l => d.linkUp l && !(d.changedEntries l [c.u8 0] fun _ => some (d.tsStaged c)).isEmpty

/-- The TS_WRITE in progress that a command puts down (R255). -/
def Device.tsWriteStarted (d : Device) (c : Cmd) : TsWrite :=
  { set := c.u8 0, staged := d.tsStaged c, links := d.tsWriteLinks c, affected := d.tsWriteLinks c, env := c.env }

/-- TS_WRITE that is accepted keeps the staged copy and sends its entries (R255). -/
theorem runTsWrite_accepted (hg : (runTsWrite c d).1.good = true) : runTsWrite c d =
    (.interim stACCEPTED [], (d.tsWriteLinks c).foldl
      (fun e l => e.stageOnLink l (e.changedEntries l [c.u8 0] fun _ => some (d.tsStaged c)))
      { d with edge := { d.edge with write := some (d.tsWriteStarted c) } }) :=
  checked_good (by
    simp only [saneChecks_append, tsWriteStatic_sane, saneChecks_cons, Bool.true_and, Bool.and_eq_true]
    exact ⟨by split <;> simp, by split <;> simp, by split <;> simp, by simp [stBUSY, stOK, stJUMP_DEFERRED], rfl⟩) hg

/-- TRIG_CONFIG with CLEAR asks for the pin's release from its mask (R264). -/
theorem runTrigConfig_clear (ho : c.opf = 1) : runTrigConfig c d =
    ok (d.setPin c.idx { d.pin c.idx with stuck := false, unmaskPend := true }) [] := by
  simp [runTrigConfig, trigConfigStatic, ho, checked, firstFail, badAny, bad]

/-- TRIG_CONFIG with QUERY reports the pin's counters and clears that of chatter (R265). -/
theorem runTrigConfig_query (ho : c.opf = 2) : runTrigConfig c d =
    ok (d.setPin c.idx { d.pin c.idx with chatterQ := 0 })
      (le32 (d.pin c.idx).word ++ le32 (d.pin c.idx).excess ++ le32 (d.pin c.idx).lost) := by
  simp [runTrigConfig, trigConfigStatic, ho, checked, firstFail, badAny, bad]

/-- What MON_STATUS reports of a comparator (R409). -/
def Mon.report (x : Mon) : List Byte := le32 x.word ++ zeros 4 ++ le64 x.first ++ le64 x.last

/-- MON_STATUS without CLEAR clears the count of trips alone (R280). -/
theorem runMonStatus_read (ho : c.opf = 0) : runMonStatus c d =
    ok (d.setMon c.idx { d.mon c.idx with trips := 0 }) (d.mon c.idx).report := by
  simp [runMonStatus, Mon.report, ho]

/-- MON_STATUS with CLEAR reports first; the latch follows at the boundary (R274). -/
theorem runMonStatus_clear (ho : c.opf = 1) : runMonStatus c d =
    ok (d.setMon c.idx { d.mon c.idx with
      trips := 0, rise := false, fall := false, blanked := false, prot := false, first := 0, last := 0, clearPend := true })
      (d.mon c.idx).report := by
  simp [runMonStatus, Mon.report, ho]

/-- AXD_WRITE that is accepted stages its code on every DAC of its mask (R268, R411). -/
theorem runAxdWrite_accepted (hg : (runAxdWrite c d).1.good = true) : runAxdWrite c d =
    ok ((maskBits (c.u16 0) 16).foldl (fun e a => e.setAxd a { e.axd a with
      staged := some (c.u32 4, c.frame + 2), group := if bit (c.u8 2) 0 then c.u8 3 else (e.axd a).group
      bind := if bit (c.u8 2) 1 then c.u16 8 else (e.axd a).bind }) d) [] :=
  checked_good (by simp [stBAD_TARGET, stOK, stJUMP_DEFERRED]) hg

/-- AXD_STROBE that is accepted strobes every DAC of its mask in the frame of its boundary (R268; log 10). -/
theorem runAxdStrobe_accepted (hg : (runAxdStrobe c d).1.good = true) : runAxdStrobe c d =
    okBoundary ((maskBits (c.u32 0) 16).foldl (fun e a => e.setAxd a { e.axd a with
      strobes := (e.axd a).strobes ++ [e.frameOfTick (d.leadBoundary c 2)] }) d) (d.leadBoundary c 2) :=
  checked_good (by simp [stBAD_TARGET, stOK, stJUMP_DEFERRED]) hg

end

/-- Settles O15: TS_WRITE and the commands of the auxiliary DACs with their checks passed; the forms of TRIG_CONFIG and MON_STATUS, which
have none. -/
theorem edgeCommandsComplete : Obligations.EdgeCommandsComplete := by
  refine ⟨?tsWrite, ?trigClear, ?trigQuery, ?monStatus, ?monClear, ?axdWrite, ?axdStrobe⟩
  case tsWrite => exact fun ls => completes_of_run (fun _ _ => rfl) fun c d _ hls hg => hls ▸ runTsWrite_accepted hg
  case trigClear => exact completes_of_run (fun _ _ => rfl) fun c d _ ho _ => runTrigConfig_clear ho
  case trigQuery => exact completes_of_run (fun _ _ => rfl) fun c d _ ho _ => runTrigConfig_query ho
  case monStatus => exact completes_of_run (fun _ _ => rfl) fun c d _ ho _ => runMonStatus_read ho
  case monClear => exact completes_of_run (fun _ _ => rfl) fun c d _ ho _ => runMonStatus_clear ho
  case axdWrite => exact completes_of_run (fun _ _ => rfl) fun c d _ _ hg => runAxdWrite_accepted hg
  case axdStrobe => exact completes_of_run (fun _ _ => rfl) fun c d _ _ hg => runAxdStrobe_accepted hg

end Sys2Proof.Machine
end

section
/-! PROOFS. Trigger inputs: capture, chatter, the resample at a window's end and the stuck time (R260..R265). -/

namespace Sys2Proof.Machine

/-! ### A pin and the edge that it captures (R261..R263) -/

/-- An edge to a level raises the pin's event: its active edge, enabled, the first of its frame (R263; log 29). -/
def MkPin.raises (p : MkPin) (level : Bool) : Bool := p.evEn && p.isActive level && !p.fired

/-- The pin with an edge to a level captured at an instant (R261..R263). -/
def MkPin.captured (p : MkPin) (t : Nat) (level : Bool) : MkPin :=
  { p with
    winEnd := some (t + 64), capLevel := level, fired := p.fired || p.raises level
    excess := if (p.evEn && p.isActive level) && p.fired then sat32 (p.excess + 1) else p.excess
    chatter := if p.capEn then 0 else p.chatter, folio := if p.capEn then (p.folio + 1) % 256 else p.folio }

/-- The pin whose input has come to a level (R261, R264). -/
def MkPin.atLevel (p : MkPin) (up : Bool) : MkPin :=
  { p with level := up, activeFrames := if up != p.actLow then p.activeFrames else 0 }

@[simp] theorem Device.at_pin (d : Device) (t k : Nat) : (d.at t).pin k = d.pin k := rfl

section
variable (d : Device) (m t : Nat) (level synthetic : Bool)

/-- Outside the capture records a captured edge changes its pin and raises its event, and nothing else (R261..R263). -/
theorem Device.capture_frame {α : Type} (g : Device → α) (hq : ∀ (e : Device) (q : QueueUnit), g { e with queue := q } = g e) :
    g (d.capture m t level synthetic) =
      g (if (d.pin m).raises level then (d.setPin m ((d.pin m).captured t level)).event m t else d.setPin m ((d.pin m).captured t level)) := by
  unfold Device.capture
  extract_lets p act fires rec_ pinned _ recorded
  by_cases hfires : fires = true
  · rw [if_pos hfires, if_pos (show p.raises level = true from hfires)]
    unfold recorded
    split
    · exact hq (pinned.event m t) _
    · rfl
  · rw [if_neg hfires, if_neg (show ¬p.raises level = true from hfires)]
    unfold recorded
    split
    · exact hq pinned _
    · rfl

@[simp] theorem Device.capture_pin : (d.capture m t level synthetic).pin m = (d.pin m).captured t level := by
  rw [d.capture_frame m t level synthetic (·.pin m) fun _ _ => rfl]
  split <;> exact Device.setPin_get ..

theorem Device.capture_pin_ne {k : Nat} (hk : k ≠ m) : (d.capture m t level synthetic).pin k = d.pin k := by
  rw [d.capture_frame m t level synthetic (·.pin k) fun _ _ => rfl]
  split <;> exact Device.setPin_get_ne _ _ _ _ hk

@[simp] theorem Device.capture_chans : (d.capture m t level synthetic).chans = d.chans := by
  rw [d.capture_frame m t level synthetic (·.chans) fun _ _ => rfl]
  split <;> rfl

theorem Device.capture_events : (d.capture m t level synthetic).events =
    if (d.pin m).raises level then (d.event m t).events else d.events := by
  rw [d.capture_frame m t level synthetic (·.events) fun _ _ => rfl]
  split <;> rfl

/-- A pin that captures adds one record (R262). -/
theorem Device.capture_trigRecs : (d.capture m t level synthetic).queue.trigRecs.length =
    d.queue.trigRecs.length + if (d.pin m).capEn then 1 else 0 := by
  unfold Device.capture
  extract_lets p act fires rec_ pinned _ recorded
  rw [show (if fires then recorded.event m t else recorded).queue = recorded.queue by split <;> rfl]
  unfold recorded
  split
  · exact List.length_append ..
  · rfl

end

section
variable {d : Device} {m : Nat}

/-! ### TRIGGER_EDGE (R261) -/

/-- An edge outside a chatter window is captured. -/
theorem Device.triggerEdge_captured {t : Nat} (hr : routeMode (d.pin m).route = 0) (hm : (d.pin m).masked = false)
    (hw : ∀ w, (d.pin m).winEnd = some w → w ≤ t) (up : Bool) :
    d.triggerEdge m up t = ((d.at t).setPin m ((d.pin m).atLevel up)).capture m t up false := by
  cases h : (d.pin m).winEnd with
  | none => simp [Device.triggerEdge, MkPin.atLevel, hr, hm, h]
  | some w => simp [Device.triggerEdge, MkPin.atLevel, hr, hm, h, Nat.not_lt.mpr (hw w h)]

/-- An edge inside the window counts as chatter. -/
theorem Device.triggerEdge_chatter {t w : Nat} (hr : routeMode (d.pin m).route = 0) (hm : (d.pin m).masked = false)
    (hw : (d.pin m).winEnd = some w) (ht : t < w) (up : Bool) :
    d.triggerEdge m up t = ((d.at t).setPin m ((d.pin m).atLevel up)).setPin m { (d.pin m).atLevel up with
      chatter := sat16 ((d.pin m).chatter + 1), chatterQ := sat16 ((d.pin m).chatterQ + 1) } := by
  simp [Device.triggerEdge, MkPin.atLevel, hr, hm, hw, ht]

theorem Device.triggerEdge_output (hr : routeMode (d.pin m).route ≠ 0) (up : Bool) (t : Nat) : d.triggerEdge m up t = d.at t := if_pos hr

/-- A masked input follows its level alone. -/
theorem Device.triggerEdge_masked (hr : routeMode (d.pin m).route = 0) (hm : (d.pin m).masked = true) (up : Bool) (t : Nat) :
    d.triggerEdge m up t = (d.at t).setPin m ((d.pin m).atLevel up) := by
  simp [Device.triggerEdge, MkPin.atLevel, hr, hm]

/-! ### TRIGGER_RESAMPLE (R261) -/

/-- A pin at its captured level ends its window. -/
theorem Device.triggerResample_quiet {w : Nat} (hw : (d.pin m).winEnd = some w) (hl : (d.pin m).level = (d.pin m).capLevel) (t : Nat) :
    d.triggerResample m t = (d.at t).setPin m { d.pin m with winEnd := none } := by
  simp [Device.triggerResample, hw, hl]

/-- Another level is a synthetic edge, stamped at the window's end. -/
theorem Device.triggerResample_synthetic {w : Nat} (hr : routeMode (d.pin m).route = 0) (hm : (d.pin m).masked = false)
    (hw : (d.pin m).winEnd = some w) (hl : (d.pin m).level ≠ (d.pin m).capLevel) (t : Nat) :
    d.triggerResample m t = ((d.at t).setPin m { d.pin m with winEnd := none }).capture m w (d.pin m).level true := by
  simp [Device.triggerResample, hr, hm, hw, hl]

/-! ### TRIGGER_STUCK (R264) -/

theorem Device.pin_of_body {d e : Device} (h : e.body = d.body) (k : Nat) : e.pin k = d.pin k := (congrArg (fun x : Device => x.pin k) h :)
theorem Device.chans_of_body {d e : Device} (h : e.body = d.body) : e.chans = d.chans := (congrArg Device.chans h :)

/-- An input active beyond its stuck time is masked, and its owner has a notice of it. -/
theorem Device.triggerStuck_due (hr : routeMode (d.pin m).route = 0) (hm : (d.pin m).masked = false) (h0 : 0 < (d.pin m).stuckTime)
    (hs : (d.pin m).stuckTime < (d.pin m).activeFrames) :
    (d.triggerStuck m).body = (d.setPin m { d.pin m with stuck := true, masked := true, winEnd := none }).body := by
  simp [Device.triggerStuck, hr, hm, h0, hs]

theorem Device.triggerStuck_idle (h : (d.pin m).activeFrames ≤ (d.pin m).stuckTime) : d.triggerStuck m = d := by
  simp [Device.triggerStuck, Nat.not_lt.mpr h]

end

/-- Settles O33: an edge, a resample and the stuck time by the cases of the pin; what is captured by the laws of `Device.capture`. -/
theorem triggersCaptureEdges : Obligations.TriggersCaptureEdges := by
  refine ⟨?captured, ?chatter, ?ignored, ?quiet, ?synthetic, ?stuck, ?notStuck⟩
  case captured =>
    intro s m up t hr hm hw
    refine yields_of_exec (f := fun d => d.triggerEdge m.val up t) rfl ?_
    rw [Device.triggerEdge_captured hr hm hw up]
    refine ⟨?level, ?capLevel, ?winEnd, ?others, Device.capture_chans .., ?events, ?records⟩
    case level => rw [Device.capture_pin, Device.setPin_get]; rfl
    case capLevel => rw [Device.capture_pin]; rfl
    case winEnd => rw [Device.capture_pin]; rfl
    case others => exact fun k hk => (Device.capture_pin_ne _ _ _ _ _ hk).trans (Device.setPin_get_ne _ _ _ _ hk)
    case events => rw [Device.capture_events, Device.setPin_get]; rfl
    case records => rw [Device.capture_trigRecs, Device.setPin_get]; rfl
  case chatter =>
    intro s m up t w hr hm hw ht
    refine yields_of_exec (f := fun d => d.triggerEdge m.val up t) rfl ?_
    rw [Device.triggerEdge_chatter hr hm hw ht up]
    simp [MkPin.atLevel, hw]
  case ignored =>
    intro s m up t h
    refine yields_of_exec (f := fun d => d.triggerEdge m.val up t) rfl ?_
    by_cases hr : routeMode (s.dev.pin m.val).route = 0
    · rw [Device.triggerEdge_masked hr (h.resolve_left (not_not_intro hr))]
      simp [MkPin.atLevel]
    · rw [Device.triggerEdge_output hr]
      exact ⟨rfl, rfl, rfl⟩
  case quiet =>
    exact fun s m t w hw hl => yields_of_exec (f := fun d => d.triggerResample m.val t) rfl (Device.triggerResample_quiet hw hl t)
  case synthetic =>
    intro s m t w hr hm hw hl
    refine yields_of_exec (f := fun d => d.triggerResample m.val t) rfl ?_
    rw [Device.triggerResample_synthetic hr hm hw hl t]
    rw [Device.capture_pin]
    exact ⟨rfl, rfl⟩
  case stuck =>
    intro s m hr hm h0 hs
    refine yields_of_exec (f := fun d => d.triggerStuck m.val) rfl ?_
    have hbody := Device.triggerStuck_due hr hm h0 hs
    exact ⟨(Device.pin_of_body hbody _).trans (Device.setPin_get ..), (Device.chans_of_body hbody).trans rfl,
      (Device.events_of_body hbody).trans rfl⟩
  case notStuck => exact fun s m h => yields_of_exec (f := fun d => d.triggerStuck m.val) rfl (Device.triggerStuck_idle h)

end Sys2Proof.Machine
end

section
/-! PROOFS. Monitor comparators: trips, releases, blanking windows, the clear at a period and UNSETTLED (R272..R279). -/

namespace Sys2Proof.Machine

/-! ### Hard parks of a list of channels (R89, R276) -/

section
variable {d : Device} {ch cause least : Nat}

theorem Device.park_chan_ne {k : Nat} (hk : k ≠ ch) (cause least : Nat) : (d.park ch cause least).chan k = d.chan k := by
  unfold Device.park
  extract_lets c
  split
  · rfl
  · split
    · split
      · rfl
      · exact Device.setChan_get_ne _ _ _ _ hk
    · exact Device.setChan_get_ne _ _ _ _ hk

theorem Device.parkAll_cons (d : Device) (k : Nat) (l : List Nat) (cause least : Nat) :
    d.parkAll (k :: l) cause least = (d.park k cause least).parkAll l cause least := rfl

theorem Device.parkAll_offChans (d : Device) (l : List Nat) (cause least : Nat) : (d.parkAll l cause least).offChans = d.offChans :=
  List.foldlRecOn _ _ (motive := fun e : Device => e.offChans = d.offChans) rfl fun e he k _ => (e.park_offChans k cause least).trans he

/-- A cause put down stands against the same one named again. -/
theorem Device.parkAll_keeps (h : (d.chan ch).parkPend = some (cause, least)) (l : List Nat) :
    ((d.parkAll l cause least).chan ch).parkPend = some (cause, least) :=
  List.foldlRecOn _ _ (motive := fun e : Device => (e.chan ch).parkPend = some (cause, least)) h fun e he k _ => by
    by_cases hk : ch = k
    · subst hk
      rwa [Device.park_later he (Nat.le_refl _)]
    · rwa [Device.park_chan_ne hk]

/-- A channel of the list that is not parked, with no cause yet, takes this one. -/
theorem Device.parkAll_parks {l : List Nat} (hl : ch ∈ l) (ha : (d.chan ch).arm ≠ .parked) (hp : (d.chan ch).parkPend = none) :
    ((d.parkAll l cause least).chan ch).parkPend = some (cause, least) := by
  induction l generalizing d with
  | nil => cases hl
  | cons k l ih =>
    rw [Device.parkAll_cons]
    by_cases hk : ch = k
    · subst hk
      refine Device.parkAll_keeps ?_ l
      rw [Device.park_first ha hp, Device.setChan_get]
    · have hchan := Device.park_chan_ne (d := d) hk cause least
      exact ih ((List.mem_cons.mp hl).resolve_left hk) (by rwa [hchan]) (by rwa [hchan])

end

/-! ### An entry into the tripped state (R275..R277) -/

/-- A wake asks for its mode change and takes a free value, and touches nothing else (R29; log 22). -/
theorem Device.wake_eq (d : Device) (t : Nat) : ∃ mode ctr, d.wake t = { d with mode := mode, freeCtr := ctr } := by
  unfold Device.wake
  split
  · exact ⟨_, _, rfl⟩
  · exact ⟨_, _, rfl⟩

/-- The channels that a trip parks: those of the protection set that are in use, where protection is enabled (R276). -/
def Device.monTargets (d : Device) (m : Nat) : List Nat :=
  if (d.mon m).protEn then (maskBits (d.mon m).protSet 512).filter fun ch => (d.chan ch).inUse else []

/-- The comparator that has tripped at an instant, with channels of its own to park or not (R275, R276). -/
def Mon.entered (x : Mon) (t : Nat) (parks : Bool) : Mon :=
  { x with
    live := true, latch := x.latch || !x.edgeMode, rise := x.rise || x.edgeMode, unsettled := false
    trips := sat16 (x.trips + 1), first := if x.first = 0 && x.last = 0 then t else x.first, last := t
    prot := x.prot || parks, fired := x.fired || x.evEn }

/-- The device of a trip with its comparator and its channels changed, before its event, notice and wake. -/
def Device.monTripped (d : Device) (m t : Nat) : Device :=
  (d.setMon m ((d.mon m).entered t !(d.monTargets m).isEmpty)).parkAll (d.monTargets m) 2 (t + 320)

section
variable (d : Device) (m t : Nat)

/-- Where the replies, the mode and the free values have no part, a trip is its changes and its event. -/
theorem Device.monEnter_frame {α : Type} (g : Device → α) (hbody : ∀ d e : Device, e.body = d.body → g e = g d)
    (hmode : ∀ (d : Device) (x : ModeUnit) (n : Nat), g { d with mode := x, freeCtr := n } = g d) :
    g (d.monEnter m t) =
      g (if (d.mon m).evEn && !(d.mon m).fired then (d.monTripped m t).event (64 + m) t else d.monTripped m t) := by
  have hwake (e : Device) : g (e.wake t) = g e := by
    obtain ⟨mode, ctr, heq⟩ := e.wake_eq t
    rw [heq, hmode]
  unfold Device.monEnter
  extract_lets x targets x' parked raised noticed
  have hnoticed : g noticed = g raised := by
    unfold noticed
    split
    · exact hbody _ _ (Device.notice_body ..)
    · rfl
  split
  · exact (hwake noticed).trans hnoticed
  · exact hnoticed

theorem Device.monTripped_offChans :
    (d.monTripped m t).offChans = (d.setMon m ((d.mon m).entered t !(d.monTargets m).isEmpty)).offChans :=
  Device.parkAll_offChans ..

theorem Device.monEnter_mon (k : Nat) : (d.monEnter m t).mon k = (d.setMon m ((d.mon m).entered t !(d.monTargets m).isEmpty)).mon k := by
  rw [d.monEnter_frame m t (·.mon k) (fun _ _ h => (congrArg (fun x : Device => x.mon k) h :)) fun _ _ _ => rfl]
  have htripped := (congrArg (fun x : Device => x.mon k) (d.monTripped_offChans m t) :)
  split
  · exact htripped
  · exact htripped

theorem Device.monEnter_events : (d.monEnter m t).events =
    if (d.mon m).evEn && !(d.mon m).fired then (d.event (64 + m) t).events else d.events := by
  rw [d.monEnter_frame m t (·.events) (fun _ _ h => Device.events_of_body h) fun _ _ _ => rfl]
  split
  · exact (congrArg (fun x : Device => (x.event (64 + m) t).events) (d.monTripped_offChans m t) :)
  · exact (congrArg Device.events (d.monTripped_offChans m t) :)

theorem Device.monEnter_chan (k : Nat) : (d.monEnter m t).chan k = (d.monTripped m t).chan k := by
  rw [d.monEnter_frame m t (·.chan k) (fun _ _ h => Device.chan_of_body h k) fun _ _ _ => rfl]
  split <;> rfl

@[simp] theorem Device.monEnter_mon_self : (d.monEnter m t).mon m = (d.mon m).entered t !(d.monTargets m).isEmpty := by
  rw [Device.monEnter_mon, Device.setMon_get]

theorem Device.monEnter_mon_ne {k : Nat} (hk : k ≠ m) : (d.monEnter m t).mon k = d.mon k := by
  rw [Device.monEnter_mon, Device.setMon_get_ne _ _ _ _ hk]

end

section
variable {d : Device} {m t : Nat}

/-- A channel of the protection set that is in use and has no cause yet is parked from 320 tick units on (R276, R277). -/
theorem Device.monEnter_parks {ch : Nat} (hch : ch < 512) (he : (d.mon m).protEn = true) (hb : bit (d.mon m).protSet ch = true)
    (ha : (d.chan ch).arm ≠ .parked) (hp : (d.chan ch).parkPend = none) : ((d.monEnter m t).chan ch).parkPend = some (2, t + 320) := by
  have hmem : ch ∈ d.monTargets m := by simp [Device.monTargets, maskBits, Chan.inUse, Chan.armed, he, hch, hb, ha]
  rw [Device.monEnter_chan]
  exact Device.parkAll_parks hmem ha hp

/-! ### The commands of a comparator by what they find (R272..R274, R279) -/

@[simp] theorem Device.at_mon (d : Device) (t k : Nat) : (d.at t).mon k = d.mon k := rfl
@[simp] theorem Device.at_running (d : Device) (t : Nat) : (d.at t).running = d.running := rfl

theorem Device.monitorTrip_enters (hr : d.running = true) (hl : (d.mon m).live = false) (hb : (d.at t).monBlanked m t = false) :
    d.monitorTrip m t = (d.at t).monEnter m t := by
  simp [Device.monitorTrip, hr, hl, hb]

theorem Device.monitorTrip_blanked (hr : d.running = true) (hl : (d.mon m).live = false) (hb : (d.at t).monBlanked m t = true) :
    d.monitorTrip m t = (d.at t).setMon m { d.mon m with blanked := true } := by
  simp [Device.monitorTrip, hr, hl, hb]

theorem Device.monitorRelease_leaves (hr : d.running = true) (hl : (d.mon m).live = true) (hb : (d.at t).monBlanked m t = false) :
    d.monitorRelease m t = (d.at t).monLeave m := by
  simp [Device.monitorRelease, hr, hl, hb]

theorem Device.monitorRelease_blanked (hr : d.running = true) (hl : (d.mon m).live = true) (hb : (d.at t).monBlanked m t = true) :
    d.monitorRelease m t = (d.at t).setMon m { d.mon m with blanked := true } := by
  simp [Device.monitorRelease, hr, hl, hb]

theorem Device.monLeave_mon (d : Device) (m : Nat) :
    (d.monLeave m).mon m = { d.mon m with live := false, fall := (d.mon m).fall || (d.mon m).edgeMode } := Device.setMon_get ..

/-- The comparator brought to the side of its input at an instant: an entry, a release, or nothing (R273, R279). -/
def Device.monJudged (d : Device) (m : Nat) (tripped : Bool) (t : Nat) : Device :=
  if (d.mon m).live = tripped then d else if tripped then d.monEnter m t else d.monLeave m

theorem Device.monJudged_same {b : Bool} (h : (d.mon m).live = b) (t : Nat) : d.monJudged m b t = d := if_pos h

theorem Device.monJudged_trips (h : (d.mon m).live = false) (t : Nat) : d.monJudged m true t = d.monEnter m t := by
  simp [Device.monJudged, h]

/-- A judged comparator is on the side of its input, and UNSETTLED stays clear. -/
theorem Device.monJudged_mon (d : Device) (m : Nat) (b : Bool) (t : Nat) : ((d.monJudged m b t).mon m).live = b ∧
    ((d.mon m).unsettled = false → ((d.monJudged m b t).mon m).unsettled = false) := by
  unfold Device.monJudged
  split
  case isTrue h => exact ⟨h, id⟩
  case isFalse h =>
    cases b with
    | true => rw [if_pos rfl, Device.monEnter_mon_self]; exact ⟨rfl, fun _ => rfl⟩
    | false => rw [if_neg Bool.false_ne_true, Device.monLeave_mon]; exact ⟨rfl, id⟩

theorem Device.monJudged_mon_ne {k : Nat} (hk : k ≠ m) (b : Bool) (t : Nat) : (d.monJudged m b t).mon k = d.mon k := by
  unfold Device.monJudged
  split
  · rfl
  · split
    · exact Device.monEnter_mon_ne d m t hk
    · exact Device.setMon_get_ne _ _ _ _ hk

theorem Device.blankingEnd_judges (hr : d.running = true) (hb : (d.at t).monBlanked m t = false) (tripped : Bool) :
    d.blankingEnd m tripped t = (d.at t).monJudged m tripped t := by
  cases tripped <;> cases hl : (d.mon m).live <;> simp [Device.blankingEnd, Device.monJudged, hr, hb, hl]

theorem Device.monitorPeriod_due (ha : (d.mon m).atPeriod = true) (he : (d.mon m).edgeMode = false) (hp : 0 < (d.mon m).period)
    (hf : d.time.frame % (d.mon m).period = 0) : d.monitorPeriod m = d.setMon m { d.mon m with latch := (d.mon m).live } := by
  simp [Device.monitorPeriod, ha, he, Nat.max_eq_left hp, hf]

theorem Device.monitorPeriod_off (ha : (d.mon m).atPeriod = false) : d.monitorPeriod m = d := by
  simp [Device.monitorPeriod, ha]

theorem Device.unsettledClears_judges (hu : (d.mon m).unsettled = true) (tripSide : Bool) : d.unsettledClears m tripSide =
    (d.setMon m { d.mon m with unsettled := false }).monJudged m tripSide d.time.now := by
  cases tripSide <;> cases hl : (d.mon m).live <;> simp [Device.unsettledClears, Device.monJudged, hu, hl]

theorem Device.unsettledClears_settled (hu : (d.mon m).unsettled = false) (tripSide : Bool) : d.unsettledClears m tripSide = d := by
  simp [Device.unsettledClears, hu]

end

/-- Settles O34: a trip by what `Device.monEnter` changes; the end of a window and of UNSETTLED judge the input afresh. -/
theorem comparatorsTripAndRelease : Obligations.ComparatorsTripAndRelease := by
  refine ⟨?trip, ?tripBlanked, ?release, ?releaseBlanked, ?windowEnd, ?period, ?noPeriod, ?unsettled, ?settled⟩
  case trip =>
    intro s m t hr hl hb
    refine yields_of_exec (f := fun d => d.monitorTrip m.val t) rfl ?_
    rw [Device.monitorTrip_enters hr hl hb, Device.monEnter_mon_self, Device.at_mon]
    exact ⟨rfl, fun he => by simp [Mon.entered, he], fun he => by simp [Mon.entered, he], rfl, rfl,
      fun k hk => Device.monEnter_mon_ne _ _ _ hk, Device.monEnter_events .., fun ch hch he hbit ha hp =>
      Device.monEnter_parks hch he hbit ha hp⟩
  case tripBlanked =>
    exact fun s m t hr hl hb => yields_of_exec (f := fun d => d.monitorTrip m.val t) rfl (Device.monitorTrip_blanked hr hl hb)
  case release =>
    exact fun s m t hr hl hb => yields_of_exec (f := fun d => d.monitorRelease m.val t) rfl (Device.monitorRelease_leaves hr hl hb)
  case releaseBlanked =>
    exact fun s m t hr hl hb => yields_of_exec (f := fun d => d.monitorRelease m.val t) rfl (Device.monitorRelease_blanked hr hl hb)
  case windowEnd =>
    intro s m b t hr hb
    refine yields_of_exec (f := fun d => d.blankingEnd m.val b t) rfl ?_
    rw [Device.blankingEnd_judges hr hb]
    refine ⟨(Device.monJudged_mon ..).1, fun hl => Device.monJudged_same (d := s.dev.at t) hl t, fun hl hb => ?_⟩
    rw [hb, Device.monJudged_trips (d := s.dev.at t) hl, Device.monEnter_mon_self]
    rfl
  case period =>
    exact fun s m ha he hp hf => yields_of_exec (f := fun d => d.monitorPeriod m.val) rfl (Device.monitorPeriod_due ha he hp hf)
  case noPeriod => exact fun s m ha => yields_of_exec (f := fun d => d.monitorPeriod m.val) rfl (Device.monitorPeriod_off ha)
  case unsettled =>
    intro s m b hu
    refine yields_of_exec (f := fun d => d.unsettledClears m.val b) rfl ?_
    rw [Device.unsettledClears_judges hu]
    obtain ⟨hlive, hsettled⟩ := Device.monJudged_mon (s.dev.setMon m.val { s.dev.mon m.val with unsettled := false }) m.val b s.dev.time.now
    refine ⟨hsettled (by simp), hlive, fun hl => ?_, fun k hk => (Device.monJudged_mon_ne hk _ _).trans (Device.setMon_get_ne _ _ _ _ hk)⟩
    rw [Device.monJudged_same (by simpa using hl)]
    rfl
  case settled => exact fun s m b hu => yields_of_exec (f := fun d => d.unsettledClears m.val b) rfl (Device.unsettledClears_settled hu b)

end Sys2Proof.Machine
end

section
/-! PROOFS. IM_MODEL, IM_SENSOR and IM_POLICY (R284, R290, R299, R305, R309, R310, R341, R400, R401). -/

namespace Sys2Proof.Machine

/-! ### What IM_SENSOR asks for (R290, R401) -/

/-- A sensor of the zone is the one that the command names. -/
def Cmd.namesSensor (c : Cmd) (x : Sensor) : Bool := x.kind == c.u8 0 && x.index == c.u16 2

/-- The offset that the command gives: of a front-end sensor only where it is said to override the descriptor's. -/
def Cmd.sensorOffset (c : Cmd) : Option F32 := if c.u8 0 = 0 then (if c.u8 4 = 1 then some (c.f32 8) else none) else some (c.f32 8)

/-- The sensor as the command attaches it. -/
def Cmd.sensor (c : Cmd) : Sensor := { kind := c.u8 0, index := c.u16 2, trip := c.f32 12, offset := c.sensorOffset }

/-- The sensors of a zone with the command's sensor attached, or changed where the zone has it. -/
def Zone.sensorsWith (z : Zone) (c : Cmd) : List Sensor :=
  if z.sensors.any c.namesSensor then
    z.sensors.map fun x => if c.namesSensor x then { x with offset := c.sensorOffset, trip := c.f32 12 } else x
  else z.sensors ++ [c.sensor]

section
variable {c : Cmd} {d : Device}

/-- A zone that has not the sensor gains it; what the zone has of its own stays. -/
theorem Zone.sensorsWith_new {z : Zone} (h : z.sensors.any c.namesSensor = false) : z.sensorsWith c = z.sensors ++ [c.sensor] := by
  simp [Zone.sensorsWith, h]

/-- A zone that has the sensor keeps its readings; offset and trip change. -/
theorem Zone.sensorsWith_held {z : Zone} (h : z.sensors.any c.namesSensor = true) : z.sensorsWith c =
    z.sensors.map fun x => if c.namesSensor x then { x with offset := c.sensorOffset, trip := c.f32 12 } else x := by
  simp [Zone.sensorsWith, h]

/-! ### What the opcodes answer where they accept -/

/-- IM_MODEL that is accepted takes the load model of its record (R284, R299). -/
theorem runImModel_accepted (hg : (runImModel c d).1.good = true) :
    runImModel c d = ok (d.setModel c.idx ((d.model c.idx).ofRecord c.par)) [] := by
  refine checked_good ?_ hg
  simp only [saneChecks_cons, saneCheck_no, saneCheck_bad, saneCheck_badAny]
  split <;> simp [stLOCKED, stBAD_TARGET, stOK, stJUMP_DEFERRED]

/-- IM_SENSOR that is accepted and detaches (R401). -/
theorem runImSensor_detaches (hc : c.u8 1 = 1) (hg : (runImSensor c d).1.good = true) : runImSensor c d =
    ok (d.setZone c.idx { d.zone c.idx with sensors := (d.zone c.idx).sensors.filter fun x => !c.namesSensor x }) [] := by
  simp only [runImSensor, if_pos hc] at hg ⊢
  exact checked_good (by simp) hg

/-- IM_SENSOR that is accepted and attaches or changes (R401). -/
theorem runImSensor_attaches (hc : c.u8 1 ≠ 1) (hg : (runImSensor c d).1.good = true) : runImSensor c d =
    ok (d.setZone c.idx { d.zone c.idx with sensors := (d.zone c.idx).sensorsWith c }) [] := by
  simp only [runImSensor, if_neg hc] at hg ⊢
  exact checked_good (by simp [stBUSY, stBAD_TARGET, stOK, stJUMP_DEFERRED]) hg

/-- IM_POLICY of a channel that is accepted: its maximum deferral (R305). -/
theorem runImPolicy_channel (hc : c.scope = 1) (hg : (runImPolicy c d).1.good = true) :
    runImPolicy c d = ok (d.setModel c.idx { d.model c.idx with maxdef := c.f32 0 }) [] := by
  simp only [runImPolicy, hc, Nat.reduceEqDiff, if_false, if_true] at hg ⊢
  exact checked_good (imPolicyStatic_sane c) hg

/-- IM_POLICY of the device that is accepted: pairing and the die's thresholds (R309, R310). -/
theorem runImPolicy_device (hc : c.scope = 0) (hg : (runImPolicy c d).1.good = true) : runImPolicy c d =
    ok { d with imp := { d.imp with
      pairing := c.u8 0 == 1, die := { d.imp.die with warn := c.f32 4, act := c.f32 8, release := c.f32 12 } } } [] := by
  simp only [runImPolicy, hc, Nat.reduceEqDiff, if_false] at hg ⊢
  exact checked_good (imPolicyStatic_sane c) hg

/-- IM_POLICY of a zone or rail that is accepted: its share (R341). -/
theorem runImPolicy_share (hc : c.scope = 3) (hg : (runImPolicy c d).1.good = true) : runImPolicy c d = ok (d.setShareRecord c) [] := by
  simp only [runImPolicy, if_pos hc] at hg ⊢
  exact checked_good (by simp [stNOT_READY, stOK, stJUMP_DEFERRED]) hg

end

/-- Settles O13: each opcode with its checks passed; IM_SENSOR's attachments by whether the zone has the sensor. -/
theorem impositorCommandsComplete : Obligations.ImpositorCommandsComplete := by
  refine ⟨?model, ?detach, ?attach, ?change, ?deferral, ?die, ?share⟩
  case model => exact completes_of_run (fun _ _ => rfl) fun c d _ _ hg => runImModel_accepted hg
  case detach => exact completes_of_run (fun _ _ => rfl) fun c d _ hc hg => runImSensor_detaches hc hg
  case attach =>
    refine fun x => completes_of_run (fun _ _ => rfl) fun c d _ ⟨hc, hnew, hx⟩ hg => ?_
    rw [hx]
    exact (runImSensor_attaches hc hg).trans (by rw [Zone.sensorsWith_new hnew]; rfl)
  case change =>
    refine fun o => completes_of_run (fun _ _ => rfl) fun c d _ ⟨hc, hheld, ho⟩ hg => ?_
    rw [ho]
    exact (runImSensor_attaches hc hg).trans (by rw [Zone.sensorsWith_held hheld]; rfl)
  case deferral => exact completes_of_run (fun _ _ => rfl) fun c d _ hc hg => runImPolicy_channel hc hg
  case die => exact completes_of_run (fun _ _ => rfl) fun c d _ hc hg => runImPolicy_device hc hg
  case share => exact completes_of_run (fun _ _ => rfl) fun c d _ hc hg => runImPolicy_share hc hg

end Sys2Proof.Machine
end

section
/-! PROOFS. The budget phase, and the deadlines that are missed: engine, upstream data, collector, budget phase (R51, R297, R307). -/

namespace Sys2Proof.Machine

/-! ### A bit that a unit raises (R472, R474) -/

/-- What is recorded stands in the Proofreader alone. -/
theorem Device.Records.of_flt {old old' d d' : Device} {b u k t : Nat} (h : old.Records d b u k t) (hd : d'.flt = d.flt)
    (hold : old'.flt = old.flt) : old'.Records d' b u k t := by
  obtain ⟨hpf, hevent, hword, hreaction⟩ := h
  rw [← hold, ← hd] at hpf hevent hword hreaction
  exact ⟨hpf, hevent, hword, hreaction⟩

section
variable {b u k : Nat} (d : Device) (ch : Option Nat) (t : Nat)

theorem errAt_bit (hb : b < 64) : (errAt b u k ch).bit.val = b := Nat.mod_eq_of_lt hb
theorem errAt_unit (hu : u < 16) : (errAt b u k ch).unit.val = u := Nat.mod_eq_of_lt hu

/-- A unit's error line that rises is recorded under the bit, unit and CHECK that it names. -/
theorem Device.raiseErr_records (hb : b < 64) (hu : u < 16) (hk : k < 16) : d.Records (d.raiseErr (errAt b u k ch) t) b u k t := by
  have hrecords := d.raiseErrAs_records (errAt b u k ch) t none 0 rfl rfl rfl
  have hcheck : (errAt b u k ch).check.toNat = k := Nat.mod_eq_of_lt hk
  rwa [errAt_bit ch hb, errAt_unit ch hu, hcheck] at hrecords

theorem Device.journal_engine (kind m bit s e c w : Nat) (l : List Byte) (i : Nat) :
    (d.journal kind m bit s e c w l).engine i = d.engine i := by
  simp [Device.engine]

/-- An engine's own bit marks the engine (R472). -/
theorem Device.raiseErr_marks_engine (hb : b ≤ 8) (hu : u < 16) : ((d.raiseErr (errAt b u k ch) t).engine (8 * b + u)).errored = true := by
  have hbit := errAt_bit (u := u) (k := k) ch (Nat.lt_of_le_of_lt hb (by decide))
  unfold Device.raiseErr Device.raiseErrAs
  simp only [apply_ite (Device.engine · (8 * b + u)), Device.journal_engine, ite_self, hbit, errAt_unit ch hu, if_pos hb]
  rw [Device.setEngine_get]

@[simp] theorem Device.raiseErr_slot (e : ErrEvent) (j : Nat) : (d.raiseErr e t).slot j = d.slot j := by
  simp [Device.raiseErr, Device.slot]
@[simp] theorem Device.raiseErr_link (e : ErrEvent) (l : Nat) : (d.raiseErr e t).link l = d.link l := by
  simp [Device.raiseErr, Device.link]
@[simp] theorem Device.raiseErr_ring (e : ErrEvent) (q : Nat) : (d.raiseErr e t).ring? q = d.ring? q := by
  simp [Device.raiseErr, Device.ring?]
@[simp] theorem Device.raiseErr_imp (e : ErrEvent) : (d.raiseErr e t).imp = d.imp := Device.raiseErrAs_imp ..
@[simp] theorem Device.raiseErr_chans (e : ErrEvent) : (d.raiseErr e t).chans = d.chans := Device.raiseErrAs_chans ..

end

/-! ### The budget phase (R297, R307) -/

section
variable {d : Device}

/-- The device as requests find it: spans that are over have left the ledger, and the frame's data are folded in (R287, R288, R297). -/
def Device.foldedFrame (d : Device) : Device :=
  let d := d.sweepCommitted
  let d := d.each d.usedChans Device.foldChan
  let d := d.each (d.imp.zones.map (·.1)) Device.foldZone
  let d := d.each (d.imp.rails.map (·.1)) Device.foldRail
  (d.each d.usedChans Device.foldHold).foldShares

/-- The budget phase in service folds the frame in, judges requests and has ended in time. -/
theorem Device.budgetPhase_served (ht : d.time.started = true) (hb : d.blk bIMPOS = true) :
    d.budgetPhase = { d.foldedFrame.admission with imp := { d.foldedFrame.admission.imp with late := false } } := by
  unfold Device.budgetPhase Device.foldedFrame
  rw [if_neg (by simp [ht, hb])]

/-- With no channel, zone, rail or share there is nothing to fold in. -/
theorem Device.foldedFrame_empty (hchans : d.chans = []) (hzones : d.imp.zones = []) (hrails : d.imp.rails = [])
    (hshares : d.imp.shares = []) : d.foldedFrame = d.sweepCommitted := by
  simp [Device.foldedFrame, Device.foldShares, Device.usedChans, Device.each, Device.sweepCommitted, hchans, hzones, hrails, hshares]

/-- Without requests nothing is judged. -/
theorem Device.admission_idle (h : d.imp.requests = []) : d.admission = d := by
  have hidle : d.timeOuts = d := by
    unfold Device.timeOuts
    rw [h, List.map_nil, ← h]
  simp [Device.admission, hidle, h]

theorem Device.sweepCommitted_noRequests (h : d.imp.requests = []) : d.sweepCommitted = { d with imp := { d.imp with
    committed := d.imp.committed.filter fun c => c.profile.endless || decide (d.time.frame < c.start + c.profile.len)
    requests := [] } } := by
  unfold Device.sweepCommitted
  rw [h]
  rfl

/-! ### Missed deadlines (R51) -/

theorem Device.engineOf_lt {i e : Nat} (hi : i < 64) (h : d.engineOf i = some e) : e < 72 := by
  unfold Device.engineOf at h
  split at h
  · obtain rfl := Option.some.inj h; omega
  · split at h
    · obtain rfl := Option.some.inj h; assumption
    · cases h

/-- A slot that is computed is computed by one of the 72 engines (R12, R93). -/
theorem Device.computeEngine_lt {j e : Nat} (hj : j < 64) (he : d.computeEngine j = some e) : e < 72 := by
  unfold Device.computeEngine at he
  split at he
  · cases he
  · split at he
    case h_1 x hx =>
      split at he
      · obtain rfl := Option.some.inj he
        exact Device.engineOf_lt (by split <;> omega) hx
      · cases he
    case h_2 => cases he

/-- The device in which a slot's engine has completed `n` channels at the deadline and every other has missed it. -/
def Device.atDeadline (d : Device) (j n : Nat) : Device :=
  ((d.at (d.nextTick - 160)).each ((slotChans j).take n) fun d ch => d.computeChan ch false).each ((slotChans j).drop n) Device.missChan

/-- The deadline of an open slot: its banks swap, and its engine's bit rises. -/
theorem Device.engineMiss_open {j e : Nat} (n : Nat) (he : d.computeEngine j = some e) (ho : d.slotOpen j = true) : d.engineMiss j n =
    ((d.atDeadline j n).swapBank j).raiseErr (errAt (e / 8) (e % 8) 6 none) (d.atDeadline j n).time.now := by
  simp only [Device.engineMiss, he, ho, Bool.not_true, Bool.false_eq_true, if_false]
  rfl

/-- A link that is UP with nothing held by L: its miss counts, and its bit rises. -/
theorem Device.upstreamMiss_up {l : Nat} (hs : (d.link l).state = .up) (hh : (d.link l).held = false) : d.upstreamMiss l =
    (d.fromL.setLink l ((d.link l).miss d.time.frame)).raiseErr (errAt (9 + l / 16) (l % 16) 6
      (some ((d.fromL.setLink l ((d.link l).miss d.time.frame)).chanOfLink l))) d.fromL.time.now := by
  simp only [Device.upstreamMiss, hs, hh]
  rfl

/-- A link in search or being described: its miss counts. -/
theorem Device.upstreamMiss_bringUp {l : Nat} (hs : (d.link l).state = .search ∨ (d.link l).state = .describe)
    (hh : (d.link l).held = false) : d.upstreamMiss l = d.fromL.setLink l ((d.link l).miss d.time.frame) := by
  rcases hs with hs | hs <;> simp [Device.upstreamMiss, hs, hh]

/-- Without slugs no packet is written (R438). -/
theorem Device.flushSlugs_idle (h : d.queue.slugs = []) : d.flushSlugs = d := by
  unfold Device.flushSlugs
  rw [h]
  rfl

/-- One entry is lost on its ring. -/
theorem Device.loseEntries_single {e : Entry} {r : Ring} (h : d.ring? e.ring = some r) :
    d.loseEntries [e] = d.setRing e.ring { r with lost := r.lost + max 1 e.frames } := by
  simp [Device.loseEntries, Device.onRing, h]

/-- A bank that is not drained in time, with no slugs left over: its entries are lost on their rings, and bit 58 rises. -/
theorem Device.drainMiss_noSlugs (ht : d.time.started = true) (hb : d.blk bCOLLECT = true) (hq : d.queue.slugs = []) (j : Nat) :
    d.drainMiss j = ((d.loseEntries (d.slot j).drain).setSlot j { d.slot j with drain := [] }).raiseErr (errAt 58 0 6 none) d.time.now := by
  have hbody := d.loseEntries_body (d.slot j).drain
  have hslugs : (d.loseEntries (d.slot j).drain).queue.slugs = [] := (congrArg (·.queue.slugs) hbody :).trans hq
  unfold Device.drainMiss
  rw [if_neg (by simp [ht, hb])]
  extract_lets x dropped
  rw [Device.flushSlugs_idle (show dropped.queue.slugs = [] from hslugs),
    show dropped.time = d.time from Device.time_of_body (e := d.loseEntries _) hbody]

/-- A budget phase that is late raises bit 49; nothing is admitted in the frame. -/
theorem Device.budgetMiss_served (ht : d.time.started = true) (hb : d.blk bIMPOS = true) : d.budgetMiss =
    { d.raiseErr (errAt 49 0 6 none) d.time.now with imp := { d.imp with late := true } } := by
  unfold Device.budgetMiss
  rw [if_neg (by simp [ht, hb])]
  simp

end

/-- Settles O25: the budget phase by what it folds in and judges; each missed deadline by what it leaves behind and the bit that it raises. -/
theorem budgetPhasesAndDeadlines : Obligations.BudgetPhasesAndDeadlines := by
  refine ⟨⟨?ends, ?empty⟩, ?engine, ?upstream, ?bringUp, ?drain, ?budget⟩
  case ends =>
    intro s hheld ht hb
    exact yieldsCells_of_exec (f := Device.budgetPhase) rfl hheld (by rw [Device.budgetPhase_served ht hb])
  case empty =>
    intro s hheld ht hb hchans hzones hrails hshares hreq
    refine yieldsCells_of_exec (f := Device.budgetPhase) rfl hheld ?_
    have hswept := (Device.foldedFrame_empty hchans hzones hrails hshares).trans (Device.sweepCommitted_noRequests hreq)
    rw [Device.budgetPhase_served ht hb, Device.admission_idle (by rw [hswept]), hswept]
  case engine =>
    intro s j n e hheld he ho
    refine yieldsCells_of_exec (f := fun d => d.engineMiss j.val n.val) rfl hheld ?_
    have hlt := Device.computeEngine_lt j.isLt he
    rw [Device.engineMiss_open n.val he ho]
    generalize s.dev.atDeadline j.val n.val = computed
    have hbit : e / 8 ≤ 8 := by omega
    have hunit : e % 8 < 16 := by omega
    have hrecords := (computed.swapBank j.val).raiseErr_records (k := 6) none computed.time.now (by omega : e / 8 < 64) hunit (by decide)
    have hmarked := (computed.swapBank j.val).raiseErr_marks_engine (k := 6) none computed.time.now hbit hunit
    rw [Nat.div_add_mod] at hmarked
    rw [hrecords.pf, hrecords.word, Device.raiseErr_slot, Device.swapBank_slot]
    exact ⟨bit_setBit .., rfl, rfl, hmarked⟩
  case upstream =>
    intro s l hheld hs hh
    refine yieldsCells_of_exec (f := fun d => d.upstreamMiss l.val) rfl hheld ?_
    rw [Device.upstreamMiss_up hs hh, Device.raiseErr_link, Device.setLink_get, Device.raiseErr_chans]
    exact ⟨(Device.raiseErr_records _ _ _ (by omega) (by omega) (by omega)).of_flt rfl rfl, rfl, rfl⟩
  case bringUp =>
    exact fun s l hheld hs hh => yieldsCells_of_exec (f := fun d => d.upstreamMiss l.val) rfl hheld (Device.upstreamMiss_bringUp hs hh)
  case drain =>
    intro s j e r hheld ht hb hq hd hr
    refine yieldsCells_of_exec (f := fun d => d.drainMiss j.val) rfl hheld ?_
    rw [Device.drainMiss_noSlugs ht hb hq, hd, Device.loseEntries_single hr, Device.raiseErr_slot, Device.raiseErr_ring, Device.setSlot_get,
      Device.setSlot_ring, Device.setRing_get]
    exact ⟨(Device.raiseErr_records _ _ _ (by decide) (by decide) (by decide)).of_flt rfl rfl, rfl, rfl⟩
  case budget =>
    intro s hheld ht hb
    refine yieldsCells_of_exec (f := Device.budgetMiss) rfl hheld ?_
    rw [Device.budgetMiss_served ht hb]
    exact ⟨(Device.raiseErr_records _ _ _ (by decide) (by decide) (by decide)).of_flt rfl rfl, rfl, Device.raiseErr_chans ..⟩

end Sys2Proof.Machine
end

section
/-! PROOFS. Zhepin cells: the fields of a header, the cells that a port sends, and what a received cell meets (R322..R324). -/

namespace Sys2Proof.Machine

/-! ### The header word (R322) -/

/-- The fields of a header from bit 0 upwards (R322): TYPE, LSEQ, LEN, broadcast, ORIGIN, destination, SEQ, hops, ORIGIN_VALID. -/
def headerFields (ty lseq len : Nat) (bcast : Bool) (origin dest seq hops : Nat) (ov : Bool) : List (Nat × Nat) :=
  [(8, ty), (4, lseq % 16), (3, len), (1, bcast.toNat), (10, origin), (10, dest), (16, seq % 65536), (7, hops), (1, ov.toNat)]

/-- What is read from a cell's header. -/
structure Bears (c : Cell) (ty lseq len : Nat) (bcast : Bool) (origin dest seq hops : Nat) (ov : Bool) : Prop where
  type : c.type = ty
  lseq : c.lseq = lseq % 16
  len : bits c.head 14 12 = len
  bcast : c.bcast = bcast
  origin : c.origin = origin
  dest : c.dest = dest
  seq : c.cseq = seq % 65536
  hops : c.hops = hops
  valid : c.originValid = ov

theorem bits_lt (v hi lo : Nat) : bits v hi lo < 2 ^ (hi + 1 - lo) := Nat.mod_lt _ (Nat.two_pow_pos _)

section
variable {c : Cell} {ty lseq len origin dest seq hops : Nat} {bcast ov : Bool}

theorem headerFields_fit (ht : ty < 256) (hl : len < 8) (ho : origin < 1024) (hd : dest < 1024) (hh : hops < 128) :
    ∀ f ∈ headerFields ty lseq len bcast origin dest seq hops ov, f.2 < 2 ^ f.1 := by
  simp only [headerFields, List.forall_mem_cons]
  exact ⟨ht, Nat.mod_lt _ (by decide), hl, Bool.toNat_lt _, ho, hd, Nat.mod_lt _ (by decide), hh, Bool.toNat_lt _, nofun⟩

theorem mkHeader_toNat : (mkHeader ty lseq len bcast origin dest seq hops ov).toNat =
    packed (headerFields ty lseq len bcast origin dest seq hops ov) % 2 ^ 64 := by
  simp only [mkHeader, BitVec.toNat_ofNat, packed, headerFields, flag_eq_toNat]
  exact congrArg (· % 2 ^ 64) (by omega)

/-- Fields within their widths are read from the header that they make up. -/
theorem bears_of_header (h : c.header = mkHeader ty lseq len bcast origin dest seq hops ov) (ht : ty < 256) (hl : len < 8) (ho : origin < 1024)
    (hd : dest < 1024) (hh : hops < 128) : Bears c ty lseq len bcast origin dest seq hops ov := by
  have hfit := headerFields_fit (lseq := lseq) (bcast := bcast) (seq := seq) (ov := ov) ht hl ho hd hh
  have hhead : c.head = packed (headerFields ty lseq len bcast origin dest seq hops ov) := by
    rw [Cell.head, h, mkHeader_toNat]
    exact Nat.mod_eq_of_lt (Nat.lt_of_lt_of_le (packed_lt hfit) (Nat.pow_le_pow_right (by decide) (by decide : 60 ≤ 64)))
  constructor <;> simp only [Cell.type, Cell.lseq, Cell.bcast, Cell.origin, Cell.dest, Cell.cseq, Cell.hops, Cell.originValid, hhead]
  case type => exact bits_packed hfit 0 rfl rfl rfl
  case lseq => exact bits_packed hfit 1 rfl rfl rfl
  case len => exact bits_packed hfit 2 rfl rfl rfl
  case bcast => exact bit_of_bits (bits_packed hfit 3 rfl rfl rfl)
  case origin => exact bits_packed hfit 4 rfl rfl rfl
  case dest => exact bits_packed hfit 5 rfl rfl rfl
  case seq => exact bits_packed hfit 6 rfl rfl rfl
  case hops => exact bits_packed hfit 7 rfl rfl rfl
  case valid => exact bit_of_bits (bits_packed hfit 8 rfl rfl rfl)

/-- TYPE is read whatever the other fields hold: it is the lowest byte. -/
theorem type_of_header (h : c.header = mkHeader ty lseq len bcast origin dest seq hops ov) (ht : ty < 256) : c.type = ty := by
  rw [Cell.type, Cell.head, h, mkHeader_toNat]
  simp only [bits, headerFields, packed]
  omega

/-- A relinked cell bears its own fields with the port's link sequence and hop count. -/
theorem relink_bears (c : Cell) (lseq : Nat) (hl : c.words.length < 8) (hh : hops < 128) :
    Bears (c.relink lseq hops) c.type lseq c.words.length c.bcast c.origin c.dest c.cseq hops c.originValid :=
  bears_of_header rfl (bits_lt ..) hl (bits_lt ..) (bits_lt ..) hh

/-- A received cell of the type's length is of the type. -/
theorem Bears.isType (h : Bears c ty lseq c.words.length bcast origin dest seq hops ov) (hmin : (lenOf ty).1 ≤ c.words.length)
    (hmax : c.words.length ≤ (lenOf ty).2) : c.isType ty = true := by
  simp [Cell.isType, h.type, h.len, hmin, hmax]

end

/-! ### Link-local cells (R323, R324) -/

/-- The cell that a port sends. -/
def Device.localCell (d : Device) (p ty : Nat) (words : List Nat) : Cell :=
  let c := (d.newCell ty false 0 words).1
  c.relink (d.port p).txSeq c.hops

section
variable (d : Device) (p ty : Nat) (words : List Nat)

theorem Device.sendLocal_sent : (d.sendLocal p ty words).reg.sent = (p, d.localCell p ty words) :: d.reg.sent := rfl
theorem Device.sendLocal_time : (d.sendLocal p ty words).time = d.time := rfl

theorem Device.sendLocal_port : ∃ sent, (d.sendLocal p ty words).port p = { d.port p with txSeq := ((d.port p).txSeq + 1) % 16, sent := sent } :=
  ⟨_, Device.setPort_get ..⟩

theorem Device.sendLocal_port_ne {k : Nat} (h : k ≠ p) : (d.sendLocal p ty words).port k = d.port k :=
  Device.setPort_get_ne _ p k _ h

theorem Device.localCell_words : (d.localCell p ty words).words = words.map word64 := rfl
theorem Device.localCell_crcOk : (d.localCell p ty words).crcOk = true := rfl

variable {p ty words}

/-- Payload word `i` of a sent cell, counted from 1. -/
theorem Device.localCell_w {i w : Nat} (h : words[i - 1]? = some w) : (d.localCell p ty words).w i = w % 2 ^ 64 := by
  simp [Cell.w, Device.localCell_words, word64, h]

/-- A port sends a cell on with its own link sequence; the rest of the header is the cell's. -/
theorem Device.localCell_relinked {c : Cell} (hc : (d.newCell ty false 0 words).1 = c) (hw : words.length < 8) :
    Bears (d.localCell p ty words) c.type (d.port p).txSeq words.length c.bcast c.origin c.dest c.cseq c.hops c.originValid := by
  subst hc
  have hlen : (d.newCell ty false 0 words).1.words.length = words.length := List.length_map ..
  rw [← hlen]
  exact relink_bears _ _ (hlen ▸ hw) (bits_lt ..)

theorem Device.localCell_type (ht : ty < 256) (hw : words.length < 8) : (d.localCell p ty words).type = ty :=
  (d.localCell_relinked rfl hw).type.trans (type_of_header rfl ht)

theorem Device.localCell_lseq (hw : words.length < 8) : (d.localCell p ty words).lseq = (d.port p).txSeq % 16 :=
  (d.localCell_relinked rfl hw).lseq

/-- A REGISTERED device's cell names its ID as origin (R322). -/
theorem Device.localCell_bears {id : Nat} (hr : d.reg.state = .registered) (hid : d.reg.id = some id) (hlt : id < 1024) (ht : ty < 256)
    (hw : words.length < 8) : Bears (d.localCell p ty words) ty (d.port p).txSeq words.length false id 0 d.reg.seq 1 true := by
  have hnew : Bears (d.newCell ty false 0 words).1 ty 0 words.length false id 0 d.reg.seq 1 true :=
    bears_of_header (by simp [Device.newCell, hr, hid]) ht hw hlt (by decide) (by decide)
  have hsent := d.localCell_relinked (p := p) (ty := ty) rfl hw
  rw [hnew.type, hnew.bcast, hnew.origin, hnew.dest, hnew.seq, hnew.hops, hnew.valid] at hsent
  exact { hsent with seq := hsent.seq.trans (Nat.mod_mod ..) }

end

/-! ### What a received cell meets (R323) -/

/-- NEIGHBOR, PING and ECHO pass between neighbours alone. -/
abbrev linkLocal (ty : Nat) : Prop := ty = ctNEIGHBOR ∨ ty = ctPING ∨ ty = ctECHO

/-- The broadcasts that the device has seen in the last 8 µs. -/
def Device.seenLately (d : Device) : List (Nat × Nat × Nat) := d.reg.seen.filter fun x => decide (d.time.now < x.2.2 + 128000)

/-- The device with a broadcast among those that it has seen. -/
def Device.heard (d : Device) (c : Cell) : Device :=
  { d with reg := { d.reg with seen := (c.origin, c.cseq, d.time.now) :: d.seenLately } }

section
variable {d : Device} {p : Port} {c : Cell} {ty : Nat}

/-- A whole cell of its type on a port that is UP, or any NEIGHBOR cell, is told by how it is routed. -/
theorem Device.receive_whole (h : d.Receives p c ty) (hup : (d.port p.val).up = true ∨ ty = ctNEIGHBOR) (t : Nat) (k : Device → Device) :
    d.receive p.val c t ty k =
      if linkLocal ty then k (d.at t)
      else if c.bcast then
        if (d.at t).seenLately.any fun x => x.1 == c.origin && x.2.1 == c.cseq then d.at t else k (((d.at t).heard c).forward p.val c)
      else if d.reg.id = some c.dest then k (d.at t) else (d.at t).forward p.val c := by
  obtain ⟨hon, hwhole, htype, hfirst⟩ := h
  have hopen : ¬(!c.isType ty || (!((d.at t).port p.val).up && decide (ty ≠ ctNEIGHBOR))) = true := by
    rw [show (d.at t).port p.val = d.port p.val from rfl, htype]
    rcases hup with h | h <;> simp [h]
  have hsame : ∀ x : Device, (if ((d.at t).port p.val).failed = some c.lseq then x else d.at t) = d.at t := fun x =>
    if_neg (by rw [show (d.at t).port p.val = d.port p.val from rfl, hfirst]; nofun)
  refine (if_neg (by simp [hon])).trans ((if_neg (by simp [hwhole])).trans ?_)
  dsimp only
  rw [hsame, if_neg hopen]
  rfl

theorem Device.receive_linkLocal (h : d.Receives p c ty) (hty : linkLocal ty) (hup : (d.port p.val).up = true ∨ ty = ctNEIGHBOR) (t : Nat)
    (k : Device → Device) : d.receive p.val c t ty k = k (d.at t) :=
  (Device.receive_whole h hup t k).trans (if_pos hty)

theorem words_of_isType (h : c.isType ty = true) : c.words.length < 8 := by
  simp only [Cell.isType, Bool.and_eq_true, beq_iff_eq] at h
  obtain ⟨⟨⟨_, hlen⟩, _⟩, _⟩ := h
  exact hlen ▸ bits_lt c.head 14 12

/-- A broadcast that came in on the only UP port goes on nowhere. -/
theorem Device.forward_alone {p : Nat} (hw : c.words.length < 8) (hb : c.bcast = true) (hp : d.portsUp = [p]) : d.forward p c = d := by
  unfold Device.forward
  split
  · rfl
  · next hhops =>
    have hcast : (c.relink 0 (c.hops + 1)).bcast = true := (relink_bears c 0 hw (by omega)).bcast.trans hb
    simp [hcast, hp]

/-- A broadcast that is new to a device with one UP port is carried out with time come to its instant. -/
theorem Device.receive_broadcast (h : d.Broadcasts p c ty) (hty : ¬linkLocal ty) (t : Nat) (k : Device → Device) :
    d.receive p.val c t ty k = k ((d.at t).heard c) := by
  have hnew : ¬((d.at t).seenLately.any fun x => x.1 == c.origin && x.2.1 == c.cseq) = true := by
    intro hany
    obtain ⟨x, hx, hsame⟩ := List.any_eq_true.mp hany
    exact h.new x (List.mem_filter.mp hx).1 (by simpa using hsame)
  have halone : ((d.at t).heard c).forward p.val c = (d.at t).heard c := Device.forward_alone (words_of_isType h.type) h.all h.alone
  rw [Device.receive_whole h.toReceives (.inl h.up), if_neg hty, if_pos h.all, if_neg hnew, halone]

end

/-! ### The NEIGHBOR cell (R324) -/

/-- The payload words of the NEIGHBOR cell that the device sends on a port. -/
def Device.neighborWords (d : Device) (p : Nat) : List Nat :=
  let r := d.reg
  let own := r.state == .registered
  [(if own then r.id.getD 0 else 0) + flag (own && r.id.isSome) 10 + r.state.code * 2 ^ 11 + p * 2 ^ 14 + r.n * 2 ^ 17 + r.m * 2 ^ 23 + r.e * 2 ^ 29 +
     r.tkId.getD 0 * 2 ^ 34 + d.time.n * 2 ^ 44,
   d.estimate d.time.tick, (if own then d.lastMark % 2 ^ 32 else 0) + r.path * 2 ^ 32]

theorem Device.neighborSend_on {d : Device} (h : d.zhepinOn = true) (p : Nat) :
    d.neighborSend p = d.sendLocal p ctNEIGHBOR (d.neighborWords p) := if_neg (by simp [h])

/-- The fields of a REGISTERED device's first payload word from bit 0 upwards: ID, ID_VALID, STATE, port, n, m, e, the timekeeper's ID, N. -/
def Device.reportFields (d : Device) (p id tk : Nat) : List (Nat × Nat) :=
  [(10, id), (1, 1), (3, 3), (3, p), (6, d.reg.n), (6, d.reg.m), (5, d.reg.e), (10, tk), (14, d.time.n)]

/-- The fields of the third: the number of the last mark, and the path length. -/
def Device.markFields (d : Device) : List (Nat × Nat) := [(32, d.lastMark % 2 ^ 32), (6, d.reg.path)]

/-- A payload word that is packed from fields within their widths. -/
theorem packed_word {l : List (Nat × Nat)} (h : ∀ f ∈ l, f.2 < 2 ^ f.1) (hw : fieldsWidth l ≤ 64) : packed l % 2 ^ 64 = packed l :=
  Nat.mod_eq_of_lt (Nat.lt_of_lt_of_le (packed_lt h) (Nat.pow_le_pow_right (by decide) hw))

theorem Device.neighborWords_registered {d : Device} {id tk : Nat} (hr : d.reg.state = .registered) (hid : d.reg.id = some id)
    (htk : d.reg.tkId = some tk) (p : Nat) :
    d.neighborWords p = [packed (d.reportFields p id tk), d.estimate d.time.tick, packed d.markFields] := by
  simp only [Device.neighborWords, hr, hid, htk, Device.reportFields, Device.markFields, packed, flag, RegState.code, beq_self_eq_true,
    Option.isSome_some, Option.getD_some, Bool.and_self, if_true]
  rw [List.cons.injEq, List.cons.injEq, List.cons.injEq]
  exact ⟨by omega, rfl, by omega, rfl⟩

section
variable {d : Device} {p id tk : Nat}

theorem Device.reportFields_fit (hp : p < 8) (hid : id < 1024) (htk : tk < 1024) (hn : d.reg.n < 64) (hm : d.reg.m < 64) (he : d.reg.e < 32)
    (hN : d.time.n < 2 ^ 14) : ∀ f ∈ d.reportFields p id tk, f.2 < 2 ^ f.1 := by
  simp only [Device.reportFields, List.forall_mem_cons]
  exact ⟨hid, by decide, by decide, hp, hn, hm, he, htk, hN, nofun⟩

theorem Device.markFields_fit (hpath : d.reg.path < 64) : ∀ f ∈ d.markFields, f.2 < 2 ^ f.1 := by
  simp only [Device.markFields, List.forall_mem_cons]
  exact ⟨Nat.mod_lt _ (by decide), hpath, nofun⟩

/-- The receiver of a REGISTERED device's words reads the fields that they are packed from. -/
theorem neighbor_of_words {c : Cell} (hreport : ∀ f ∈ d.reportFields p id tk, f.2 < 2 ^ f.1) (hmark : ∀ f ∈ d.markFields, f.2 < 2 ^ f.1)
    (hw1 : c.w 1 = packed (d.reportFields p id tk)) (hw2 : c.w 2 = d.estimate d.time.tick) (hw3 : c.w 3 = packed d.markFields) :
    c.neighbor = { id := some id, state := 3, port := p, n := d.reg.n, m := d.reg.m, e := d.reg.e, timekeeper := tk, frames := d.time.n,
                   sysTime := d.estimate d.time.tick, mark := d.lastMark % 2 ^ 32, path := d.reg.path } := by
  have hvalid : bit (packed (d.reportFields p id tk)) 10 = true := bit_of_bits (bits_packed hreport 1 rfl rfl rfl)
  rw [Cell.neighbor, hw1, hw2, hw3, if_pos hvalid]
  rw [NeighborInfo.mk.injEq]
  exact ⟨congrArg some (bits_packed hreport 0 rfl rfl rfl), bits_packed hreport 2 rfl rfl rfl, bits_packed hreport 3 rfl rfl rfl,
    bits_packed hreport 4 rfl rfl rfl, bits_packed hreport 5 rfl rfl rfl, bits_packed hreport 6 rfl rfl rfl, bits_packed hreport 7 rfl rfl rfl,
    bits_packed hreport 8 rfl rfl rfl, rfl, bits_packed hmark 0 rfl rfl rfl, bits_packed hmark 1 rfl rfl rfl⟩

end

end Sys2Proof.Machine
end

section
/-! PROOFS. The fields of a header, and a NEIGHBOR cell as its receiver reads it (R322, R324). -/

namespace Sys2Proof.Machine

/-- Settles O60: a header and the words of a NEIGHBOR cell are packed from fields within their widths, and a packed field is read at its
bits. -/
theorem cellsAreReadAsTheyWereSent : Obligations.CellsAreReadAsTheyWereSent := by
  refine ⟨?header, ?neighbor⟩
  case header =>
    intro ty lseq len bcast origin dest seq hops ov words ok ht hl ho hd hh
    obtain ⟨htype, hlseq, hlen, hbcast, horigin, hdest, hseq, hhops, hvalid⟩ :=
      bears_of_header (c := { header := mkHeader ty lseq len bcast origin dest seq hops ov, words := words, crcOk := ok }) rfl ht hl ho hd hh
    exact ⟨htype, hlseq, hlen, hbcast, horigin, hdest, hseq, hhops, hvalid⟩
  case neighbor =>
    intro d p id tk hon hp hr hid hidlt htk htklt hn hm he hN hpath htime
    have hwords := Device.neighborWords_registered hr hid htk p
    have hbears : Bears (d.localCell p ctNEIGHBOR (d.neighborWords p)) ctNEIGHBOR _ 3 false id 0 _ 1 true :=
      d.localCell_bears hr hid hidlt (by decide) (by decide : 3 < 8)
    have hreport := Device.reportFields_fit (Nat.lt_trans hp (by decide)) hidlt htklt hn hm he hN
    have hmark := Device.markFields_fit hpath
    have hw1 : (d.localCell p ctNEIGHBOR (d.neighborWords p)).w 1 = packed (d.reportFields p id tk) := by
      rw [d.localCell_w (by rw [hwords]; rfl), packed_word hreport (by simp [fieldsWidth, Device.reportFields])]
    have hw2 : (d.localCell p ctNEIGHBOR (d.neighborWords p)).w 2 = d.estimate d.time.tick := by
      rw [d.localCell_w (by rw [hwords]; rfl), Nat.mod_eq_of_lt htime]
    have hw3 : (d.localCell p ctNEIGHBOR (d.neighborWords p)).w 3 = packed d.markFields := by
      rw [d.localCell_w (by rw [hwords]; rfl), packed_word hmark (by simp [fieldsWidth, Device.markFields])]
    rw [Device.neighborSend_on hon]
    exact ⟨_, d.sendLocal_sent .., hbears.isType (Nat.le_refl 3) (Nat.le_refl 3), d.localCell_crcOk .., hbears.bcast, hbears.origin, hbears.valid,
      hbears.hops, hbears.lseq, neighbor_of_words hreport hmark hw1 hw2 hw3⟩

end Sys2Proof.Machine
end

section
/-! PROOFS. PING and ECHO: the exchange between two ports that measures offset and delay (R331). -/

namespace Sys2Proof.Machine

@[simp] theorem Device.at_port (d : Device) (t k : Nat) : (d.at t).port k = d.port k := rfl

/-- The device that has stamped a PING: T1 is the estimate at its sending. -/
def Device.pinged (d : Device) (p t : Nat) : Device := (d.at t).setPort p { d.port p with pingAt := some (d.estimate t % 2 ^ 64) }

theorem Device.pingSend_up {d : Device} {p : Nat} (hon : d.zhepinOn = true) (hup : (d.port p).up = true) (t : Nat) :
    d.pingSend p t = (d.pinged p t).sendLocal p ctPING [d.estimate t % 2 ^ 64] := if_neg (by simp [hon, hup])

/-- The turnaround of an ECHO: the next free value (log 49). -/
theorem Device.pingCell_up {d : Device} {p : Port} {c : Cell} (h : d.Receives p c ctPING) (hup : (d.port p.val).up = true) (t : Nat) :
    d.pingCell p.val c t = (d.at t).free.2.sendLocal p.val ctECHO
      [c.w 1, d.estimate t % 2 ^ 64, (d.estimate t + (d.at t).free.1) % 2 ^ 64] :=
  Device.receive_linkLocal h (.inr (.inl rfl)) (.inl hup) t _

/-- A port with a completed exchange: the PING is answered, θ and δ are the newest of the last 4,096. -/
def ZPort.measured (x : ZPort) (e : Int × Int) : ZPort :=
  { x with pingAt := none, theta := (e.1 :: x.theta).take 4096, delta := (e.2 :: x.delta).take 4096 }

section
variable {d : Device} {p : Port} {c : Cell}

theorem Device.echoCell_up (h : d.Receives p c ctECHO) (hup : (d.port p.val).up = true) (t : Nat) : d.echoCell p.val c t =
    if (d.port p.val).pingAt ≠ some (c.w 1) then d.at t
    else
      let e := (d.at t).setPort p.val ((d.port p.val).measured (exchange (c.w 1) (c.w 2) (c.w 3) (d.estimate t % 2 ^ 64) (d.port p.val).trim))
      e.judgeAlign.regNotice e.reg :=
  Device.receive_linkLocal h (.inr (.inr rfl)) (.inl hup) t _

theorem Device.judgeAlign_elsewhere (h : d.reg.state ≠ .aligning) : d.judgeAlign = d := by
  unfold Device.judgeAlign
  split
  · next hs _ => exact absurd hs h
  · rfl

theorem Device.regNotice_self (d : Device) : d.regNotice d.reg = d := if_pos ⟨rfl, rfl, rfl⟩

/-- Off the ALIGNING state an exchange that completes changes its port alone. -/
theorem Device.echoCell_completes (h : d.Receives p c ctECHO) (hup : (d.port p.val).up = true) (ht : (d.port p.val).pingAt = some (c.w 1))
    (hs : d.reg.state ≠ .aligning) (t : Nat) : d.echoCell p.val c t =
    (d.at t).setPort p.val ((d.port p.val).measured (exchange (c.w 1) (c.w 2) (c.w 3) (d.estimate t % 2 ^ 64) (d.port p.val).trim)) := by
  have hoff : ∀ x, ((d.at t).setPort p.val x).judgeAlign = (d.at t).setPort p.val x := fun _ => Device.judgeAlign_elsewhere hs
  rw [Device.echoCell_up h hup, if_neg (by simp [ht])]
  dsimp only
  rw [hoff, Device.regNotice_self]

end

/-- The signed difference of two stamps less than 2^62. -/
theorem stamp_diff {x y : Nat} (hx : x < 2 ^ 62) (hy : y < 2 ^ 62) : toSigned 64 ((x + 2 ^ 64 - y % 2 ^ 64) % 2 ^ 64) = (x : Int) - y := by
  unfold toSigned
  split <;> omega

theorem exchange_eq {t1 t2 t3 t4 : Nat} (h1 : t1 < 2 ^ 62) (h2 : t2 < 2 ^ 62) (h3 : t3 < 2 ^ 62) (h4 : t4 < 2 ^ 62) (a : Int) :
    exchange t1 t2 t3 t4 a = (((t2 : Int) - t1) + ((t3 : Int) - t4) - 2 * a, ((t4 : Int) - t1) - ((t3 : Int) - t2)) := by
  simp only [exchange, stampMod, stamp_diff h2 h1, stamp_diff h3 h4, stamp_diff h4 h1, stamp_diff h3 h2]

/-- Settles O37: a PING and its ECHO as the cells that a port sends, the exchange as the differences of its stamps. -/
theorem exchangesMeasureOffsetAndDelay : Obligations.ExchangesMeasureOffsetAndDelay := by
  refine ⟨?ping, ?echo, ?completes, ?other, ?measure⟩
  case ping =>
    intro s p t hon hup
    refine yields_of_exec (f := fun d => d.pingSend p.val t) rfl ?_
    obtain ⟨sent, hport⟩ := (s.dev.pinged p.val t).sendLocal_port p.val ctPING [s.dev.estimate t % 2 ^ 64]
    have hstamp : ((s.dev.pinged p.val t).localCell p.val ctPING [s.dev.estimate t % 2 ^ 64]).w 1 = s.dev.estimate t % 2 ^ 64 := by
      rw [Device.localCell_w _ (i := 1) rfl, Nat.mod_mod]
    rw [Device.pingSend_up hon hup]
    refine ⟨_, Device.sendLocal_sent .., Device.localCell_type _ (by decide) (by decide : 1 < 8), ?_, hstamp, fun k hk => ?_⟩
    · rw [hport, hstamp, Device.pinged, Device.setPort_get]
    · rw [Device.sendLocal_port_ne _ _ _ _ hk, Device.pinged, Device.setPort_get_ne _ _ _ _ hk, Device.at_port]
  case echo =>
    intro s p c t h hup
    refine yields_of_exec (f := fun d => d.pingCell p.val c t) rfl ?_
    have hword : c.w 1 < 2 ^ 64 := BitVec.isLt _
    rw [Device.pingCell_up h hup]
    refine ⟨_, Device.sendLocal_sent .., Device.localCell_type _ (by decide) (by decide : 3 < 8), ?_, ?_, rfl⟩
    · rw [Device.localCell_w _ (i := 1) rfl, Nat.mod_eq_of_lt hword]
    · rw [Device.localCell_w _ (i := 2) rfl, Nat.mod_mod]
  case completes =>
    intro s p c t h hup ht hs
    refine yields_of_exec (f := fun d => d.echoCell p.val c t) rfl ?_
    rw [Device.echoCell_completes h hup ht hs, Device.setPort_get]
    exact ⟨rfl, rfl, rfl, fun k hk => Device.setPort_get_ne _ _ _ _ hk⟩
  case other =>
    intro s p c t h hup ht
    refine yields_of_exec (f := fun d => d.echoCell p.val c t) rfl ?_
    rw [Device.echoCell_up h hup, if_pos ht]
  case measure => exact fun t1 t2 t3 t4 a h1 h2 h3 h4 => exchange_eq h1 h2 h3 h4 a

end Sys2Proof.Machine
end

section
/-! PROOFS. REG_STATUS, FLT_STATUS, FLT_LOG, EL_STATUS, EL_DESCRIPTOR, MEM_DELAYS and MEM_STATUS answer (R346, R412, R416, R422). -/

namespace Sys2Proof.Machine

/-- An opcode that leaves the body alone leaves it so as its row. -/
theorem exec_keeps_body {row : Packet → Instr} {op : Op} (hx : ∀ p s, exec (row p) s = .next (s.onDevX fun d => d.submit op p)) {s : State}
    {p : Packet} {r : Ring} (ha : s.dev.Accepted op p r) (hr : s.dev.reg.state ≠ .registered)
    (h : (op.run (s.dev.commandOf op p r) (s.dev.takenBy op p r)).2.body = (s.dev.takenBy op p r).body) :
    ∃ t, exec (row p) s = .next t ∧ t.pending = s.pending ∧ t.dev.body = (s.dev.takenBy op p r).body :=
  ⟨_, hx p s, rfl, (State.submit_accepted_body ha hr).trans h⟩

section
variable {c : Cmd} {d : Device}

theorem runFltLog_accepted (hg : (runFltLog c d).1.good = true) : runFltLog c d =
    (.both [] stOK (le32 (d.flash.records (c.u32 0) (c.u32 4)).length ++ zeros 4 ++ (d.flash.records (c.u32 0) (c.u32 4)).flatten), d) :=
  checked_good (by simp) hg

theorem runElDescriptor_accepted (hg : (runElDescriptor c d).1.good = true) : runElDescriptor c d =
    ok d (tabGet [] (d.link c.idx).pages (c.u32 0)) :=
  checked_good (by simp [stNOT_READY, stOK, stJUMP_DEFERRED]) hg

/-! ### EL_STATUS (R178, R422) -/

/-- The status word and the skew figures of a link. -/
def Device.elPayload (d : Device) (l : Nat) (rt : Rat) : List Byte :=
  le32 (d.elWord l) ++ leF32 (ratToF32 ((rt - 50688 / 100) / 2)) ++ leF32 (ratToF32 rt) ++ leF32 (ratToF32 (d.link l).tu)

theorem runElStatus_measured (hr : (d.link c.idx).rts ≠ []) : runElStatus c d =
    ok (if c.opf = 1 then d.onLink c.idx fun x => { x with newFe := false, rtStep := false, feProt := false, misses := 0 } else d)
      (d.elPayload c.idx (d.link c.idx).rtf) := by
  have hsome : (d.link c.idx).rts.isEmpty = false := by simpa using hr
  simp [runElStatus, Device.skewBytes, hsome, Device.elPayload]

/-- The round trip of a link that has measured none is the next free value, and nothing else changes (log 6). -/
theorem Device.skewBytes_body (d : Device) (l : Nat) : (d.skewBytes l).2.body = d.body := by
  unfold Device.skewBytes
  dsimp only
  split <;> rfl

theorem runElStatus_body (ho : c.opf = 0) : (runElStatus c d).2.body = d.body := by
  have hkept : (runElStatus c d).2 = (d.skewBytes c.idx).2 := if_neg (by simp [ho])
  rw [hkept, Device.skewBytes_body]

/-! ### MEM_DELAYS and MEM_STATUS (R415, R416) -/

theorem runMemDelays_read (ho : c.opf = 0) (hg : (runMemDelays c d).1.good = true) : runMemDelays c d = ok d (d.memDev (c.u8 0)).delays := by
  have hrun : runMemDelays c d = checked d (memDelaysStatic c) (ok d (d.memDev (c.u8 0)).delays) := if_pos ho
  rw [hrun] at hg ⊢
  exact checked_good (by simp) hg

theorem run_memStatus (c : Cmd) (d : Device) : Op.memStatus.run c d = runMemStatus c d := rfl

/-- With no rebuild under way every record's progress figure is 0. -/
theorem runMemStatus_settled (h : ∀ m, (d.memDev m).state ≠ .rebuilding) : runMemStatus c d = ok d
    (le64 d.ready.region ++ leF32 (rateF32 d.mem.rate) ++ le32 (flag (!d.mem.jobs.isEmpty) 0 + flag d.mem.freq.isSome 1) ++
      ([0, 1, 2, 3, 4].map fun m => [BitVec.ofNat 8 (d.memDev m).state.code, 0] ++ le16 (d.memDev m).remap.length ++
        le32 (d.memDev m).corrected ++ le32 (d.memDev m).reconstructed ++ leF32 (ratToF32 0)).flatten) := by
  have hzero : (((0 % 1048577 : Nat) : Rat) / 1048576) = 0 := by decide +kernel
  simp only [runMemStatus, show memDevices = [0, 1, 2, 3, 4] from rfl, List.foldl_cons, List.foldl_nil, if_neg (h _), hzero, List.nil_append,
    List.map_cons, List.map_nil, List.flatten_cons, List.flatten_nil, List.append_nil, List.append_assoc]

/-- The progress of each rebuild takes the next free value, and nothing else changes (log 6). -/
theorem runMemStatus_body (c : Cmd) (d : Device) : (runMemStatus c d).2.body = d.body := by
  unfold runMemStatus
  dsimp only [ok]
  refine List.foldlRecOn memDevices _ (motive := fun acc : List Byte × Device => acc.2.body = d.body) rfl fun acc hacc m _ => ?_
  dsimp only
  split <;> exact hacc

end

/-- Settles O3: each query by what its opcode answers. -/
theorem serviceQueriesAnswer : Obligations.ServiceQueriesAnswer := by
  refine ⟨?regStatus, ?fltStatus, ?fltLog, ?elStatus, ?elClear, ?elDescriptor, ?memDelays, ?memStatus, ?rebuilding, ?unmeasured⟩
  case regStatus => exact completes_of_run (fun _ _ => rfl) fun _ _ _ _ _ => rfl
  case fltStatus => exact completes_of_run (fun _ _ => rfl) fun _ _ _ _ _ => rfl
  case fltLog => exact completes_of_run (fun _ _ => rfl) fun _ _ _ _ hg => runFltLog_accepted hg
  case elStatus =>
    exact completes_of_run (fun _ _ => rfl) fun c d _ ⟨ho, hr⟩ _ => (runElStatus_measured hr).trans (by rw [if_neg (by simp [ho])]; rfl)
  case elClear =>
    exact completes_of_run (fun _ _ => rfl) fun c d _ ⟨ho, hr⟩ _ => (runElStatus_measured hr).trans (by rw [if_pos ho]; rfl)
  case elDescriptor => exact completes_of_run (fun _ _ => rfl) fun _ _ _ _ hg => runElDescriptor_accepted hg
  case memDelays => exact completes_of_run (fun _ _ => rfl) fun _ _ _ ho hg => runMemDelays_read ho hg
  case memStatus =>
    exact completes_of_run (fun _ _ => rfl) fun c d _ h _ => (run_memStatus c d).trans (runMemStatus_settled h)
  case rebuilding =>
    exact fun s p r ha hr => exec_keeps_body (fun _ _ => rfl) ha hr ((congrArg (fun x => x.2.body) (run_memStatus ..)).trans (runMemStatus_body ..))
  case unmeasured => exact fun s p r ha hr ho => exec_keeps_body (fun _ _ => rfl) ha hr (runElStatus_body ho)

end Sys2Proof.Machine
end

section
/-! PROOFS. EVENT and ARM cells: events visible in the next frame, arms loaded, cancelled or late (R337..R340). -/

namespace Sys2Proof.Machine

/-! ### Arm slots (R339) -/

section
variable (d : Device) (i : Nat) (a : Option ArmSlot)

@[simp] theorem Device.setArm_get : (d.setArm i a).arm? i = a := by simp [Device.arm?, Device.setArm]

theorem Device.setArm_get_ne {k : Nat} (h : k ≠ i) : (d.setArm i a).arm? k = d.arm? k := tabGet_set_ne _ _ _ _ _ h.symm

end

/-- Notices leave the arms and the registration as they were. -/
theorem Device.arms_of_body {d e : Device} (h : e.body = d.body) : e.arms = d.arms := (congrArg Device.arms h :)
theorem Device.reg_of_body {d e : Device} (h : e.body = d.body) : e.reg = d.reg := (congrArg Device.reg h :)

section
variable {d : Device} {p : Port} {c : Cell}

/-! ### EVENT cells (R337, R338) -/

/-- The events that a cell's mask names, under the origin's stamp, visible from the next frame. -/
def Device.cellEvents (d : Device) (c : Cell) : List EvRec :=
  ((List.range 256).filter fun i => bit (c.w (2 + i / 64)) (i % 64)).map fun i =>
    { ev := 640 + i, stamp := c.w 1 / 16, visible := d.time.frame + 1, win := d.nextTick - 1 }

/-- Is a cell of that stamp late on this device. -/
def Device.lateAt (d : Device) (stamp : Nat) : Bool := d.reg.state == .registered && decide (stamp + 48000 < d.time.now)

theorem Device.eventCell_new (h : d.Broadcasts p c ctEVENT) (t : Nat) : d.eventCell p.val c t =
    let e := (d.at t).heard c
    { e with
      events := d.events ++ d.cellEvents c
      reg := { e.reg with lateEvents := sat32 (d.reg.lateEvents + if (d.at t).lateAt (c.w 1 / 16) then 1 else 0) } } :=
  Device.receive_broadcast h (by decide) t _

/-! ### ARM cells (R340) -/

/-- The device that has counted a late arm. -/
def Device.countLateArm (d : Device) : Device := { d with reg := { d.reg with lateArms := sat32 (d.reg.lateArms + 1) } }

/-- What a REGISTERED device makes of an ARM cell. -/
def Device.armTaken (d : Device) (c : Cell) : Device :=
  let slot := bits (c.w 2) 3 0
  if bit (c.w 2) 22 then d.setArm slot none
  else if c.w 1 / 16 ≤ d.nextTick then
    d.countLateArm.notice 0 6 0 d.time.now (le32 d.countLateArm.regWord ++ [BitVec.ofNat 8 (1 + 16 * slot)])
  else d.setArm slot (some { d := c.w 1 / 16, mask := bits (c.w 2) 19 4, release := bit (c.w 2) 20, event := bit (c.w 2) 21 })

theorem Device.armCell_new (h : d.Broadcasts p c ctARM) (t : Nat) : d.armCell p.val c t =
    if d.reg.state ≠ .registered then (d.at t).heard c else ((d.at t).heard c).armTaken c :=
  Device.receive_broadcast h (by decide) t _

theorem Device.armTaken_cancels (h : bit (c.w 2) 22 = true) : d.armTaken c = d.setArm (bits (c.w 2) 3 0) none := if_pos h

/-- A late arm is discarded, counted and told. -/
theorem Device.armTaken_late (h : bit (c.w 2) 22 = false) (hd : c.w 1 / 16 ≤ d.nextTick) :
    (d.armTaken c).arms = d.arms ∧ (d.armTaken c).reg.lateArms = sat32 (d.reg.lateArms + 1) := by
  have hbody : (d.armTaken c).body = d.countLateArm.body := by
    simp only [Device.armTaken, h, Bool.false_eq_true, if_false, if_pos hd, Device.notice_body]
  exact ⟨(Device.arms_of_body hbody).trans rfl, (congrArg RegUnit.lateArms (Device.reg_of_body hbody)).trans rfl⟩

theorem Device.armTaken_loads (h : bit (c.w 2) 22 = false) (hd : d.nextTick < c.w 1 / 16) : d.armTaken c = d.setArm (bits (c.w 2) 3 0)
    (some { d := c.w 1 / 16, mask := bits (c.w 2) 19 4, release := bit (c.w 2) 20, event := bit (c.w 2) 21 }) := by
  simp only [Device.armTaken, h, Bool.false_eq_true, if_false, if_neg (Nat.not_le.mpr hd)]

/-- An ARM cell touches no slot but the one that it names. -/
theorem Device.armTaken_others {k : Nat} (hk : k ≠ bits (c.w 2) 3 0) : (d.armTaken c).arm? k = d.arm? k := by
  cases hcancel : bit (c.w 2) 22 with
  | true => rw [Device.armTaken_cancels hcancel, Device.setArm_get_ne _ _ _ hk]
  | false =>
    by_cases hdue : c.w 1 / 16 ≤ d.nextTick
    · exact congrArg (tabGet none · k) (Device.armTaken_late hcancel hdue).1
    · rw [Device.armTaken_loads hcancel (by omega), Device.setArm_get_ne _ _ _ hk]

end

/-- Settles O39: what the receiver of a new broadcast makes of an EVENT and of an ARM cell. -/
theorem eventAndArmCellsArrive : Obligations.EventAndArmCellsArrive := by
  refine ⟨?event, ?arm, ?unregistered⟩
  case event =>
    intro s p c t h
    refine yields_of_exec (f := fun d => d.eventCell p.val c t) rfl ?_
    rw [Device.eventCell_new h]
    refine ⟨rfl, rfl, rfl, fun hr hlate => ?_, fun hnot => ?_⟩
    · have hlate : (s.dev.at t).lateAt (c.w 1 / 16) = true := by simp [Device.lateAt, hr, hlate]
      simp [hlate]
    · have hlate : (s.dev.at t).lateAt (c.w 1 / 16) = false := by simp [Device.lateAt, hnot]
      simp [hlate]
  case arm =>
    intro s p c t h hr
    refine yields_of_exec (f := fun d => d.armCell p.val c t) rfl ?_
    rw [Device.armCell_new h, if_neg fun hne => hne hr]
    refine ⟨fun k hk => Device.armTaken_others hk, fun hcancel => ?_, fun hcancel hdue => ?_, fun hcancel hdue => ?_⟩
    · rw [Device.armTaken_cancels hcancel, Device.setArm_get]
    · obtain ⟨harms, hcount⟩ := Device.armTaken_late (d := (s.dev.at t).heard c) hcancel hdue
      exact ⟨congrArg (tabGet none · _) harms, hcount⟩
    · rw [Device.armTaken_loads (d := (s.dev.at t).heard c) hcancel hdue, Device.setArm_get]
  case unregistered =>
    intro s p c t h hr
    refine yields_of_exec (f := fun d => d.armCell p.val c t) rfl ?_
    rw [Device.armCell_new h, if_pos hr]
    rfl

end Sys2Proof.Machine
end

section
/-! PROOFS. Zhepin ports: NEIGHBOR cells, ports that come up and fall, the device's own report and cells asked for again (R323, R324). -/

namespace Sys2Proof.Machine

/-! ### Notices leave PF_WORD's bits below that of the pointers as they were (R440, R472) -/

theorem bit_setBit_of_lt {k b : Nat} (h : k < b) (w : Nat) : bit (setBit w b) k = bit w k := by
  unfold setBit
  split
  · rfl
  · rw [bit_eq_testBit, bit_eq_testBit, Nat.add_comm, Nat.testBit_two_pow_add_gt h]

theorem Device.raiseErrAs_pf (d : Device) (e : ErrEvent) (t : Nat) (ov : Option Nat) (c : Nat) :
    (d.raiseErrAs e t ov c).flt.pf = if (d.shadowOf e).isSome then d.flt.pf else setBit d.flt.pf e.bit.val := by
  unfold Device.raiseErrAs
  simp only [apply_ite Device.flt, apply_ite Proofreader.pf, Device.journal_flt_pf, Device.setEngine_flt, ite_self]

section
variable (d : Device)

theorem Device.msi_flt (f v : Nat) : (d.msi f v).flt = d.flt := by
  unfold Device.msi
  split <;> rfl

theorem Device.cause_flt (f b : Nat) : (d.cause f b).flt = d.flt := by
  unfold Device.cause
  dsimp only
  split
  · exact Device.msi_flt ..
  · rfl

theorem Device.ringPut_flt (r : Ring) (p : Nat) (l : List Byte) (host : Bool) : (d.ringPut r p l host).flt = d.flt := rfl

theorem Device.produceRaw_flt (q : Nat) (l : List Byte) (n : Nat) (irq : Bool) : (d.produceRaw q l n irq).1.flt = d.flt := by
  unfold Device.produceRaw
  split
  · rfl
  · split
    · simp only [apply_ite Device.flt, Device.msi_flt, Device.setRing_flt, Device.ringPut_flt, ite_self]
    · dsimp only
      split
      · rw [Device.cause_flt, Device.setRing_flt]
      · rw [Device.setRing_flt]

theorem Device.mismatchReset_pf {k : Nat} (hk : k < 58) (q : Nat) (inj real : Bool) :
    bit (d.mismatchReset q inj real).flt.pf k = bit d.flt.pf k := by
  unfold Device.mismatchReset
  split
  · rfl
  · dsimp only [Device.raiseErr]
    rw [Device.raiseErrAs_pf]
    split
    · rfl
    · exact bit_setBit_of_lt hk _

theorem Device.notice_pf {k : Nat} (hk : k < 58) (f kind i stamp : Nat) (l : List Byte) :
    bit (d.notice f kind i stamp l).flt.pf k = bit d.flt.pf k := by
  unfold Device.notice
  dsimp only
  split
  · rfl
  · next r _ =>
    simp only [apply_ite Device.flt, Device.cause_flt, Device.produceRaw_flt, ite_self, Device.setFn_flt]
    split
    · exact d.mismatchReset_pf hk _ _ _
    · rfl

theorem Device.regNotice_body (old : RegUnit) : (d.regNotice old).body = d.body := by
  unfold Device.regNotice
  split
  · rfl
  · exact Device.notice_body ..

theorem Device.regNotice_pf {k : Nat} (hk : k < 58) (old : RegUnit) : bit (d.regNotice old).flt.pf k = bit d.flt.pf k := by
  unfold Device.regNotice
  split
  · rfl
  · exact d.notice_pf hk ..

/-! ### The time parent (R332) -/

/-- Choosing a time parent changes the parent, the path length and the run of better reports. -/
theorem Device.chooseParent_eq (p : Nat) : ∃ parent path better,
    d.chooseParent p = { d with reg := { d.reg with parent := parent, path := path, better := better } } := by
  unfold Device.chooseParent
  dsimp only
  repeat' split
  all_goals exact ⟨_, _, _, rfl⟩

theorem Device.chooseParent_port (p k : Nat) : (d.chooseParent p).port k = d.port k := by
  obtain ⟨_, _, _, h⟩ := d.chooseParent_eq p
  rw [h]
  rfl

theorem Device.chooseParent_flt (p : Nat) : (d.chooseParent p).flt = d.flt := by
  obtain ⟨_, _, _, h⟩ := d.chooseParent_eq p
  rw [h]

theorem Device.chooseParent_chans (p : Nat) : (d.chooseParent p).chans = d.chans := by
  obtain ⟨_, _, _, h⟩ := d.chooseParent_eq p
  rw [h]

theorem Device.chooseParent_state (p : Nat) : (d.chooseParent p).reg.state = d.reg.state := by
  obtain ⟨_, _, _, h⟩ := d.chooseParent_eq p
  rw [h]

theorem Device.port_of_body {d e : Device} (h : e.body = d.body) (k : Nat) : e.port k = d.port k :=
  (congrArg (fun x : Device => x.port k) h :)

end

/-! ### NEIGHBOR cells (R323, R324) -/

/-- A port that is UP with its neighbour's report of an instant. -/
def ZPort.reporting (x : ZPort) (i : NeighborInfo) (now : Nat) : ZPort := { x with up := true, last := some i, lastAt := now }

/-- The device with a neighbour's report: its port is UP, and of a REGISTERED neighbour it takes the timekeeper's ID. -/
def Device.reported (d : Device) (p : Nat) (i : NeighborInfo) : Device :=
  let e := d.setPort p ((d.port p).reporting i d.time.now)
  { e with reg := { e.reg with tkId := if i.state = 3 && !d.reg.isKeeper then some i.timekeeper else e.reg.tkId } }

theorem Device.reported_port (d : Device) (p : Nat) (i : NeighborInfo) :
    (d.reported p i).port p = (d.port p).reporting i d.time.now := Device.setPort_get d p ((d.port p).reporting i d.time.now)

theorem Device.reported_port_ne (d : Device) {p k : Nat} (h : k ≠ p) (i : NeighborInfo) : (d.reported p i).port k = d.port k :=
  Device.setPort_get_ne d p k ((d.port p).reporting i d.time.now) h

section
variable {d : Device} {p : Port} {c : Cell}

theorem Device.neighborCell_received (h : d.Receives p c ctNEIGHBOR) (t : Nat) : d.neighborCell p.val c t =
    if !(d.port p.val).up && decide ((d.at t).time.now < (d.port p.val).validFrom + 2622) then d.at t
    else
      let e := (d.at t).reported p.val c.neighbor
      ((e.judgeN.judgeJoin.chooseParent p.val).tryMark).regNotice e.reg :=
  Device.receive_linkLocal h (.inl rfl) (.inr rfl) t _

theorem Device.judgeN_unregistered (h : d.reg.state ≠ .registered) : d.judgeN = d := if_pos h

theorem Device.judgeJoin_elsewhere (h : d.reg.state ≠ .joining) : d.judgeJoin = d := if_pos (by simp [h])

theorem Device.tryMark_elsewhere (h : d.reg.state ≠ .joining) : d.tryMark = d := by
  unfold Device.tryMark
  dsimp only
  split
  · exact if_neg (by simp [h])
  · rfl

/-- Off the REGISTERED state no role changes, so that no notice is written. -/
theorem Device.regNotice_unregistered {old : RegUnit} (h : d.reg.state = old.state) (hs : old.state ≠ .registered) : d.regNotice old = d := by
  have hold : (old.state == .registered) = false := beq_eq_false_iff_ne.mpr hs
  exact if_pos ⟨h, by simp [RegUnit.isKeeper, h, hold], by simp [RegUnit.inHoldover, h, hold]⟩

/-- An UNJOINED device keeps the report and has no time parent. -/
theorem Device.neighborCell_unjoined (h : d.Receives p c ctNEIGHBOR) (hs : d.reg.state = .unjoined) (t : Nat)
    (hv : (d.port p.val).validFrom + 2622 ≤ (d.at t).time.now) :
    d.neighborCell p.val c t = ((d.at t).reported p.val c.neighbor).chooseParent p.val := by
  have hstate : ((d.at t).reported p.val c.neighbor).reg.state = .unjoined := hs
  have hchosen : (((d.at t).reported p.val c.neighbor).chooseParent p.val).reg.state = .unjoined := (Device.chooseParent_state ..).trans hs
  rw [Device.neighborCell_received h, if_neg (by simp [Nat.not_lt.mpr hv])]
  dsimp only
  rw [Device.judgeN_unregistered (by simp [hstate]), Device.judgeJoin_elsewhere (by simp [hstate]),
    Device.tryMark_elsewhere (by simp [hchosen]), Device.regNotice_unregistered (hchosen.trans hstate.symm) (by simp [hstate])]

theorem Device.le_at (d : Device) (t : Nat) : d.time.now ≤ (d.at t).time.now := by
  simp only [Device.at]
  omega

end

/-! ### A port that goes DOWN (R323, R347) -/

/-- A port that is DOWN. -/
def ZPort.fallen (x : ZPort) : ZPort := { x with up := false, last := none, pingAt := none }

/-- Was the far end of a port REGISTERED. -/
def ZPort.farRegistered (x : ZPort) : Bool := match x.last with | some i => i.state == 3 | none => false

/-- The device with a port that has fallen: bit 55 is raised where the far end was REGISTERED. -/
def Device.portFallen (d : Device) (p : Nat) : Device :=
  let e := d.setPort p (d.port p).fallen
  if (d.port p).up && (d.port p).farRegistered then e.raiseErr (errAt 55 0 8 none) e.time.now else e

section
variable (d : Device) (p : Nat)

theorem Device.portDown_eq : d.portDown p = ((d.portFallen p).chooseParent p).regNotice d.reg := rfl

theorem Device.portFallen_reg : (d.portFallen p).reg = (d.setPort p (d.port p).fallen).reg := by
  unfold Device.portFallen
  dsimp only
  split
  · exact Device.raiseErrAs_reg ..
  · rfl

theorem Device.portDown_port (k : Nat) : (d.portDown p).port k = (d.setPort p (d.port p).fallen).port k := by
  rw [Device.portDown_eq, Device.port_of_body (Device.regNotice_body ..), Device.chooseParent_port]
  exact congrArg (fun r : RegUnit => tabGet {} r.ports k) (d.portFallen_reg p)

theorem Device.portDown_port_self : (d.portDown p).port p = (d.port p).fallen := by
  rw [Device.portDown_port, Device.setPort_get]

theorem Device.portDown_port_ne {k : Nat} (hk : k ≠ p) : (d.portDown p).port k = d.port k := by
  rw [Device.portDown_port, Device.setPort_get_ne _ _ _ _ hk]

theorem Device.portDown_chans : (d.portDown p).chans = d.chans := by
  rw [Device.portDown_eq, Device.chans_of_body (Device.regNotice_body ..), Device.chooseParent_chans]
  unfold Device.portFallen
  dsimp only
  split
  · exact Device.raiseErr_chans ..
  · rfl

/-- A port that falls under a REGISTERED neighbour raises bit 55. -/
theorem Device.portDown_raises {i : NeighborInfo} (hup : (d.port p).up = true) (hl : (d.port p).last = some i) (hi : i.state = 3) :
    bit (d.portDown p).flt.pf 55 = true := by
  have hfar : ((d.port p).up && (d.port p).farRegistered) = true := by simp [hup, ZPort.farRegistered, hl, hi]
  rw [Device.portDown_eq, Device.regNotice_pf _ (by decide), Device.chooseParent_flt, Device.portFallen, if_pos hfar,
    (Device.raiseErr_records _ none _ (by decide) (by decide) (by decide)).pf]
  exact bit_setBit ..

variable {d p}

theorem Device.neighborTimeout_up (hon : d.zhepinOn = true) (hup : (d.port p).up = true) : d.neighborTimeout p = d.portDown p :=
  if_pos (by simp [hon, hup])

theorem Device.neighborTimeout_down (hup : (d.port p).up = false) : d.neighborTimeout p = d := if_neg (by simp [hup])

/-- The device with the count of valid headers on a port begun anew. -/
def Device.recounted (d : Device) (p t : Nat) : Device := (d.at t).setPort p { d.port p with validFrom := (d.at t).time.now }

theorem Device.invalidHeaders_up (hon : d.zhepinOn = true) (hup : (d.port p).up = true) (t : Nat) :
    d.invalidHeaders p t = (d.recounted p t).portDown p := by
  have hport : ((d.recounted p t).port p).up = true := (congrArg ZPort.up (Device.setPort_get ..)).trans hup
  exact (if_neg (by simp [hon])).trans (if_pos hport)

/-! ### Cells asked for again (R323) -/

theorem Device.resendCell_named {c : Cell} (hon : d.zhepinOn = true) (hup : (d.port p).up = true) (hc : c.crcOk = true) (ht : c.type = ctRESEND)
    (hw : c.words = []) : d.resendCell p c = { d with reg := { d.reg with
      sent := (((d.port p).sent.dropWhile fun x => decide (x.1 ≠ c.lseq)).map fun x => (p, x.2)).reverse ++ d.reg.sent } } :=
  if_neg (by simp [hon, hup, hc, ht, hw])

end

/-- Settles O36: each row by the equation of the operation that it applies. -/
theorem portsFollowTheirNeighbours : Obligations.PortsFollowTheirNeighbours := by
  refine ⟨?report, ?early, ?timeout, ?quiet, ?invalid, ?send, ?resend⟩
  case report =>
    intro s p c t hheld h hs hv
    refine yieldsCells_of_exec (f := fun d => d.neighborCell p.val c t) rfl hheld ?_
    rw [Device.neighborCell_unjoined h hs t (Nat.le_trans hv (s.dev.le_at t)), Device.chooseParent_port, Device.chooseParent_state,
      Device.chooseParent_flt, Device.reported_port]
    exact ⟨rfl, rfl, rfl, fun k hk => (Device.chooseParent_port ..).trans (Device.reported_port_ne _ hk _), hs, rfl⟩
  case early =>
    intro s p c t hheld h hup hv
    refine yieldsCells_of_exec (f := fun d => d.neighborCell p.val c t) rfl hheld ?_
    rw [Device.neighborCell_received h, if_pos (by simp [hup, hv])]
  case timeout =>
    intro s p hheld hon hup
    refine yieldsCells_of_exec (f := fun d => d.neighborTimeout p.val) rfl hheld ?_
    rw [Device.neighborTimeout_up hon hup, Device.portDown_port_self]
    exact ⟨rfl, rfl, rfl, fun k hk => Device.portDown_port_ne _ _ hk, fun i hl hi => Device.portDown_raises _ _ hup hl hi,
      Device.portDown_chans ..⟩
  case quiet =>
    intro s p hheld hup
    exact yieldsCells_of_exec (f := fun d => d.neighborTimeout p.val) rfl hheld (Device.neighborTimeout_down hup)
  case invalid =>
    intro s p t hheld hon hup
    refine yieldsCells_of_exec (f := fun d => d.invalidHeaders p.val t) rfl hheld ?_
    have hport : (s.dev.recounted p.val t).port p.val = _ := Device.setPort_get ..
    rw [Device.invalidHeaders_up hon hup, Device.portDown_port_self, hport]
    refine ⟨rfl, rfl, fun i hl hi => Device.portDown_raises _ _ ?_ ?_ hi⟩
    · rw [hport, hup]
    · rw [hport, hl]
  case send =>
    intro s p hon
    refine yields_of_exec (f := fun d => d.neighborSend p.val) rfl ?_
    obtain ⟨sent, hport⟩ := s.dev.sendLocal_port p.val ctNEIGHBOR (s.dev.neighborWords p.val)
    rw [Device.neighborSend_on hon]
    exact ⟨_, Device.sendLocal_sent .., Device.localCell_type _ (by decide) (by decide : 3 < 8), rfl,
      Device.localCell_lseq _ (by decide : 3 < 8), congrArg ZPort.txSeq hport, fun k hk => Device.sendLocal_port_ne _ _ _ _ hk,
      Device.sendLocal_time ..⟩
  case resend =>
    intro s p c l hon hup hc ht hw hl
    refine yields_of_exec (f := fun d => d.resendCell p.val c) rfl ?_
    rw [Device.resendCell_named hon hup hc ht hw, hl]

end Sys2Proof.Machine
end

section
/-! PROOFS. The outputs after every command: FAULT_N, EVT_N, SMB_ALERT_N and VF_INT_SUMMARY (R353..R355, R538), and FAULTN_CTRL (R354). -/

namespace Sys2Proof.Machine

/-! ### The outputs in step with the rest (R353..R355, R538) -/

theorem Device.running_iff_ne (d : Device) : d.running = true ↔ d.mode.phase ≠ .off ∧ d.mode.phase ≠ .held := by
  rw [Device.running_iff, not_or]

theorem Device.faultDrive_iff (d : Device) :
    d.faultDrive = true ↔ d.mode.phase ≠ .off ∧ d.mode.phase ≠ .held ∧ (d.aon.force = true ∨ d.flt.pf ≠ 0) := by
  simp only [Device.faultDrive, Bool.and_eq_true, Device.running_iff_ne, Bool.or_eq_true, decide_eq_true_eq, and_assoc]

/-- The outputs agree with the state, as the statements say it. -/
structure Device.OutputsFollow (d : Device) : Prop where
  faultN : d.pins.faultN = true ↔ d.mode.phase ≠ .off ∧ d.mode.phase ≠ .held ∧ (d.aon.force = true ∨ d.flt.pf ≠ 0)
  evtN : d.pins.evtN = true ↔ d.mode.phase ≠ .off ∧ d.mode.phase ≠ .held ∧ (d.fn 0).evtn = true ∧
    ((d.fn 0).intStatus &&& (d.fn 0).intMask) % 32 ≠ 0
  smbAlertN : d.pins.smbAlertN = true ↔ d.mode.phase ≠ .off ∧ d.mode.phase ≠ .held ∧
    (d.aon.force = true ∨ d.flt.pf ≠ 0 ∨ d.imp.die.state ≠ 0)
  vfSummary : d.pins.vfSummary =
    d.fns.foldl (fun w f => w + (if (f.2.intStatus &&& f.2.intMask) % 32 = 0 then 0 else 2 ^ f.1)) 0

theorem flag_pendingInt (f : HostFn) (k : Nat) : flag f.pendingInt k = if (f.intStatus &&& f.intMask) % 32 = 0 then 0 else 2 ^ k := by
  simp [flag, HostFn.pendingInt]

/-- Bringing the outputs into step makes them follow. -/
theorem Device.settle_outputsFollow (d : Device) : d.settle.OutputsFollow where
  faultN := d.faultDrive_iff
  evtN := by
    show (d.running && (d.fn 0).evtn && (d.fn 0).pendingInt) = true ↔ _
    simp only [Bool.and_eq_true, Device.running_iff_ne, HostFn.pendingInt, decide_eq_true_eq, and_assoc]
    rfl
  smbAlertN := by
    show (d.running && (d.faultDrive || decide (d.imp.die.state ≠ 0))) = true ↔ _
    rw [Bool.and_eq_true, Bool.or_eq_true, Device.running_iff_ne, Device.faultDrive_iff, decide_eq_true_eq]
    show _ ↔ d.mode.phase ≠ .off ∧ d.mode.phase ≠ .held ∧ (d.aon.force = true ∨ d.flt.pf ≠ 0 ∨ d.imp.die.state ≠ 0)
    exact ⟨fun ⟨⟨hoff, hheld⟩, h⟩ => ⟨hoff, hheld, h.elim (fun ⟨_, _, hdrive⟩ => hdrive.imp_right Or.inl) fun hdie => Or.inr (Or.inr hdie)⟩,
      fun ⟨hoff, hheld, h⟩ => ⟨⟨hoff, hheld⟩, h.elim (fun hforce => Or.inl ⟨hoff, hheld, Or.inl hforce⟩) fun h =>
        h.imp_left fun hpf => ⟨hoff, hheld, Or.inr hpf⟩⟩⟩
  vfSummary := by
    show d.fns.foldl (fun s f => s + flag f.2.pendingInt f.1) 0 = _
    simp only [flag_pendingInt]
    rfl

theorem exec_outputsFollow {c : Instr} {s t : State} (h : exec c s = .next t) : t.dev.OutputsFollow := by
  obtain ⟨d, hd⟩ := exec_settles c s
  obtain rfl := Host.Outcome.next.inj (hd.symm.trans h)
  exact d.settle_outputsFollow

/-- A step keeps the outputs in step: a command brings them into step, an empty queue leaves all as it is. -/
theorem step_outputsFollow {s t : State} (hs : s.dev.OutputsFollow) (h : step s = .next t) : t.dev.OutputsFollow := by
  unfold step at h
  split at h
  · obtain rfl := Host.Outcome.next.inj h
    exact hs
  · exact exec_outputsFollow h

/-- Settles O52: every command ends by bringing the outputs into step, and a step on an empty queue changes nothing. -/
theorem outputsFollowEveryStep : Obligations.OutputsFollowEveryStep := by
  intro s t ⟨hfaultN, hevtN, hsmbAlertN, hvfSummary⟩ h
  obtain ⟨tfaultN, tevtN, tsmbAlertN, tvfSummary⟩ := step_outputsFollow ⟨hfaultN, hevtN, hsmbAlertN, hvfSummary⟩ h
  exact ⟨tfaultN, tevtN, tsmbAlertN, tvfSummary⟩

/-- Settles O50: every command answers a next state, which differs from the old one in its device alone. -/
theorem everyCommandAnswersANextState : Obligations.EveryCommandAnswersANextState := by
  intro c s
  obtain ⟨d, hd⟩ := exec_settles c s
  exact ⟨_, hd, rfl⟩

/-! ### FAULTN_CTRL (R354) -/

/-- FAULTN_CTRL's bits by their place. -/
theorem flags3_bits (a b c : Bool) : flag a 0 + flag b 1 + flag c 2 < 8 ∧ bit (flag a 0 + flag b 1 + flag c 2) 0 = a ∧
    bit (flag a 0 + flag b 1 + flag c 2) 1 = b ∧ bit (flag a 0 + flag b 1 + flag c 2) 2 = c := by
  revert a b c; decide

/-- A write of FAULTN_CTRL reaches FORCE alone, and from the physical function alone (R353, R354). -/
theorem Device.faultnWrite_force (d : Device) (f v : Nat) :
    (d.faultnWrite f v).aon.force = (if f = 0 then bit v 0 else d.aon.force) ∧ (d.faultnWrite f v).flt = d.flt := by
  unfold Device.faultnWrite
  split <;> exact ⟨rfl, rfl⟩

theorem exec_faultnCtrlWrite {s : State} (f : Fin 64) (v : BitVec 32) (hc : s.dev.Calm) (hu : s.dev.pcieUp = true) (hr : s.dev.running = true) :
    exec (.faultnCtrlWrite f v) s = .next { s with dev := (s.dev.faultnWrite f.val v.toNat).settle } := by
  show Host.Outcome.next (s.onHost fun d => d.faultnWrite f.val v.toNat) = _
  simp only [State.onHost, State.onDevX, Device.follow_calm hc, hu, hr, Bool.and_self, if_true]

/-- Settles O53: FAULTN_CTRL by its bits, FAULT_N by the outputs that every command brings into step. -/
theorem faultnFollowsItsControl : Obligations.FaultnFollowsItsControl := by
  refine ⟨fun d => flags3_bits .., fun c s t h => (exec_outputsFollow h).faultN, ?write, rfl, rfl⟩
  case write =>
    intro s f v hheld hreg hu hr
    obtain ⟨hforce, hflt⟩ := s.dev.faultnWrite_force f.val v.toNat
    exact ⟨_, exec_faultnCtrlWrite f v ⟨hheld, hreg⟩ hu hr, hforce, hflt⟩

end Sys2Proof.Machine
end

section
/-! PROOFS. A refused command changes nothing (R362, R363). -/

namespace Sys2Proof.Machine

/-! ### What a failing check of the packet leaves (R362, R363) -/

section
variable {d : Device} {op : Op} {p : Packet} {r : Ring} {st : Nat} {pl : List Byte}

theorem Device.takenBy_final_body (c : Cmd) : ((d.takenBy op p r).final c.env st pl).body = (d.at p.at_).body := by
  rw [Device.final_body, Device.takenBy_body]

/-- One of the header's checks fails: that failure is the reply. -/
theorem Device.submit_headFail (hs : d.Starts op p r)
    (hf : firstFail ((d.takenBy op p r).headChecks op (d.commandOf op p r) p.body (bodyLengthOk p.body)) = some (st, pl)) :
    d.submit op p = (d.takenBy op p r).final (d.commandOf op p r).env st pl := by
  rw [Device.submit_starts hs]
  simp only [Device.proceed, hf]

/-- A check of the state fails where the command is carried out: that failure is the reply. -/
theorem Device.carryOut_stateFail {c : Cmd} (hf : firstFail (d.stateChecks op c) = some (st, pl)) :
    d.carryOut op c = d.final c.env st pl := by
  simp only [Device.carryOut, checked, hf, refuse, Device.answer]

theorem Device.submit_stateFail (hs : d.Starts op p r)
    (hhead : firstFail ((d.takenBy op p r).headChecks op (d.commandOf op p r) p.body (bodyLengthOk p.body)) = none)
    (hnow : ¬((d.arrived p).time.now < (d.commandOf op p r).nb ∧ (!op.leads) = true))
    (hf : firstFail ((d.takenBy op p r).stateChecks op (d.commandOf op p r)) = some (st, pl)) :
    d.submit op p = (d.takenBy op p r).final (d.commandOf op p r).env st pl := by
  rw [Device.submit_starts hs]
  simp only [Device.proceed, hhead, if_neg hnow, Device.carryOut_stateFail hf]

/-- No packet is taken in OFF or HELD. -/
theorem Device.submit_notRunning (h : d.running = false) : d.submit op p = d.at p.at_ := by
  have hr : (d.at p.at_).running = false := h
  unfold Device.submit
  simp only [hr, Bool.false_eq_true, if_false, Bool.not_false, Bool.or_true, if_true]
  split <;> rfl

end

/-! ### What an opcode's own refusal leaves (R363) -/

/-- An opcode's result that, where it refuses, leaves the device as it was. -/
def Res.RefusesClean (r : Res) (d : Device) : Prop := ∀ st pl, r.1 = .done st pl → st ≠ stOK → st ≠ stJUMP_DEFERRED → r.2 = d

section
variable {d : Device}

theorem refusesClean_refuse {x : Nat × List Byte} : Res.RefusesClean (refuse d x) d := fun _ _ _ _ _ => rfl

/-- An answer that accepts refuses nothing. -/
theorem refusesClean_of_good {r : Res} (h : r.1.good = true) : r.RefusesClean d := by
  intro st pl hr hok hjump
  simp only [hr, Ans.good, Bool.or_eq_true, beq_iff_eq] at h
  exact (h.elim hok hjump).elim

theorem refusesClean_ok {e : Device} {pl : List Byte} : Res.RefusesClean (ok e pl) d := refusesClean_of_good rfl

theorem refusesClean_okBoundary {e : Device} {t : Nat} : Res.RefusesClean (okBoundary e t) d := refusesClean_of_good rfl

theorem refusesClean_later {e : Device} : Res.RefusesClean (.later, e) d := nofun

theorem refusesClean_interim {e : Device} {s : Nat} {pl : List Byte} : Res.RefusesClean (.interim s pl, e) d := nofun

theorem refusesClean_both {e : Device} {s : Nat} {pl f : List Byte} : Res.RefusesClean (.both pl s f, e) d := nofun

/-- A failing check leaves the device as it was, whatever it guards. -/
theorem refusesClean_checked {l : List Check} {k : Res} (h : k.RefusesClean d) : Res.RefusesClean (checked d l k) d := by
  unfold checked
  split
  · exact refusesClean_refuse
  · exact h

theorem refusesClean_ite {p : Prop} [Decidable p] {a b : Res} (ha : a.RefusesClean d) (hb : b.RefusesClean d) :
    Res.RefusesClean (if p then a else b) d := by
  split
  · exact ha
  · exact hb

/-- Checks, and then OK. -/
theorem refusesClean_checkedOk {l : List Check} {e : Device} {pl : List Byte} : Res.RefusesClean (checked d l (ok e pl)) d :=
  refusesClean_checked refusesClean_ok

/-- Checks, and then OK with the boundary. -/
theorem refusesClean_checkedBoundary {l : List Check} {e : Device} {t : Nat} : Res.RefusesClean (checked d l (okBoundary e t)) d :=
  refusesClean_checked refusesClean_okBoundary

/-! ### The opcodes whose answer depends on what the target holds -/

variable {c : Cmd}

theorem runQCreate_refusesClean : (runQCreate c d).RefusesClean d := by
  refine refusesClean_checked ?_
  split
  · exact refusesClean_ok
  · exact refusesClean_refuse

theorem runQReset_refusesClean : (runQReset c d).RefusesClean d := by
  refine refusesClean_checked ?_
  split
  · exact refusesClean_refuse
  · exact refusesClean_ok

theorem runQStatus_refusesClean : (runQStatus c d).RefusesClean d := by
  refine refusesClean_checked ?_
  split
  · exact refusesClean_refuse
  · exact refusesClean_ok

theorem runMemRetire_refusesClean : (runMemRetire c d).RefusesClean d := by
  unfold runMemRetire
  dsimp only
  split
  · exact refusesClean_checkedOk
  · exact refusesClean_checked refusesClean_interim
  · exact refusesClean_checkedOk

theorem runChRange_refusesClean : (runChRange c d).RefusesClean d := by
  unfold runChRange
  dsimp only
  split
  · exact refusesClean_refuse
  · exact refusesClean_checked (refusesClean_ite refusesClean_both refusesClean_interim)

theorem runChArm_refusesClean : (runChArm c d).RefusesClean d := by
  refine refusesClean_ite refusesClean_ok (refusesClean_checked ?_)
  split
  · exact refusesClean_ok
  · exact refusesClean_later

theorem runFmStatus_refusesClean : (runFmStatus c d).RefusesClean d := by
  refine refusesClean_ite refusesClean_ok (refusesClean_checked ?_)
  split
  · exact refusesClean_ok
  · exact refusesClean_refuse

theorem runFmSegment_refusesClean : (runFmSegment c d).RefusesClean d := by
  refine refusesClean_ite refusesClean_checkedOk ?_
  split
  · exact refusesClean_checked refusesClean_refuse
  · exact refusesClean_ite refusesClean_checkedOk refusesClean_checkedOk

theorem runFmStreamBind_refusesClean : (runFmStreamBind c d).RefusesClean d := by
  unfold runFmStreamBind
  dsimp only
  split
  · exact refusesClean_checked refusesClean_refuse
  · exact refusesClean_checkedOk

theorem runFmJump_refusesClean : (runFmJump c d).RefusesClean d := by
  refine refusesClean_checked ?_
  dsimp only
  split
  · next b next _ => exact refusesClean_of_good (by cases next <;> rfl)
  · exact refusesClean_later

/-- FM_LOCKUP answers in two steps, its refusals too (R394, R412). -/
theorem runFmLockup_refusesClean : (runFmLockup c d).RefusesClean d := by
  unfold runFmLockup
  dsimp only
  split
  · exact refusesClean_refuse
  · refine refusesClean_checked ?_
    split
    · exact refusesClean_both
    · split
      · exact refusesClean_both
      · exact refusesClean_ite refusesClean_both refusesClean_both

end

/-! ### Every opcode but the two that keep what they have read or withheld (R139, R463) -/

theorem Op.run_refusesClean (op : Op) (c : Cmd) (d : Device) (hcommit : op ≠ .calCommit) (hread : op ≠ .memRead) : (op.run c d).RefusesClean d := by
  cases op
  case calCommit => exact absurd rfl hcommit
  case memRead => exact absurd rfl hread
  case nop | identify | getMode | getReady | getTime | chStatus | monStatus | regStatus | fltStatus | memStatus | lcStatus | elStatus =>
    exact refusesClean_ok
  case qDestroy | qNotify | qBind | axdWrite | calStatus | calWrite | elDescriptor | elSkew | imModel | fmLoad | memWrite | fltClear | fltReaction |
      regSkew =>
    exact refusesClean_checkedOk
  case chConfig | chFunction | chSetpoint | chLimits | chAutorange | chAperture | chStrobe | tsSelect | mkRoute | axdStrobe | monConfig | calMode |
      elPair | imZone | imRail | prfEnter | prfExit | prfInject | prfPerturb | regArmAt | lcAdvance =>
    exact refusesClean_checkedBoundary
  case resetBlock | chMeasure | calPersist | tsWrite | updSwitch | retRecord | memFreq => exact refusesClean_checked refusesClean_interim
  case chMigrate | fmStart => exact refusesClean_checked refusesClean_later
  case fltLog => exact refusesClean_checked refusesClean_both
  case setFrame => exact refusesClean_checked (refusesClean_ite refusesClean_later refusesClean_later)
  case fmStop => exact refusesClean_ite refusesClean_ok refusesClean_okBoundary
  case fmRelease => exact refusesClean_checked (refusesClean_ite refusesClean_ok refusesClean_ok)
  case trigConfig => exact refusesClean_checked (refusesClean_ite refusesClean_ok (refusesClean_ite refusesClean_ok refusesClean_ok))
  case elReset => exact refusesClean_checked (refusesClean_ite refusesClean_ok (refusesClean_ite refusesClean_ok refusesClean_ok))
  case imStatus => exact refusesClean_ite refusesClean_ok (refusesClean_ite refusesClean_ok refusesClean_ok)
  case imPolicy => exact refusesClean_ite refusesClean_checkedOk (refusesClean_checked (refusesClean_ite refusesClean_ok refusesClean_ok))
  case imSensor => exact refusesClean_ite refusesClean_checkedOk refusesClean_checkedOk
  case calRead => exact refusesClean_ite refusesClean_ok refusesClean_checkedOk
  case memDelays => exact refusesClean_ite refusesClean_checkedOk refusesClean_checkedOk
  case memScan => exact refusesClean_checked (refusesClean_ite refusesClean_both refusesClean_interim)
  case updStage => exact refusesClean_checked (refusesClean_ite refusesClean_ok refusesClean_interim)
  case regJoin => exact refusesClean_checked (refusesClean_ite refusesClean_both refusesClean_interim)
  case chPark =>
    exact refusesClean_checked (refusesClean_ite refusesClean_okBoundary (refusesClean_ite refusesClean_okBoundary refusesClean_okBoundary))
  case setMode =>
    exact refusesClean_ite refusesClean_checkedBoundary (refusesClean_ite
      (refusesClean_checked (refusesClean_ite refusesClean_okBoundary refusesClean_okBoundary)) refusesClean_checkedBoundary)
  case qCreate => exact runQCreate_refusesClean
  case qReset => exact runQReset_refusesClean
  case qStatus => exact runQStatus_refusesClean
  case memRetire => exact runMemRetire_refusesClean
  case chRange => exact runChRange_refusesClean
  case chArm => exact runChArm_refusesClean
  case fmStatus => exact runFmStatus_refusesClean
  case fmSegment => exact runFmSegment_refusesClean
  case fmStreamBind => exact runFmStreamBind_refusesClean
  case fmJump => exact runFmJump_refusesClean
  case fmLockup => exact runFmLockup_refusesClean

/-- Settles O56: a failing check of the packet is the reply on the device that took it, and taking leaves the body alone; each opcode makes its
own checks before it changes anything. -/
theorem refusedCommandsChangeNothing : Obligations.RefusedCommandsChangeNothing := by
  refine ⟨?head, ?state, ?own, fun d op p h => Device.submit_notRunning h⟩
  case head =>
    intro d op p r st pl hs hf
    rw [Device.submit_headFail hs hf]
    exact ⟨rfl, Device.takenBy_final_body _⟩
  case state =>
    intro d op p r st pl hs hhead hnow hf
    rw [Device.submit_stateFail hs hhead hnow hf]
    exact ⟨rfl, Device.takenBy_final_body _⟩
  case own => exact fun op c d st pl hcommit hread hr hok hjump => Op.run_refusesClean op c d hcommit hread st pl hr hok hjump

end Sys2Proof.Machine
end

section
/-! PROOFS. A packet that a device-side producer writes is read back whole, wherever in its ring it lies (R425, R426, R428, R429). -/

namespace Sys2Proof.Machine

/-! ### Places in a ring (R425, R426) -/

section
variable (r : Ring)

theorem Ring.z_pos : 0 < r.z := Nat.mul_pos (by decide) (Nat.two_pow_pos _)

/-- A pointer's 2^32 turns are whole turns of the ring (R426). -/
theorem Ring.z_dvd {r : Ring} (h : r.size ≤ 20) : r.z ∣ 2 ^ 32 := by
  have hz : r.z = 2 ^ (12 + r.size) := by rw [Nat.pow_add]; rfl
  rw [hz]
  exact Nat.pow_dvd_pow 2 (by omega)

theorem mod_add_mod_of_dvd {z n : Nat} (h : z ∣ n) (a i : Nat) : (a % n + i) % z = (a + i) % z := by
  rw [Nat.add_mod, Nat.mod_mod_of_dvd _ h, ← Nat.add_mod]

/-- A place before the ring's end, and one past it. -/
theorem place_before {z p i : Nat} (h : i < z - p % z) : (p + i) % z = p % z + i := by
  rw [← Nat.mod_add_mod, Nat.mod_eq_of_lt (by omega)]

theorem place_past {z p i : Nat} (hz : 0 < z) (h : z - p % z ≤ i) (hi : i < z) : (p + i) % z = i - (z - p % z) := by
  have hlt := Nat.mod_lt p hz
  rw [← Nat.mod_add_mod, show p % z + i = z + (i - (z - p % z)) by omega, Nat.add_mod_left, Nat.mod_eq_of_lt (by omega)]

/-- Two places less than a turn apart are different places. -/
theorem place_inj {z p i j : Nat} (hi : i < z) (hj : j < z) (h : (p + i) % z = (p + j) % z) : i = j := by
  have hz : 0 < z := Nat.zero_lt_of_lt hi
  have hlt := Nat.mod_lt p hz
  by_cases hki : i < z - p % z <;> by_cases hkj : j < z - p % z
  · rw [place_before hki, place_before hkj] at h
    omega
  · rw [place_before hki, place_past hz (by omega) hj] at h
    omega
  · rw [place_past hz (by omega) hi, place_before hkj] at h
    omega
  · rw [place_past hz (by omega) hi, place_past hz (by omega) hj] at h
    omega

/-! ### Bytes written into a ring's storage (R425) -/

variable {m : List Host.Cell} {base p a : Nat} {l : List Byte}

/-- A byte written reads as written, at its place. -/
theorem Ring.put_in {i : Nat} (hl : l.length ≤ r.z) (hi : i < l.length) : cellGet (r.put m base p l) (base + (p + i) % r.z) = l[i] := by
  have hlt := Nat.mod_lt p r.z_pos
  unfold Ring.put
  dsimp only
  by_cases hk : i < r.z - p % r.z
  · rw [place_before hk, cellGet_write_out _ _ _ _ (by rw [List.length_drop]; omega), ← Nat.add_assoc,
      cellGet_write_in _ _ _ _ (by rw [List.length_take]; omega), List.getElem_take]
  · rw [place_past r.z_pos (by omega) (by omega), cellGet_write_in _ _ _ _ (by rw [List.length_drop]; omega), List.getElem_drop]
    congr 1
    omega

/-- A byte at none of the places written stays. -/
theorem Ring.put_out (hl : l.length ≤ r.z) (h : ∀ i < l.length, a ≠ base + (p + i) % r.z) : cellGet (r.put m base p l) a = cellGet m a := by
  have hlt := Nat.mod_lt p r.z_pos
  unfold Ring.put
  dsimp only
  rw [cellGet_write_out, cellGet_write_out]
  · rw [List.length_take]
    refine Decidable.byContradiction fun hin => ?_
    refine h (a - (base + p % r.z)) (by omega) ?_
    rw [place_before (by omega)]
    omega
  · rw [List.length_drop]
    refine Decidable.byContradiction fun hin => ?_
    refine h (a - base + (r.z - p % r.z)) (by omega) ?_
    rw [place_past r.z_pos (by omega) (by omega)]
    omega

/-! ### Bytes read from a ring's storage (R425) -/

theorem Device.ringGet_length (d : Device) (p n : Nat) : (d.ringGet r p n).length = n := by
  simp only [Device.ringGet, List.length_append, cellsRead_length]
  omega

/-- What stands at the places from a pointer on is what is read there. -/
theorem Device.ringGet_eq {d : Device} (hp : r.pool = false) (hl : l.length ≤ r.z)
    (h : ∀ (i : Nat) (hi : i < l.length), cellGet d.store.mem (r.devAddr + (p + i) % r.z) = l[i]) : d.ringGet r p l.length = l := by
  refine List.ext_getElem (d.ringGet_length ..) fun i hi hil => ?_
  have hlt := Nat.mod_lt p r.z_pos
  rw [← h i hil]
  simp only [Device.ringGet, hp, Bool.false_eq_true, if_false]
  by_cases hk : i < r.z - p % r.z
  · rw [List.getElem_append_left (by rw [cellsRead_length]; omega), cellsRead_get, place_before hk, Nat.add_assoc]
  · rw [List.getElem_append_right (by rw [cellsRead_length]; omega), cellsRead_get, cellsRead_length,
      place_past r.z_pos (by omega) (by omega)]
    congr 2
    omega

end

/-! ### A packet in a store (R428, R429) -/

/-- A packet as it stands in its ring: the length word, the body, its padding, and the zero slot after it. -/
def packetBytes (body : List Byte) : List Byte := le32 body.length ++ body ++ zeros (padded body.length - body.length) ++ zeros 4

theorem le32_length (v : Nat) : (le32 v).length = 4 := rfl

theorem zeros_length (n : Nat) : (zeros n).length = n := List.length_replicate

theorem le_padded (n : Nat) : n ≤ padded n := by unfold padded; omega

/-- All but the zero slot: the length word and the padded body. -/
theorem packetBytes_head_length (body : List Byte) :
    (le32 body.length ++ body ++ zeros (padded body.length - body.length)).length = 4 + padded body.length := by
  have hpad := le_padded body.length
  simp only [List.length_append, le32_length, zeros_length]
  omega

theorem packetBytes_length (body : List Byte) : (packetBytes body).length = padded body.length + 8 := by
  rw [packetBytes, List.length_append, packetBytes_head_length, zeros_length]
  omega

theorem packetBytes_word (body : List Byte) :
    packetBytes body = [] ++ le32 body.length ++ (body ++ zeros (padded body.length - body.length) ++ zeros 4) := by
  simp only [packetBytes, List.nil_append, List.append_assoc]

theorem packetBytes_body (body : List Byte) :
    packetBytes body = le32 body.length ++ body ++ (zeros (padded body.length - body.length) ++ zeros 4) := by
  simp only [packetBytes, List.append_assoc]

theorem padTo_padded (body : List Byte) : padTo (padded body.length) body = body ++ zeros (padded body.length - body.length) := by
  rw [padTo, List.take_of_length_le (le_padded _)]

theorem padTo_padded_length (body : List Byte) : (padTo (padded body.length) body).length = padded body.length := by
  have hpad := le_padded body.length
  rw [padTo_padded, List.length_append, zeros_length]
  omega

/-- A packet written into one store, its length word last (R429). -/
def Ring.putPacket (r : Ring) (m : List Host.Cell) (base : Nat) (body : List Byte) : List Host.Cell :=
  r.put (r.put (r.put m base (r.headA + 4) (padTo (padded body.length) body)) base (r.headA + 4 + padded body.length) (zeros 4)) base
    r.headA (le32 body.length)

section
variable {r : Ring} {m : List Host.Cell} {base : Nat} {body : List Byte}

theorem Ring.putPacket_out {a : Nat} (hz : padded body.length + 8 ≤ r.z)
    (h : ∀ k, k < padded body.length + 8 → a ≠ base + (r.headA + k) % r.z) : cellGet (r.putPacket m base body) a = cellGet m a := by
  have hbody := padTo_padded_length body
  unfold Ring.putPacket
  rw [Ring.put_out _ (by rw [le32_length]; omega), Ring.put_out _ (by rw [zeros_length]; omega), Ring.put_out _ (by omega)]
  · intro i hi
    rw [Nat.add_assoc]
    exact h _ (by omega)
  · intro i hi
    rw [zeros_length] at hi
    rw [Nat.add_assoc, Nat.add_assoc]
    exact h _ (by omega)
  · intro i hi
    rw [le32_length] at hi
    exact h _ (by omega)

/-- A write within a packet's span leaves the places of the span before and after it. -/
theorem Ring.put_apart {p q s k : Nat} {l : List Byte} (hq : q = p + s) (hs : s + l.length ≤ r.z) (hk : k < r.z) (h : k < s ∨ s + l.length ≤ k) :
    cellGet (r.put m base q l) (base + (p + k) % r.z) = cellGet m (base + (p + k) % r.z) := by
  subst hq
  refine Ring.put_out _ (by omega) fun i hi heq => ?_
  rw [Nat.add_assoc] at heq
  have := place_inj hk (by omega) (Nat.add_left_cancel heq)
  omega

/-- A write within a packet's span is read at the places of the span. -/
theorem Ring.put_at {p s k : Nat} {l : List Byte} (hs : s + l.length ≤ r.z) (hk : s ≤ k) (h : k - s < l.length) :
    cellGet (r.put m base (p + s) l) (base + (p + k) % r.z) = l[k - s] := by
  have hin := r.put_in (m := m) (base := base) (p := p + s) (by omega) h
  rwa [show p + s + (k - s) = p + k by omega] at hin

theorem packetBytes_eq (body : List Byte) : packetBytes body = le32 body.length ++ padTo (padded body.length) body ++ zeros 4 := by
  rw [padTo_padded, packetBytes, List.append_assoc (le32 _)]

theorem Ring.putPacket_in {k : Nat} (hz : padded body.length + 8 ≤ r.z) (hk : k < (packetBytes body).length) :
    cellGet (r.putPacket m base body) (base + (r.headA + k) % r.z) = (packetBytes body)[k] := by
  have hword := le32_length body.length
  have hbody : (padTo (padded body.length) body).length = padded body.length := padTo_padded_length body
  have hslot := zeros_length 4
  have hlen := packetBytes_length body
  simp only [packetBytes_eq]
  unfold Ring.putPacket
  rw [Nat.add_assoc r.headA]
  by_cases hfirst : k < 4
  · rw [List.getElem_append_left (by rw [List.length_append]; omega), List.getElem_append_left (by omega)]
    exact Ring.put_in r (by omega) (by omega)
  · rw [Ring.put_apart (p := r.headA) (q := r.headA) (s := 0) rfl (by omega) (by omega) (by omega)]
    by_cases hlast : k < 4 + padded body.length
    · rw [Ring.put_apart rfl (by omega) (by omega) (by omega), Ring.put_at (by omega) (by omega) (by omega),
        List.getElem_append_left (by rw [List.length_append]; omega), List.getElem_append_right (by omega)]
      rfl
    · rw [Ring.put_at (by omega) (by omega) (by omega), List.getElem_append_right (by rw [List.length_append]; omega)]
      congr 1
      rw [List.length_append]
      omega

/-- The ring after a packet of `n` body bytes: HEAD in both copies and the open position moved past it, the packet counted. -/
def Ring.afterPacket (r : Ring) (n : Nat) : Ring :=
  { r with headA := (r.headA + 4 + padded n) % 2 ^ 32, headB := (r.headA + 4 + padded n) % 2 ^ 32, openPos := (r.headA + 4 + padded n) % 2 ^ 32
           packets := (r.packets + 1) % 2 ^ 32 }

/-- Each part of a packet is read at its place. -/
theorem Device.ringGet_part {d : Device} {p n : Nat} {pre l post : List Byte} (hpool : r.pool = false) (hz : padded body.length + 8 ≤ r.z)
    (hmem : d.store.mem = r.putPacket m r.devAddr body) (hparts : packetBytes body = pre ++ l ++ post)
    (hp : ∀ i, (p + i) % r.z = (r.headA + pre.length + i) % r.z) : d.ringGet (r.afterPacket n) p l.length = l := by
  have hlen := packetBytes_length body
  have hsum := congrArg List.length hparts
  simp only [List.length_append] at hsum
  refine Device.ringGet_eq (r.afterPacket n) hpool (show l.length ≤ r.z by omega) fun i hi => ?_
  show cellGet d.store.mem (r.devAddr + (p + i) % r.z) = l[i]
  rw [hmem, hp, Nat.add_assoc, Ring.putPacket_in hz (by omega)]
  simp only [hparts]
  rw [List.getElem_append_left (by rw [List.length_append]; omega), List.getElem_append_right (by omega)]
  congr 1
  omega

end

/-! ### A produced packet (R428, R429) -/

section
variable {d : Device} {q : Nat} {r : Ring} {body : List Byte} {entries : Nat} {irq : Bool}

theorem Device.msi_store (d : Device) (f v : Nat) : (d.msi f v).store = d.store := by
  unfold Device.msi
  split <;> rfl

theorem Device.msi_queue (d : Device) (f v : Nat) : (d.msi f v).queue = d.queue := by
  unfold Device.msi
  split <;> rfl

theorem Device.produceRaw_fits (hr : d.ring? q = some r) (hok : (d.produceRaw q body entries irq).2 = true) : r.fits body.length = true := by
  unfold Device.produceRaw at hok
  simp only [hr] at hok
  split at hok
  · next h =>
      simp only [Bool.and_eq_true] at h
      exact h.1.1
  · cases hok

/-- The device with a packet written into its ring and the ring's host buffer (R357, R429). -/
def Device.withPacket (d : Device) (q : Nat) (r : Ring) (body : List Byte) : Device :=
  (((d.ringPut r (r.headA + 4) (padTo (padded body.length) body) true).ringPut r (r.headA + 4 + padded body.length) (zeros 4) true).ringPut r
    r.headA (le32 body.length) true).setRing q (r.afterPacket body.length)

/-- A packet that is written changes the stores and its ring as `Device.withPacket` says; a vector may be requested besides. -/
theorem Device.produceRaw_written (hr : d.ring? q = some r) (hok : (d.produceRaw q body entries irq).2 = true) :
    (d.produceRaw q body entries irq).1.store = (d.withPacket q r body).store ∧
      (d.produceRaw q body entries irq).1.queue = (d.withPacket q r body).queue := by
  unfold Device.produceRaw at hok ⊢
  simp only [hr] at hok ⊢
  split at hok
  · next h =>
      rw [if_pos h]
      dsimp only
      split
      · exact ⟨Device.msi_store .., Device.msi_queue ..⟩
      · exact ⟨rfl, rfl⟩
  · cases hok

theorem Device.withPacket_mem (hp : r.pool = false) : (d.withPacket q r body).store.mem = r.putPacket d.store.mem r.devAddr body := by
  simp only [Device.withPacket, Device.setRing_store, Device.ringPut, hp, Bool.false_eq_true, if_false, Bool.true_and, decide_eq_true_eq]
  split <;> rfl

theorem Device.withPacket_host (hp : r.pool = false) (hk : r.kind ≠ 6) :
    (d.withPacket q r body).store.host = r.putPacket d.store.host r.hostAddr body := by
  simp only [Device.withPacket, Device.setRing_store, Device.ringPut, hp, Bool.false_eq_true, if_false, Bool.true_and, decide_eq_true_eq, if_pos hk]
  rfl

theorem Device.withPacket_ring : (d.withPacket q r body).ring? q = some (r.afterPacket body.length) := Device.setRing_get ..

theorem Device.withPacket_ring_ne {k : Nat} (h : k ≠ q) : (d.withPacket q r body).ring? k = d.ring? k := Device.setRing_get_ne _ _ _ _ h

theorem Device.ring?_of_queue {d e : Device} (h : e.queue = d.queue) (k : Nat) : e.ring? k = d.ring? k := by
  simp only [Device.ring?, h]

/-- The level grows by the packet (R426, R429). -/
theorem Ring.afterPacket_level {n : Nat} (hsize : r.size ≤ 20) (hhead : r.headA < 2 ^ 32) (htail : r.tailA < 2 ^ 32)
    (hfits : r.level + 4 + padded n + 4 ≤ r.z) : (r.afterPacket n).level = r.level + 4 + padded n := by
  have hz : r.z ≤ 2 ^ 32 := Nat.le_of_dvd (by decide) (Ring.z_dvd hsize)
  show ((r.headA + 4 + padded n) % 2 ^ 32 + 2 ^ 32 - r.tailA) % 2 ^ 32 = r.level + 4 + padded n
  unfold Ring.level at hfits ⊢
  omega

end

/-- Settles O59: the parts of the packet stand at consecutive places of the ring, each read where it was written. -/
theorem producedPacketsAreReadBackWhole : Obligations.ProducedPacketsAreReadBackWhole := by
  intro d q r body entries irq hr _ hsize hhead htail hpool hok
  have hfits := of_decide_eq_true (Device.produceRaw_fits hr hok)
  obtain ⟨hstore, hqueue⟩ := Device.produceRaw_written hr hok
  generalize (d.produceRaw q body entries irq).1 = e at hstore hqueue
  have hz : padded body.length + 8 ≤ r.z := by omega
  have hmem : e.store.mem = r.putPacket d.store.mem r.devAddr body := (congrArg Store.mem hstore).trans (Device.withPacket_mem hpool)
  refine ⟨r.afterPacket body.length, (Device.ring?_of_queue hqueue q).trans Device.withPacket_ring, rfl, rfl,
    Ring.afterPacket_level hsize hhead htail hfits, rfl, ?word, ?body, ?padding, ?slot, ?host, ?outside, ?others⟩
  case word => exact Device.ringGet_part (pre := []) hpool hz hmem (packetBytes_word body) fun _ => rfl
  case body => exact Device.ringGet_part (pre := le32 body.length) hpool hz hmem (packetBytes_body body) fun _ => rfl
  case padding =>
    have hread := Device.ringGet_part (n := body.length) (p := r.headA + 4 + body.length) (pre := le32 body.length ++ body) hpool hz hmem rfl
      fun i => by rw [List.length_append, le32_length, ← Nat.add_assoc]
    rwa [zeros_length] at hread
  case slot =>
    refine Device.ringGet_part (l := zeros 4) (post := []) hpool hz hmem (List.append_nil _).symm fun i => ?_
    rw [packetBytes_head_length, ← Nat.add_assoc]
    exact mod_add_mod_of_dvd (Ring.z_dvd hsize) ..
  case host =>
    intro hk k hlt
    have hhost : e.store.host = r.putPacket d.store.host r.hostAddr body := (congrArg Store.host hstore).trans (Device.withPacket_host hpool hk)
    have hin := packetBytes_length body
    rw [hhost, hmem, Ring.putPacket_in hz (by omega), Ring.putPacket_in hz (by omega)]
  case outside => exact fun a ha => by rw [hmem, Ring.putPacket_out hz ha]
  case others => exact fun k hk => (Device.ring?_of_queue hqueue k).trans (Device.withPacket_ring_ne hk)

end Sys2Proof.Machine
end

section
/-! PROOFS. The queries of the system and of the units answer their payloads and change nothing else (R248, R386..R405, R418). -/

namespace Sys2Proof.Machine

/-- The device ID as replies carry it (R387). -/
theorem Device.idWord_eq (d : Device) : d.idWord = d.reg.id.getD 0xFFFF := by
  unfold Device.idWord
  cases d.reg.id <;> rfl

theorem runIdentify_eq (c : Cmd) (d : Device) : runIdentify c d = ok d
    (le32 ident ++ le32 d.aon.fwVersion ++ le16 (d.reg.id.getD 0xFFFF) ++ [BitVec.ofNat 8 c.env.fn, BitVec.ofNat 8 d.numVFs] ++
      le16 ((List.range 512).filter fun ch => (d.chan ch).owner == c.env.fn).length ++ zeros 2 ++ serial ++
      [BitVec.ofNat 8 d.otp.lc, BitVec.ofNat 8 d.press.bank] ++ zeros 30) := by
  rw [runIdentify, Device.idWord_eq]
  rfl

/-- Settles O1: each query by what its opcode answers. -/
theorem systemQueriesAnswer : Obligations.SystemQueriesAnswer := by
  refine ⟨?nop, ?identify, ?getMode, ?getReady, ?getTime, ?lcStatus⟩
  case nop => exact completes_of_run (fun _ _ => rfl) fun _ _ _ _ _ => rfl
  case identify => exact completes_of_run (fun _ _ => rfl) fun c d _ _ _ => runIdentify_eq c d
  case getMode => exact completes_of_run (fun _ _ => rfl) fun _ _ _ _ _ => rfl
  case getReady => exact completes_of_run (fun _ _ => rfl) fun _ _ _ _ _ => rfl
  case getTime => exact completes_of_run (fun _ _ => rfl) fun _ _ _ _ _ => rfl
  case lcStatus => exact completes_of_run (fun _ _ => rfl) fun _ _ _ _ _ => rfl

section
variable {c : Cmd} {d : Device}

/-- Q_STATUS of a ring in service, with and without CLEAR (R398). -/
theorem runQStatus_accepted {x : Ring} (hx : d.ring? (c.u32 0) = some x) (hg : (runQStatus c d).1.good = true) : runQStatus c d =
    ok (if c.opf = 1 then (d.touch (c.u32 0)).setRing (c.u32 0)
          { x with overrun := false, badptr := false, wmLatch := false, qptr := false, lost := 0, partials := 0 }
        else d.touch (c.u32 0)) (x.descriptor (c.u32 0) (d.pinned (c.u32 0)) ++ le32 x.lost ++ le32 x.partials) := by
  have hrun : runQStatus c d = _ := checked_good (qCheck_sane ..) hg
  rw [hrun]
  simp only [hx]

/-- FM_STATUS with SEG of a segment that is defined (R397). -/
theorem runFmStatus_segment {g : Segment} (hs : c.scope ≠ 1) (hseg : d.seg? (c.u16 0) = some g) (hg : (runFmStatus c d).1.good = true) :
    runFmStatus c d = ok d (g.record (c.u16 0) ++ le32 (if g.kind = 2 then g.missed else 0) ++ le32 (if g.kind = 2 then g.skipped else 0) ++
      le32 (if g.kind = 2 then g.bad else 0) ++ le32 (if g.kind = 2 then g.clamped else 0)) := by
  unfold runFmStatus at hg ⊢
  simp only [if_neg hs, hseg] at hg ⊢
  exact checked_good (by simp [stBAD_TARGET, stOK, stJUMP_DEFERRED]) hg

theorem runCalStatus_accepted (hg : (runCalStatus c d).1.good = true) : runCalStatus c d = ok d
    (le32 (d.calWord (d.calLead c)) ++ le32 (d.chan (d.calLead c)).cal.active.commits ++ le64 (d.chan (d.calLead c)).cal.lastCommit ++
      leF32 (d.chan (d.calLead c)).cal.lastStep ++ leF32 (d.chan (d.calLead c)).cal.monitor ++ le32 (d.chan (d.calLead c)).cal.pointsDisc ++
      le32 (d.chan (d.calLead c)).cal.fitsDisc ++ le32 (d.chan (d.calLead c)).cal.rounds ++ zeros 4) :=
  checked_good (by simp [stBAD_TARGET, stOK, stJUMP_DEFERRED]) hg

/-- CAL_READ of the device's trims or of a channel's bank (R405). -/
theorem runCalRead_accepted (hg : (runCalRead c d).1.good = true) : runCalRead c d = ok d
    (if c.scope = 0 then padTo 1056 Config.trims
     else (if c.u8 0 = 0 then (d.chan c.idx).cal.active else (d.chan c.idx).cal.staged).bytes) := by
  unfold runCalRead at hg ⊢
  split at hg
  · next hs => rw [if_pos hs, if_pos hs]
  · next hs =>
      rw [if_neg hs, if_neg hs]
      exact checked_good (by simp) hg

end

/-- Settles O2: each query by what its opcode answers; IM_STATUS by the range that its index lies in. -/
theorem unitQueriesAnswer : Obligations.UnitQueriesAnswer := by
  refine ⟨?chStatus, ?fmStatus, ?fmSegment, ?qStatus, ?qClear, ?die, ?rail, ?zone, ?calStatus, ?calRead⟩
  case chStatus => exact completes_of_run (fun _ _ => rfl) fun _ _ _ _ _ => rfl
  case fmStatus => exact completes_of_run (fun _ _ => rfl) fun _ _ _ hs _ => if_pos hs
  case fmSegment =>
    exact fun g => completes_of_run (fun _ _ => rfl) fun _ _ _ ⟨hs, hseg⟩ hg => runFmStatus_segment hs hseg hg
  case qStatus =>
    exact fun x => completes_of_run (fun _ _ => rfl) fun c d _ ⟨ho, hx⟩ hg =>
      (runQStatus_accepted hx hg).trans (by rw [if_neg (by simp [ho])]; rfl)
  case qClear =>
    exact fun x => completes_of_run (fun _ _ => rfl) fun c d _ ⟨ho, hx⟩ hg => (runQStatus_accepted hx hg).trans (by rw [if_pos ho]; rfl)
  case die => exact completes_of_run (fun _ _ => rfl) fun _ _ _ hi _ => if_pos hi
  case rail => exact completes_of_run (fun _ _ => rfl) fun c d _ hi _ => (if_neg (by omega)).trans (if_pos hi)
  case zone => exact completes_of_run (fun _ _ => rfl) fun c d _ hi _ => (if_neg (by omega)).trans (if_neg (by omega))
  case calStatus => exact completes_of_run (fun _ _ => rfl) fun _ _ _ _ hg => runCalStatus_accepted hg
  case calRead => exact completes_of_run (fun _ _ => rfl) fun _ _ _ _ hg => runCalRead_accepted hg

end Sys2Proof.Machine
end

section
/-! PROOFS. Lifecycle, update, return-record and proof commands (R418..R421, R517..R519, R526). -/

namespace Sys2Proof.Machine

/-! ### What the opcodes answer where they accept -/

section
variable {c : Cmd} {d : Device}

/-- LC_ADVANCE asks for WIPE at its boundary (R36, R517). -/
theorem runLcAdvance_accepted (ha : c.atNow = false) (hg : (runLcAdvance c d).1.good = true) :
    runLcAdvance c d = okBoundary (d.askMode (d.nextBoundary c) c.acc (.wipe (c.u8 0))) (d.nextBoundary c) := by
  have hrun : runLcAdvance c d = _ := checked_good (by simp [stWRONG_MODE, stDENIED, stOK, stJUMP_DEFERRED]) hg
  simp only [hrun, Device.boundary_ahead ha, Device.commandMode_ahead ha, okBoundary]

/-- UPD_SWITCH asks for UPDATE at its boundary; the completion is owed (R36, R519). -/
theorem runUpdSwitch_accepted (ha : c.atNow = false) (hg : (runUpdSwitch c d).1.good = true) : runUpdSwitch c d =
    (.interim stACCEPTED [], ({ d with update := { d.update with switchEnv := some c.env, persist := bit (c.u8 0) 0 } } : Device).askMode
      (d.nextBoundary c) c.acc .update) := by
  have hrun : runUpdSwitch c d = _ := checked_good (by simp [stWRONG_MODE, stNOT_READY, stBUSY, stOK, stJUMP_DEFERRED]) hg
  simp only [hrun, Device.boundary_ahead ha, Device.commandMode_ahead ha]

/-- PRF_ENTER asks for PROOF at its boundary (R36, R420). -/
theorem runPrfEnter_accepted (ha : c.atNow = false) (hg : (runPrfEnter c d).1.good = true) : runPrfEnter c d =
    okBoundary (d.askMode (d.nextBoundary c) c.acc (.proofEnter (prfEngines c) (prfChannels c) (prfLinks c))) (d.nextBoundary c) := by
  have hrun : runPrfEnter c d = _ := checked_good (by simp [stDENIED, stWRONG_MODE, stBUSY, stOK, stJUMP_DEFERRED]) hg
  simp only [hrun, Device.boundary_ahead ha, Device.commandMode_ahead ha, okBoundary]

/-- PRF_EXIT asks for PROOF's end at its boundary (R36, R420). -/
theorem runPrfExit_accepted (ha : c.atNow = false) (hg : (runPrfExit c d).1.good = true) :
    runPrfExit c d = okBoundary (d.askMode (d.nextBoundary c) c.acc .proofExit) (d.nextBoundary c) := by
  have hrun : runPrfExit c d = _ := checked_good (by simp [stWRONG_MODE, stOK, stJUMP_DEFERRED]) hg
  simp only [hrun, Device.boundary_ahead ha, Device.commandMode_ahead ha, okBoundary]

/-- RET_RECORD writes the record's packets; its length and CRC-32 are owed (R419, R526). -/
theorem runRetRecord_accepted (hg : (runRetRecord c d).1.good = true) : runRetRecord c d =
    (.interim stACCEPTED [], { d.returnBodies.foldl (fun d' b => (d'.produce (c.u32 0) b 1 true).1) d with
      ret := some { ring := c.u32 0, env := c.env, len := d.returnBodies.foldl (fun n b => n + b.length) 0,
                    crc := crc32 d.returnBodies.flatten } }) :=
  checked_good (by simp [stBUSY, stOK, stJUMP_DEFERRED]) hg

/-! ### UPD_STAGE (R419, R518) -/

/-- A chunk of an image: the first one, or one that goes on with `old` bytes of `total`. -/
def Cmd.Continues (c : Cmd) (d : Device) (old : List Byte) (total : Nat) : Prop :=
  (c.u32 0 = 0 ∧ old = [] ∧ total = c.u32 4) ∨ (c.u32 0 ≠ 0 ∧ ∃ u, d.update.upload = some u ∧ old = u.bytes ∧ total = u.total)

/-- The other bank and the upload with a chunk behind the bytes that stood (R518). -/
def Device.chunkStaged (d : Device) (c : Cmd) (old : List Byte) (total : Nat) : Device :=
  { d with mode := if c.u32 0 = 0 then { d.mode with updStaged := false } else d.mode
           flash := { d.flash with
             banks := if byteAt (old ++ c.par.drop 8) 4 = 1 then d.flash.banks
                      else tabSet {} d.flash.banks (1 - d.press.bank) { image := old ++ c.par.drop 8 } }
           update := { d.update with upload := some { total := total, bytes := old ++ c.par.drop 8 } } }

/-- UPD_STAGE counts the bytes that stand, or, with the last chunk, owes the completion. -/
theorem runUpdStage_chunk {old : List Byte} {total : Nat} (h : c.Continues d old total) (hg : (runUpdStage c d).1.good = true) :
    runUpdStage c d =
      if (old ++ c.par.drop 8).length < total then ok (d.chunkStaged c old total) (le32 (old ++ c.par.drop 8).length)
      else (.interim stACCEPTED [], { d.chunkStaged c old total with
        update := { (d.chunkStaged c old total).update with completing := some c.env, isConfig := byteAt (old ++ c.par.drop 8) 4 == 1 } }) := by
  have hrun : runUpdStage c d = _ := checked_good
    (by split <;> simp [updStageStatic, chunkChecks, stBUSY, stNOT_READY, stOK, stJUMP_DEFERRED]) hg
  rw [hrun]
  simp only [Device.chunkStaged, beq_iff_eq]
  rcases h with ⟨hfirst, rfl, rfl⟩ | ⟨hlater, u, hu, rfl, rfl⟩
  · cases hu : d.update.upload <;> simp only [hfirst, if_true]
  · simp only [hu, if_neg hlater]

end

/-- Settles O18: each accepted command by what its opcode answers, UPD_STAGE by whether the chunk is the last. -/
theorem lifecycleCommandsComplete : Obligations.LifecycleCommandsComplete := by
  refine ⟨?lcAdvance, ?updSwitch, ?chunk, ?lastChunk, ?retRecord, ?prfEnter, ?prfExit⟩
  case lcAdvance => exact completes_of_run (fun _ _ => rfl) fun _ _ ha _ hg => runLcAdvance_accepted ha hg
  case updSwitch => exact completes_of_run (fun _ _ => rfl) fun _ _ ha _ hg => runUpdSwitch_accepted ha hg
  case chunk =>
    exact fun old total => completes_of_run (fun _ _ => rfl) fun c d _ ⟨h, hmore⟩ hg =>
      (runUpdStage_chunk (old := old) (total := total) h hg).trans (if_pos hmore)
  case lastChunk =>
    exact fun old total => completes_of_run (fun _ _ => rfl) fun c d _ ⟨h, hlast⟩ hg =>
      (runUpdStage_chunk (old := old) (total := total) h hg).trans (if_neg (Nat.not_lt.mpr hlast))
  case retRecord => exact completes_of_run (fun _ _ => rfl) fun _ _ _ _ hg => runRetRecord_accepted hg
  case prfEnter => exact completes_of_run (fun _ _ => rfl) fun _ _ ha _ hg => runPrfEnter_accepted ha hg
  case prfExit => exact completes_of_run (fun _ _ => rfl) fun _ _ ha _ hg => runPrfExit_accepted ha hg

end Sys2Proof.Machine
end

section
/-! PROOFS. Fault clears and the memory opcodes (R412, R415..R418, R446..R466). -/

namespace Sys2Proof.Machine

/-! ### What changes nothing but memory devices -/

/-- The device without its memory devices: what a change of those devices alone leaves as it was. -/
def Device.offMemDevs (d : Device) : Device := { d with mem := { d.mem with devs := [] } }

section
variable {d e : Device}

theorem Device.each_setMemDev_offMemDevs (d : Device) (l : List Nat) (f : Device → Nat → MemDev) :
    (d.each l fun d m => d.setMemDev m (f d m)).offMemDevs = d.offMemDevs :=
  List.foldlRecOn _ _ (motive := fun e : Device => e.offMemDevs = d.offMemDevs) rfl fun _ he _ _ => he

theorem Device.touchStripe_offMemDevs (d : Device) (k : Nat) : (d.touchStripe k).offMemDevs = d.offMemDevs := by
  refine List.foldlRecOn _ _ (motive := fun e : Device => e.offMemDevs = d.offMemDevs) rfl fun e he j _ => ?_
  dsimp only
  split
  · exact he
  · exact he

theorem Device.touchStripes_offMemDevs (d : Device) (l : List Nat) : (l.foldl (fun d k => d.touchStripe k) d).offMemDevs = d.offMemDevs :=
  List.foldlRecOn _ _ (motive := fun e : Device => e.offMemDevs = d.offMemDevs) rfl fun e he k _ => (e.touchStripe_offMemDevs k).trans he

theorem Device.jobs_of_offMemDevs (h : e.offMemDevs = d.offMemDevs) : e.mem.jobs = d.mem.jobs := (congrArg (·.mem.jobs) h :)
theorem Device.rate_of_offMemDevs (h : e.offMemDevs = d.offMemDevs) : e.mem.rate = d.mem.rate := (congrArg (·.mem.rate) h :)
theorem Device.freq_of_offMemDevs (h : e.offMemDevs = d.offMemDevs) : e.mem.freq = d.mem.freq := (congrArg (·.mem.freq) h :)
theorem Device.poisoned_of_offMemDevs (h : e.offMemDevs = d.offMemDevs) : e.mem.poisoned = d.mem.poisoned := (congrArg (·.mem.poisoned) h :)
theorem Device.store_of_offMemDevs (h : e.offMemDevs = d.offMemDevs) : e.store = d.store := (congrArg (·.store) h :)

end

/-! ### Scans and the data rate (R459, R461) -/

section
variable (d : Device) (k mask : Nat) (e : Option Env)

/-- A scan that starts joins the jobs; beside it only the devices that are scanned change. -/
theorem Device.startScan_offMemDevs : (d.startScan k mask e).offMemDevs =
    ({ d with mem := { d.mem with jobs := d.mem.jobs ++
      [{ purpose := k, mask := mask, left := mask, results := [2, 2, 2, 2, 2], rate := d.mem.rate, env := e }] } } : Device).offMemDevs :=
  Device.each_setMemDev_offMemDevs ..

theorem Device.startScan_jobs : (d.startScan k mask e).mem.jobs = d.mem.jobs ++
    [{ purpose := k, mask := mask, left := mask, results := [2, 2, 2, 2, 2], rate := d.mem.rate, env := e }] :=
  Device.jobs_of_offMemDevs (d.startScan_offMemDevs k mask e)

theorem Device.startScan_rate : (d.startScan k mask e).mem.rate = d.mem.rate :=
  (Device.rate_of_offMemDevs (d.startScan_offMemDevs k mask e)).trans rfl
theorem Device.startScan_freq : (d.startScan k mask e).mem.freq = d.mem.freq :=
  (Device.freq_of_offMemDevs (d.startScan_offMemDevs k mask e)).trans rfl

end

section
variable {d : Device}

/-- A change of rate waits while a scan gathers data. -/
theorem Device.startFreq_scanning (h : d.mem.jobs ≠ []) : d.startFreq = d := by
  unfold Device.startFreq
  split
  · exact if_pos (by simp [h])
  · rfl

/-- With no scan under way a waiting change of rate starts. -/
theorem Device.startFreq_starts {f : FreqJob} (hj : d.mem.jobs = []) (hf : d.mem.freq = some f) (hr : f.running = false) :
    d.startFreq.mem.rate = f.rate ∧ d.startFreq.mem.freq = some { f with running := true } := by
  simp only [Device.startFreq, hf, hr, hj, List.isEmpty_nil, Bool.not_true, Bool.or_self, Bool.false_eq_true, if_false,
    Device.startScan_rate, Device.startScan_freq]
  exact ⟨Device.rate_of_offMemDevs (Device.each_setMemDev_offMemDevs ..), Device.freq_of_offMemDevs (Device.each_setMemDev_offMemDevs ..)⟩

end

/-! ### Retirement and spare rows (R464, R465) -/

section
variable (d : Device) (m k : Nat)

theorem Device.memDev_of_body {d e : Device} (h : e.body = d.body) (k : Nat) : e.memDev k = d.memDev k :=
  (congrArg (Device.memDev · k) h :)

/-- What a RESTORE's end answers leaves the body as it is without that RESTORE. -/
theorem Device.endRestore_body (status : Nat) (payload : List Byte) : (d.endRestore m status payload).body =
    ({ d with mem := { d.mem with restores := d.mem.restores.filter fun r => r.1 ≠ m } } : Device).body :=
  List.foldlRecOn _ _ (motive := fun e : Device => e.body =
    ({ d with mem := { d.mem with restores := d.mem.restores.filter fun r => r.1 ≠ m } } : Device).body) rfl
    fun e he r _ => (e.final?_body r.2 status payload).trans he

theorem Device.endRestore_memDev (status : Nat) (payload : List Byte) : (d.endRestore m status payload).memDev k = d.memDev k :=
  Device.memDev_of_body (d.endRestore_body m status payload) k

theorem Device.memOut_memDev : d.memOut.memDev k = d.memDev k :=
  (congrArg (Device.memDev · k) (d.parkAll_offChans (d.usedChans.filter fun ch => (d.chan ch).seq.memdep) 6 (d.time.now + 320)) :)

theorem Device.raiseErr_memDev (e : ErrEvent) (t : Nat) : (d.raiseErr e t).memDev k = d.memDev k := by
  simp [Device.raiseErr, Device.memDev]

/-- A retired device is RETIRED, however it was found. -/
theorem Device.retire_retired : ((d.retire m k).memDev m).state = .retired := by
  unfold Device.retire
  extract_lets x other e e' e''
  have hraised : (e''.memDev m).state = .retired := by
    rw [show e'' = _ from rfl, Device.raiseErr_memDev, show e' = _ from rfl, Device.endRestore_memDev, show e = _ from rfl, Device.setMemDev_get]
  split
  · assumption
  · split
    · rwa [Device.memOut_memDev]
    · exact hraised

/-- A row that is marked takes one more spare row of its bank. -/
theorem MemDev.markRow_sparesUsed (x : MemDev) (bank row : Nat) : (x.markRow bank row).sparesUsed bank = x.sparesUsed bank + 1 := by
  simp [MemDev.markRow, MemDev.sparesUsed, Nat.add_assoc]

end

/-! ### What the opcodes answer where they accept -/

section
variable {c : Cmd} {d : Device}

/-- FLT_CLEAR clears what its mask names (R412). -/
theorem runFltClear_accepted (hg : (runFltClear c d).1.good = true) :
    runFltClear c d = ok { d with flt := d.flt.clear (c.u64 0) } (le64 (d.flt.clear (c.u64 0)).pf) :=
  checked_good (by simp [stFAULT_ACTIVE, stOK, stJUMP_DEFERRED]) hg

/-- MEM_DELAYS writes a block, its EDC and CA lanes masked (R458). -/
theorem runMemDelays_writes (hc : c.opf = 1) (hg : (runMemDelays c d).1.good = true) : runMemDelays c d =
    ok (d.setMemDev (c.u8 0) { d.memDev (c.u8 0) with block := (c.par.drop 4).take 16 ++ (maskLanes (c.par.drop 4)).drop 16 }) [] := by
  simp only [runMemDelays, hc, Nat.one_ne_zero, if_false] at hg ⊢
  exact checked_good (by simp [stBUSY, stOK, stJUMP_DEFERRED]) hg

theorem runMemScan_accepted (hg : (runMemScan c d).1.good = true) : runMemScan c d =
    if c.u32 0 = 0 then (.both [] stOK (List.replicate 5 2 ++ zeros 3 ++ leF32 (rateF32 d.mem.rate)), d)
    else (.interim stACCEPTED [], d.startScan 1 (c.u32 0) (some c.env)) :=
  checked_good (by simp [stBUSY, stOK, stJUMP_DEFERRED]) hg

/-- The device with the rate that MEM_FREQ asks for waiting (R461). -/
def Device.freqAsked (d : Device) (c : Cmd) : Device :=
  { d with mem := { d.mem with freq := some { rate := (freqOf c).getD 32, running := false, env := c.env } } }

theorem runMemFreq_accepted (hg : (runMemFreq c d).1.good = true) : runMemFreq c d =
    (.interim (if d.mem.jobs.isEmpty then stACCEPTED else stBUSY_TRAINING) [], (d.freqAsked c).startFreq) :=
  checked_good (by simp [stBUSY, stOK, stJUMP_DEFERRED]) hg

/-- MEM_RETIRE of a device. -/
theorem runMemRetire_device (hc : c.u8 0 = 0) (hg : (runMemRetire c d).1.good = true) : runMemRetire c d = ok (d.retire (c.u8 1) 8) [] := by
  simp only [runMemRetire, hc] at hg ⊢
  exact checked_good (by simp [stBUSY, stOK, stJUMP_DEFERRED]) hg

/-- MEM_RETIRE that restores a device. -/
theorem runMemRetire_restore (hc : c.u8 0 = 1) (hg : (runMemRetire c d).1.good = true) : runMemRetire c d =
    (.interim stACCEPTED [],
      ({ d with mem := { d.mem with restores := d.mem.restores ++ [(c.u8 1, some c.env)] } } : Device).startScan 2 (2 ^ c.u8 1) none) := by
  simp only [runMemRetire, hc] at hg ⊢
  exact checked_good (by simp [stBUSY, stOK, stJUMP_DEFERRED]) hg

/-- MEM_RETIRE of a row. -/
theorem runMemRetire_row (hc : c.u8 0 = 2) (hg : (runMemRetire c d).1.good = true) : runMemRetire c d =
    ok (d.setMemDev (c.u8 1) ((d.memDev (c.u8 1)).markRow (c.u16 2) (c.u32 4))) (le32 (16 - ((d.memDev (c.u8 1)).sparesUsed (c.u16 2) + 1))) := by
  rw [← MemDev.markRow_sparesUsed _ _ (c.u32 4)]
  simp only [runMemRetire, hc] at hg ⊢
  exact checked_good (by simp [stBUSY, stOK, stJUMP_DEFERRED]) hg

/-- MEM_READ off poisoned data answers the bytes that stand (R463). -/
theorem runMemRead_sound (hc : ((stripesOf (c.u64 0) (c.u32 8)).any fun k => d.mem.poisoned.contains k) = false)
    (hg : (runMemRead c d).1.good = true) : runMemRead c d =
      ok ((stripesOf (c.u64 0) (c.u32 8)).foldl (fun d k => d.touchStripe k) d) (cellsRead d.store.mem (c.u64 0) (c.u32 8)) := by
  have htouched := d.touchStripes_offMemDevs (stripesOf (c.u64 0) (c.u32 8))
  have hrun : runMemRead c d = _ := checked_good (by simp) hg
  simp only [hrun, Device.poisoned_of_offMemDevs htouched, Device.store_of_offMemDevs htouched, hc, Bool.false_eq_true, if_false]

/-- MEM_WRITE stores its data (R450). -/
theorem runMemWrite_accepted (hg : (runMemWrite c d).1.good = true) : runMemWrite c d =
    ok ((stripesOf (c.u64 0) (c.par.drop 8).length).foldl (fun d' k => (d'.touchStripe k).combine (c.u64 0) (c.par.drop 8).length k)
      { d with store := { d.store with mem := cellsWrite d.store.mem (c.u64 0) (c.par.drop 8) } }) [] :=
  checked_good (by simp [stLOCKED, stOK, stJUMP_DEFERRED]) hg

end

/-- Settles O17: each accepted command by what its opcode answers; scans, changes of rate and retirements by their own lemmas. -/
theorem faultAndMemoryCommandsComplete : Obligations.FaultAndMemoryCommandsComplete := by
  refine ⟨?fltClear, ?delays, ?scan, ?noScan, ?scanJob, ?freq, ?freqWaits, ?freqStarts, ?retire, ?retired, ?restore, ?row, ?read, ?write⟩
  case fltClear => exact completes_of_run (fun _ _ => rfl) fun _ _ _ _ hg => runFltClear_accepted hg
  case delays => exact completes_of_run (fun _ _ => rfl) fun _ _ _ hc hg => runMemDelays_writes hc hg
  case scan => exact completes_of_run (fun _ _ => rfl) fun _ _ _ hc hg => (runMemScan_accepted hg).trans (if_neg hc)
  case noScan => exact completes_of_run (fun _ _ => rfl) fun _ _ _ hc hg => (runMemScan_accepted hg).trans (if_pos hc)
  case scanJob => exact Device.startScan_jobs
  case freq =>
    refine completes_of_run (fun _ _ => rfl) fun c d _ hj hg => (runMemFreq_accepted hg).trans ?_
    rw [hj]
    rfl
  case freqWaits =>
    refine completes_of_run (fun _ _ => rfl) fun c d _ hj hg => (runMemFreq_accepted hg).trans ?_
    rw [Device.startFreq_scanning (d := d.freqAsked c) hj, if_neg (by simpa using hj)]
    rfl
  case freqStarts => exact fun _ _ => Device.startFreq_starts
  case retire => exact completes_of_run (fun _ _ => rfl) fun _ _ _ hc hg => runMemRetire_device hc hg
  case retired => exact Device.retire_retired
  case restore => exact completes_of_run (fun _ _ => rfl) fun _ _ _ hc hg => runMemRetire_restore hc hg
  case row => exact completes_of_run (fun _ _ => rfl) fun _ _ _ hc hg => runMemRetire_row hc hg
  case read => exact completes_of_run (fun _ _ => rfl) fun _ _ _ hc hg => runMemRead_sound hc hg
  case write => exact completes_of_run (fun _ _ => rfl) fun _ _ _ _ hg => runMemWrite_accepted hg

end Sys2Proof.Machine
end

section
/-! PROOFS. The admin rings and ADMIN_CTRL (R356). -/

namespace Sys2Proof.Machine

/-! ### A ring that leaves service -/

section
variable (d : Device) (q : Nat)

theorem Device.removeRing_get : (d.removeRing q).ring? q = none := by
  unfold Device.removeRing
  split
  · assumption
  · exact Device.dropRing_get _ q

theorem Device.removeRing_get_ne {k : Nat} (h : k ≠ q) : (d.removeRing q).ring? k = d.ring? k := by
  unfold Device.removeRing
  split
  · rfl
  · exact Device.dropRing_get_ne _ q k h

theorem Device.removeRing_chans : (d.removeRing q).chans = d.chans := by
  unfold Device.removeRing
  split <;> rfl

end

section
variable (d : Device) (f v : Nat)

/-- Off ADMIN_CTRL's own fields a function's admin rings leave service one by one. -/
theorem Device.adminDisable_ring (q : Nat) : (d.adminDisable f v).ring? q =
    (((d.removeRing (4 * f)).removeRing (4 * f + 1)).removeRing (4 * f + 2)).ring? q := by
  unfold Device.adminDisable Device.adminOff
  generalize ((d.removeRing (4 * f)).removeRing (4 * f + 1)).removeRing (4 * f + 2) = e
  rfl

theorem Device.adminDisable_ring_other {q : Nat} (h : q / 4 ≠ f) : (d.adminDisable f v).ring? q = d.ring? q := by
  rw [Device.adminDisable_ring, Device.removeRing_get_ne _ _ (by omega), Device.removeRing_get_ne _ _ (by omega),
    Device.removeRing_get_ne _ _ (by omega)]

theorem Device.adminDisable_commands : (d.adminDisable f v).ring? (4 * f) = none := by
  rw [Device.adminDisable_ring, Device.removeRing_get_ne _ _ (by omega), Device.removeRing_get_ne _ _ (by omega), Device.removeRing_get]

theorem Device.adminDisable_replies : (d.adminDisable f v).ring? (4 * f + 1) = none := by
  rw [Device.adminDisable_ring, Device.removeRing_get_ne _ _ (by omega), Device.removeRing_get]

theorem Device.adminDisable_events : (d.adminDisable f v).ring? (4 * f + 2) = none := by
  rw [Device.adminDisable_ring, Device.removeRing_get]

theorem Device.adminDisable_chans : (d.adminDisable f v).chans = d.chans := by
  simp only [Device.adminDisable, Device.adminOff, Device.onFn, Device.setFn_chans, Device.removeRing_chans]

theorem Device.adminOff_fn : ((d.adminOff f).fn f).adminEn = false ∧ ((d.adminOff f).fn f).adminReady = false := by
  unfold Device.adminOff
  generalize ((d.removeRing (4 * f)).removeRing (4 * f + 1)).removeRing (4 * f + 2) = e
  exact ⟨congrArg HostFn.adminEn (Device.setFn_get e ..), congrArg HostFn.adminReady (Device.setFn_get e ..)⟩

/-- ADMIN_CTRL without EN: EN and READY read 0. -/
theorem Device.adminDisable_fn : ((d.adminDisable f v).fn f).adminEn = false ∧ ((d.adminDisable f v).fn f).adminReady = false := by
  rw [Device.adminDisable, Device.onFn, Device.setFn_get]
  exact d.adminOff_fn f

end

/-! ### A ring that enters service in the result pool -/

section
variable {d : Device} {q f size host index kind a : Nat} {npkt : Bool}

theorem Device.addRing_get (d : Device) (q : Nat) (r : Ring) : (d.addRing q r).ring? q = some r := Device.setRing_get _ q r
theorem Device.addRing_get_ne (d : Device) {q k : Nat} (r : Ring) (h : k ≠ q) : (d.addRing q r).ring? k = d.ring? k :=
  Device.setRing_get_ne _ q k r h

/-- An admin ring at its place in the pool. -/
def adminRing (kind f size host index : Nat) (npkt : Bool) (a : Nat) : Ring :=
  { kind := kind, size := size, pool := true, npkt := npkt, admin := true, fn := f, doorbell := index, hostAddr := host, devAddr := a }

theorem Device.addAdminRing_placed (h : d.poolSpan (4096 * 2 ^ size) = some a) :
    d.addAdminRing q kind f size host index npkt = d.addRing q (adminRing kind f size host index npkt a) := by
  simp only [Device.addAdminRing, h]
  rfl

theorem Device.addRing_poolSpans : (d.addRing q (adminRing kind f size host index npkt a)).mem.poolSpans =
    d.mem.poolSpans ++ [(a, 4096 * 2 ^ size)] := rfl

theorem Device.poolSpan_of {l : List (Nat × Nat)} (h : d.mem.poolSpans = l) (z : Nat) :
    d.poolSpan z = lowestSpan l 0 poolSpace z [] fun _ => true := by
  rw [Device.poolSpan, h]

/-- The three admin rings of the smallest size in service one behind the other, at the pool's start. -/
def Device.withAdminRings (d : Device) (f : Nat) : Device :=
  ((d.addRing (4 * f) (adminRing 0 f 0 (d.fn f).cmdAddr 0 false 0)).addRing (4 * f + 1)
    (adminRing 1 f 0 (d.fn f).rplAddr 1 true 4096)).addRing (4 * f + 2) (adminRing 4 f 0 (d.fn f).evtAddr 2 true 8192)

/-- In an empty pool the lowest free spans lie at its start. -/
theorem Device.adminReady_readies (he : (d.fn f).adminEn = true) (hn : (d.fn f).adminReady = false) (hq : d.blk bQUEUE = true)
    (hc : d.ready.caseR = 255) (hp : d.mem.poolSpans = []) (h0 : (d.fn f).cmdSz = 0) (h1 : (d.fn f).rplSz = 0) (h2 : (d.fn f).evtSz = 0) :
    d.adminReady f = (d.withAdminRings f).onFn f fun x => { x with adminReady := true } := by
  have hfirst : d.poolSpan (4096 * 2 ^ 0) = some 0 := (Device.poolSpan_of hp _).trans (by decide)
  have hsecond (host : Nat) : (d.addRing (4 * f) (adminRing 0 f 0 host 0 false 0)).poolSpan (4096 * 2 ^ 0) = some 4096 :=
    (Device.poolSpan_of (l := [(0, 4096)]) (by rw [Device.addRing_poolSpans, hp]; rfl) _).trans (by decide)
  have hthird (host host' : Nat) : ((d.addRing (4 * f) (adminRing 0 f 0 host 0 false 0)).addRing (4 * f + 1)
      (adminRing 1 f 0 host' 1 true 4096)).poolSpan (4096 * 2 ^ 0) = some 8192 :=
    (Device.poolSpan_of (l := [(0, 4096), (4096, 4096)])
      (by rw [Device.addRing_poolSpans, Device.addRing_poolSpans, hp]; rfl) _).trans (by decide)
  simp only [Device.adminReady, he, hn, hq, hc, Bool.not_false, Bool.and_self, beq_self_eq_true, if_true, h0, h1, h2]
  rw [Device.addAdminRing_placed hfirst, Device.addAdminRing_placed (hsecond _), Device.addAdminRing_placed (hthird _ _)]
  rfl

theorem Device.withAdminRings_commands (d : Device) (f : Nat) :
    (d.withAdminRings f).ring? (4 * f) = some (adminRing 0 f 0 (d.fn f).cmdAddr 0 false 0) := by
  rw [Device.withAdminRings, Device.addRing_get_ne _ _ (by omega), Device.addRing_get_ne _ _ (by omega), Device.addRing_get]

theorem Device.withAdminRings_replies (d : Device) (f : Nat) :
    (d.withAdminRings f).ring? (4 * f + 1) = some (adminRing 1 f 0 (d.fn f).rplAddr 1 true 4096) := by
  rw [Device.withAdminRings, Device.addRing_get_ne _ _ (by omega), Device.addRing_get]

theorem Device.withAdminRings_events (d : Device) (f : Nat) :
    (d.withAdminRings f).ring? (4 * f + 2) = some (adminRing 4 f 0 (d.fn f).evtAddr 2 true 8192) := Device.addRing_get ..

theorem Device.adminReady_off (h : (d.fn f).adminEn = false) : d.adminReady f = d := by
  simp [Device.adminReady, h]

end

/-- Settles O43: EN's checks as the model makes them; the rings one by one as they leave and enter service. -/
theorem adminRingsFollowTheirControl : Obligations.AdminRingsFollowTheirControl := by
  refine ⟨?enable, ?disable, ?ready, ?off⟩
  case enable =>
    exact fun s f v hh hu hr hn => yieldsCells_of_host (f := fun d => d.adminEnable f.val v.toNat) rfl hh hu hr (if_neg (by simp [hn]))
  case disable =>
    intro s f v hh hu hr
    refine yieldsCells_of_host (f := fun d => d.adminDisable f.val v.toNat) rfl hh hu hr ?_
    obtain ⟨hen, hready⟩ := s.dev.adminDisable_fn f.val v.toNat
    exact ⟨hen, hready, Device.adminDisable_commands .., Device.adminDisable_replies .., Device.adminDisable_events ..,
      fun q hq => Device.adminDisable_ring_other _ _ _ hq, Device.adminDisable_chans ..⟩
  case ready =>
    intro s f hh he hn hq hc hp h0 h1 h2
    refine yieldsCells_of_exec (f := fun d => d.adminReady f.val) rfl hh ?_
    rw [Device.adminReady_readies he hn hq hc hp h0 h1 h2]
    simp only [Device.onFn, Device.setFn_get, Device.setFn_ring, Device.withAdminRings_commands, Device.withAdminRings_replies,
      Device.withAdminRings_events]
    exact ⟨trivial, ⟨_, rfl, rfl, rfl, rfl, rfl, rfl, rfl⟩, ⟨_, rfl, rfl, rfl, rfl, rfl⟩, ⟨_, rfl, rfl, rfl, rfl, rfl⟩⟩
  case off =>
    exact fun s f hh hn => yieldsCells_of_exec (f := fun d => d.adminReady f.val) rfl hh (Device.adminReady_off hn)

end Sys2Proof.Machine
end

section
/-! PROOFS. Main memory's own work: changes of rate, rebuilds, row copies, refreshes, write buffers, page counters and scrub
(R450, R456, R457, R461, R464, R466, R469). -/

namespace Sys2Proof.Machine

section
variable {d : Device} {m : Nat}

/-! ### The ends of a change of rate, a rebuild and a row copy -/

/-- The ports are released and, with no doorbell waiting, the completion is all that is left (R461). -/
theorem Device.freqComplete_ends {f : FreqJob} (hf : d.mem.freq = some f) (hr : f.running = true) (hj : d.mem.jobs = [])
    (hd : d.queue.doorbells = []) :
    d.freqComplete = Device.final { d with mem := { d.mem with freq := none } } f.env stOK (leF32 (rateF32 d.mem.rate)) := by
  have hqueue : { d.queue with doorbells := [] } = d.queue := by rw [← hd]
  simp only [Device.freqComplete, hf, hr, hj, hd, hqueue, List.isEmpty_nil, Bool.not_true, Bool.or_self, Bool.false_eq_true, if_false,
    List.foldl_nil]

theorem Device.freqComplete_idle (hf : d.mem.freq = none) : d.freqComplete = d := by
  simp only [Device.freqComplete, hf]

theorem Device.endRestore_unasked (h : d.mem.restores = []) (m status : Nat) (l : List Byte) : d.endRestore m status l = d := by
  have hmem : { d.mem with restores := [] } = d.mem := by rw [← h]
  simp only [Device.endRestore, h, List.filter_nil, List.foldl_nil, hmem]

/-- A rebuild that ends puts its device in service (R466). -/
theorem Device.rebuildComplete_ends (hs : (d.memDev m).state = .rebuilding) (hd : d.imp.die.state ≠ 2) (hu : d.shutDown = false)
    (hr : d.mem.restores = []) : d.rebuildComplete m = d.setMemDev m { d.memDev m with state := .inService } := by
  unfold Device.rebuildComplete
  rw [if_neg (by simp [hs, hd, hu])]
  exact Device.endRestore_unasked (d := d.setMemDev m _) hr ..

theorem Device.rebuildComplete_idle (h : (d.memDev m).state ≠ .rebuilding ∨ d.imp.die.state = 2) : d.rebuildComplete m = d :=
  if_pos (by rcases h with h | h <;> simp [h])

/-- The memory device whose only row copy has ended: the row stands remapped and its bank leaves in-order mode (R464). -/
def MemDev.remapped (x : MemDev) (c : RowCopy) : MemDev :=
  { x with
    copies := []
    remap := (x.remap.filter fun r => r.1 ≠ c.bank * 65536 + c.row) ++ [(c.bank * 65536 + c.row, c.spare)]
    banks := tabSet {} x.banks c.bank { tabGet {} x.banks c.bank with inOrder := false } }

theorem Device.rowCopied_ends {c : RowCopy} (hc : (d.memDev m).copies = [c]) (hs : c.started = true) : d.rowCopied m =
    (d.setMemDev m ((d.memDev m).remapped c)).journal 5 (d.setMemDev m ((d.memDev m).remapped c)).modeCode 255 d.time.now 0 0 0
      (rowRecord m c.bank c.row c.spare false) := by
  simp only [Device.rowCopied, hc, List.find?_cons_of_pos, hs, List.erase_cons_head, List.find?_nil, Option.isSome_none]
  rfl

theorem Device.rowCopied_idle (hc : (d.memDev m).copies = []) : d.rowCopied m = d := by
  simp only [Device.rowCopied, hc, List.find?_nil]

theorem Device.journal_memDev (d : Device) (k md b s e c w : Nat) (l : List Byte) (i : Nat) :
    (d.journal k md b s e c w l).memDev i = d.memDev i := Device.memDev_of_body (Device.journal_body ..) i

/-- While the buffer has room a record joins it. -/
theorem Device.journal_buffered (h : d.aon.jbuf.length < 128) (k md b s e c w : Nat) (l : List Byte) :
    ∃ r, (d.journal k md b s e c w l).aon.jbuf = d.aon.jbuf ++ [r] ∧ r.kind = k ∧ r.payload = l := by
  unfold Device.journal
  dsimp only
  rw [if_pos h]
  exact ⟨_, rfl, rfl, rfl⟩

/-! ### The controller's own work -/

theorem Device.pageIdle_last {b r : Nat} (h : (tabGet {} (d.memDev m).banks b).last = some r) : d.pageIdle m b =
    d.onBank m b fun x => ({ x with page := x.page - 1, last := none } : MemBank).settle x.openRow := by
  simp only [Device.pageIdle, Device.onBank, h, Option.isNone_some, Bool.false_eq_true, if_false]

theorem Device.onBank_bank (d : Device) (m b : Nat) (f : MemBank → MemBank) :
    tabGet {} ((d.onBank m b f).memDev m).banks b = f (tabGet {} (d.memDev m).banks b) := by
  simp only [Device.onBank, Device.setMemDev_get, tabGet_set_self]

theorem Device.onBank_memDev_ne (d : Device) {m k : Nat} (h : k ≠ m) (b : Nat) (f : MemBank → MemBank) :
    (d.onBank m b f).memDev k = d.memDev k := Device.setMemDev_get_ne _ m k _ h

theorem Device.scrub_reads (hb : d.blk bMEMCTL = true) (ho : d.mem.outOfService = false) (hs : d.imp.die.state ≠ 2) (hu : d.shutDown = false)
    (r : Nat) : d.scrub r =
      { d with mem := { d.mem with scrubAt := r % 32768, scrubFrom := if r = 0 then d.time.now else d.mem.scrubFrom } } :=
  if_neg (by simp [hb, ho, hs, hu])

theorem Device.scrub_stays (h : d.mem.outOfService = true ∨ d.imp.die.state = 2) (r : Nat) : d.scrub r = d :=
  if_pos (by rcases h with h | h <;> simp [h])

end

/-- Settles O45: each event by what its operation answers, in the order of the statement. -/
theorem memoryEventsComplete : Obligations.MemoryEventsComplete := by
  refine ⟨⟨?freq, ?noFreq, ?rebuild, ?noRebuild, ?row, ?noRow⟩, ?refresh, ?noRefresh, ?combine, ?idle, ?scrub, ?noScrub⟩
  case freq =>
    exact fun s f hh hf hr hj hd => yieldsCells_of_exec (f := Device.freqComplete) rfl hh (Device.freqComplete_ends hf hr hj hd)
  case noFreq => exact fun s hh hf => yieldsCells_of_exec (f := Device.freqComplete) rfl hh (Device.freqComplete_idle hf)
  case rebuild =>
    exact fun s m hh hs hd hu hr =>
      yieldsCells_of_exec (f := fun d => d.rebuildComplete m.val) rfl hh (Device.rebuildComplete_ends hs hd hu hr)
  case noRebuild =>
    exact fun s m hh h => yieldsCells_of_exec (f := fun d => d.rebuildComplete m.val) rfl hh (Device.rebuildComplete_idle h)
  case row =>
    intro s m c hh hc hs
    refine yieldsCells_of_exec (f := fun d => d.rowCopied m.val) rfl hh ?_
    rw [Device.rowCopied_ends hc hs]
    simp only [Device.journal_memDev, Device.setMemDev_get]
    exact ⟨rfl, rfl, fun k hk => Device.setMemDev_get_ne _ _ k _ hk, fun hroom => Device.journal_buffered (d := s.dev.setMemDev m.val _) hroom ..⟩
  case noRow => exact fun s m hh hc => yieldsCells_of_exec (f := fun d => d.rowCopied m.val) rfl hh (Device.rowCopied_idle hc)
  case refresh => exact fun s m b h => yields_of_exec (f := fun d => d.refresh m.val b) rfl (if_neg h)
  case noRefresh => exact fun s m b h => yields_of_exec (f := fun d => d.refresh m.val b) rfl (if_pos h)
  case combine => exact fun s => yields_of_exec (f := Device.combineTimeout) rfl rfl
  case idle =>
    intro s m b r h
    refine yields_of_exec (f := fun d => d.pageIdle m.val b) rfl ?_
    rw [Device.pageIdle_last h, Device.onBank_bank]
    exact ⟨rfl, rfl, rfl, fun k hk => Device.onBank_memDev_ne _ hk ..⟩
  case scrub =>
    exact fun s r hb ho hs hu => yields_of_exec (f := fun d => d.scrub r) rfl (Device.scrub_reads hb ho hs hu r)
  case noScrub => exact fun s r h => yields_of_exec (f := fun d => d.scrub r) rfl (Device.scrub_stays h r)

end Sys2Proof.Machine
end

section
/-! PROOFS. Lifecycle wipes, staged images, the switch and the return record (R517..R519, R526). -/

namespace Sys2Proof.Machine

section
variable {d : Device}

/-! ### Wipes (R517) -/

theorem Device.journal_fold_flash (f : Nat → List Byte) (l : List Nat) (k m b s e c w : Nat) (d : Device) :
    (l.foldl (fun d x => d.journal k m b s e c w (f x)) d).flash = d.flash :=
  List.foldlRecOn _ _ (motive := fun e : Device => e.flash = d.flash) rfl fun _ he _ _ => (Device.journal_flash ..).trans he

/-- A reset leaves the customer's sectors as they are. -/
theorem Device.restart_customer (d : Device) (k : ResetKind) : (d.restart k).flash.customer = d.flash.customer := by
  unfold Device.restart
  extract_lets warm n remap rejoin dev _aon aon links ports reg _flash fresh newest snapshot unknown
  have hnewest : newest.flash.customer = fresh.flash.customer := by
    simp only [newest]
    split
    · simp only [apply_ite Device.flash, Device.journal_flash, ite_self]
    · rfl
  have hsnapshot : snapshot.flash = newest.flash := by simp only [snapshot, apply_ite Device.flash, Device.journal_flash, ite_self]
  calc (unknown.foldl (fun d s => d.journal 10 2 255 0 0 0 0 (le32 (s * 65536))) snapshot).flash.customer
      = snapshot.flash.customer := by rw [Device.journal_fold_flash]
    _ = fresh.flash.customer := by rw [hsnapshot, hnewest]
    _ = d.flash.customer := rfl

/-- The flash after a wipe into a lifecycle state: for a returned part its boot banks alone. -/
def Device.wipedFlash (d : Device) : Flash := if d.mode.wipeTarget = 3 then { banks := d.flash.banks } else d.flash

/-- A wipe that ends restarts the device in its new lifecycle state. -/
theorem Device.wipeComplete_restarts (h : d.mode.phase = .wipe) : ∃ key, d.wipeComplete =
    ({ d with otp := { d.otp with lc := d.mode.wipeTarget, transitions := d.otp.transitions + 1, customer := key }
              flash := d.wipedFlash } : Device).restart .lifecycle :=
  ⟨_, if_pos h⟩

theorem Device.wipedFlash_banks (d : Device) : d.wipedFlash.banks = d.flash.banks := by
  unfold Device.wipedFlash; split <;> rfl

/-! ### Staged images (R518) -/

/-- An authentic image in its bank. -/
def Upload.bank (up : Upload) : Bank :=
  { image := up.bytes, authentic := true, version := u32At up.bytes 8, security := u32At up.bytes 12 }

/-- The other bank holds an image that is ready for the switch. -/
def Device.imageStaged (d : Device) (up : Upload) : Device :=
  { d with
    update := { d.update with upload := none, completing := none, stagedVersion := u32At up.bytes 8, stagedSecurity := u32At up.bytes 12 }
    flash := { d.flash with banks := tabSet {} d.flash.banks (1 - d.press.bank) up.bank }
    mode := { d.mode with updStaged := true } }

/-- The other bank holds an image that was refused. -/
def Device.imageRefused (d : Device) (up : Upload) : Device :=
  { d with
    update := { d.update with upload := none, completing := none }
    flash := { d.flash with banks := tabSet {} d.flash.banks (1 - d.press.bank) { image := up.bytes } } }

section
variable {e : Env} {up : Upload} (hc : d.update.completing = some e) (hu : d.update.upload = some up) (hi : d.update.isConfig = false)
include hc hu hi

theorem Device.updStageComplete_staged (h : u32At up.bytes 16 ≤ d.press.version ∧ d.otp.floor ≤ u32At up.bytes 12) :
    (d.updStageComplete true).body = (d.imageStaged up).body := by
  obtain ⟨hpress, hfloor⟩ := h
  simp only [Device.updStageComplete, hc, hu, hi, hpress, hfloor, decide_true, Bool.and_self, Bool.false_eq_true, if_false, if_true]
  rw [Device.final_body]
  simp only [Device.imageStaged, Upload.bank, hi]

theorem Device.updStageComplete_refused {a : Bool} (h : ¬(a = true ∧ u32At up.bytes 16 ≤ d.press.version ∧ d.otp.floor ≤ u32At up.bytes 12)) :
    (d.updStageComplete a).body = (d.imageRefused up).body := by
  have hbarred : ¬(a && decide (u32At up.bytes 16 ≤ d.press.version) && decide (d.otp.floor ≤ u32At up.bytes 12)) = true := by
    simpa only [Bool.and_eq_true, decide_eq_true_eq, and_assoc] using h
  simp only [Device.updStageComplete, hc, hu, hi, hbarred, Bool.false_eq_true, if_false]
  rw [Device.final_body]
  simp only [Device.imageRefused, hi]

end

/-- What is ready for the switch, the banks, the upload and the Press are in the body. -/
theorem Device.mode_of_body {d e : Device} (h : e.body = d.body) : e.mode = d.mode := (congrArg Device.mode h :)
theorem Device.update_of_body {d e : Device} (h : e.body = d.body) : e.update = d.update := (congrArg Device.update h :)
theorem Device.flash_of_body {d e : Device} (h : e.body = d.body) : e.flash = d.flash := (congrArg Device.flash h :)
theorem Device.otp_of_body {d e : Device} (h : e.body = d.body) : e.otp = d.otp := (congrArg Device.otp h :)
theorem Device.press_of_body {d e : Device} (h : e.body = d.body) : e.press = d.press := (congrArg Device.press h :)
theorem Device.fwVersion_of_body {d e : Device} (h : e.body = d.body) : e.aon.fwVersion = d.aon.fwVersion :=
  (congrArg (·.aon.fwVersion) h :)

/-! ### The switch (R519) -/

/-- The switch is over: nothing of it is owed or pending. -/
def Device.switchOver (d : Device) : Device :=
  { d with update := { d.update with switchEnv := none }, mode := { d.mode with update := false, updActive := false, updStaged := false } }

theorem Device.endSwitch_body (d : Device) (st : Nat) (l : List Byte) : (d.endSwitch st l).body = d.switchOver.body :=
  (congrArg Device.switchOver (Device.final?_body d d.update.switchEnv st l) :)

/-- The new image runs on the other pair, and the old pair reloads. -/
def Device.imageRuns (d : Device) : Device :=
  { d with
    press := { d.press with bank := 1 - d.press.bank, version := d.update.stagedVersion, pair := 1 - d.press.pair, standbyReady := false,
                            alt := true, reloading := some false }
    aon := { d.aon with fwVersion := d.update.stagedVersion } }

/-- The record of an image that lasts. -/
def Device.imageRecord (d : Device) : Device :=
  d.journal 9 d.modeCode 255 d.time.now 0 0 0 ([BitVec.ofNat 8 d.press.bank] ++ le32 d.update.stagedVersion ++ le32 d.update.stagedSecurity)

/-- The boot bank and the security floor of an image that lasts. -/
def Device.imageLasts (d : Device) (bank security : Nat) : Device :=
  { d with flash := { d.flash with bootBank := bank }, otp := { d.otp with floor := max d.otp.floor security } }

/-- With PERSIST the boot-bank record and the security floor follow the image that runs. -/
def Device.imagePersists (d : Device) : Device :=
  if d.update.persist then d.imageRecord.imageLasts d.press.bank d.update.stagedSecurity else d

/-- Of what lasts, PERSIST changes the boot bank and the security floor. -/
theorem Device.imagePersists_body (d : Device) : d.imagePersists.body =
    (if d.update.persist then d.imageLasts d.press.bank d.update.stagedSecurity else d).body := by
  unfold Device.imagePersists
  split
  · exact (congrArg (Device.imageLasts · d.press.bank d.update.stagedSecurity) (Device.journal_body ..) :)
  · rfl

/-- The device on which the switch has made the new image the running one. -/
def Device.imageSwitched (d : Device) : Device :=
  (if d.update.persist then d.imageRuns.imageLasts (1 - d.press.bank) d.update.stagedSecurity else d.imageRuns).switchOver

theorem Device.imageSwitched_chans (d : Device) : d.imageSwitched.chans = d.chans := by
  unfold Device.imageSwitched; split <;> rfl

theorem Device.imageSwitched_press (d : Device) : d.imageSwitched.press = d.imageRuns.press := by
  unfold Device.imageSwitched; split <;> rfl

theorem Device.imageSwitched_fwVersion (d : Device) : d.imageSwitched.aon.fwVersion = d.update.stagedVersion := by
  unfold Device.imageSwitched; split <;> rfl

theorem Device.imageSwitched_mode (d : Device) : d.imageSwitched.mode = d.switchOver.mode := by
  unfold Device.imageSwitched; split <;> rfl

theorem Device.imageSwitched_bootBank (d : Device) :
    d.imageSwitched.flash.bootBank = if d.update.persist then 1 - d.press.bank else d.flash.bootBank := by
  unfold Device.imageSwitched; split <;> rfl

theorem Device.imageSwitched_floor (d : Device) :
    d.imageSwitched.otp.floor = if d.update.persist then max d.otp.floor d.update.stagedSecurity else d.otp.floor := by
  unfold Device.imageSwitched; split <;> rfl

/-- The switch that succeeds ends with the new image running; the old pair's shadow opens. -/
theorem Device.updateEnd_switched (h : d.mode.updActive = true) : ∃ (e : Device) (till : Option Nat),
    d.updateEnd true = e.openShadow .standbyPress 0 till ∧ e.body = d.imageSwitched.body := by
  refine ⟨d.imageRuns.imagePersists.endSwitch stOK (le64 d.imageRuns.imagePersists.time.now ++ le32 d.update.stagedVersion),
    some (d.imageRuns.imagePersists.nextTick + 160 * d.imageRuns.imagePersists.time.n), ?_, ?_⟩
  · simp only [Device.updateEnd, h, Bool.not_true, Bool.false_eq_true, if_false, if_true]
    rfl
  · exact (Device.endSwitch_body ..).trans (congrArg Device.switchOver (Device.imagePersists_body d.imageRuns) :)

theorem Device.updateEnd_kept (h : d.mode.updActive = true) : (d.updateEnd false).body = d.switchOver.body := by
  simp only [Device.updateEnd, h, Bool.not_true, Bool.false_eq_true, if_false]
  exact Device.endSwitch_body ..

theorem Device.updateEnd_idle (h : d.mode.updActive = false) (b : Bool) : d.updateEnd b = d := if_pos (by simp [h])

/-! ### The return record (R526) -/

theorem Device.retComplete_ends {j : RetJob} (h : d.ret = some j) :
    d.retComplete = Device.final { d with ret := none } j.env stOK (le32 j.len ++ le32 j.crc) := by
  simp only [Device.retComplete, h]

theorem Device.retComplete_idle (h : d.ret = none) : d.retComplete = d := by simp only [Device.retComplete, h]

end

/-- Settles O46: the wipe through what a restart keeps, staging and the switch through the body that their completions leave. -/
theorem lifecycleAndUpdateComplete : Obligations.LifecycleAndUpdateComplete := by
  refine ⟨?wipe, ?noWipe, ?authentic, ?forged, ?switched, ?kept, ?noSwitch, ?ret, ?noRet⟩
  case wipe =>
    intro s hh hp
    refine yieldsCells_of_exec (f := Device.wipeComplete) rfl hh ?_
    obtain ⟨key, heq⟩ := Device.wipeComplete_restarts hp
    rw [heq]
    have h := Device.restart_restartedFrom
      { s.dev with otp := { s.dev.otp with lc := s.dev.mode.wipeTarget, transitions := s.dev.otp.transitions + 1, customer := key }
                   flash := s.dev.wipedFlash } .lifecycle
    refine ⟨h.phase, congrArg Otp.lc h.otp, congrArg Otp.transitions h.otp, h.banks.trans s.dev.wipedFlash_banks,
      fun ht => ?other, fun ht => ?returned, h.chans, h.store, h.queue, h.pf, h.ready⟩
    case other =>
      have hflash : s.dev.wipedFlash = s.dev.flash := if_neg ht
      exact ⟨h.journal.trans (congrArg Flash.journal hflash), h.configs.trans (congrArg Flash.configs hflash)⟩
    case returned =>
      have hflash : s.dev.wipedFlash = { banks := s.dev.flash.banks } := if_pos ht
      exact ⟨h.journal.trans (congrArg Flash.journal hflash), h.configs.trans (congrArg Flash.configs hflash),
        (Device.restart_customer ..).trans (congrArg Flash.customer hflash)⟩
  case noWipe => exact fun s hh hp => yieldsCells_of_exec (f := Device.wipeComplete) rfl hh (if_neg hp)
  case authentic =>
    intro s e up hh hc hu hi
    refine yieldsCells_of_exec (f := fun d => d.updStageComplete true) rfl hh ?_
    by_cases hfit : u32At up.bytes 16 ≤ s.dev.press.version ∧ s.dev.otp.floor ≤ u32At up.bytes 12
    · have hbody := Device.updStageComplete_staged hc hu hi hfit
      simp only [Device.mode_of_body hbody, Device.update_of_body hbody, Device.flash_of_body hbody, Device.press_of_body hbody,
        Device.imageStaged, Upload.bank, tabGet_set_self]
      exact ⟨fun _ _ => ⟨trivial, trivial, trivial, trivial⟩, fun hn => absurd hfit hn, trivial, trivial, trivial⟩
    · have hbody := Device.updStageComplete_refused hc hu hi (a := true) (fun h => hfit h.2)
      simp only [Device.mode_of_body hbody, Device.update_of_body hbody, Device.flash_of_body hbody, Device.press_of_body hbody,
        Device.imageRefused, tabGet_set_self]
      exact ⟨fun hv hf => absurd ⟨hv, hf⟩ hfit, fun _ => ⟨trivial, trivial⟩, trivial, trivial, trivial⟩
  case forged =>
    intro s e up hh hc hu hi
    refine yieldsCells_of_exec (f := fun d => d.updStageComplete false) rfl hh ?_
    have hbody := Device.updStageComplete_refused hc hu hi (a := false) (fun h => Bool.false_ne_true h.1)
    simp only [Device.mode_of_body hbody, Device.update_of_body hbody, Device.flash_of_body hbody, Device.imageRefused, tabGet_set_self]
    exact ⟨trivial, trivial, trivial⟩
  case switched =>
    intro s hh ha
    refine yieldsCells_of_exec (f := fun d => d.updateEnd true) rfl hh ?_
    obtain ⟨e, till, heq, hbody⟩ := Device.updateEnd_switched ha
    have hmode := (Device.mode_of_body hbody).trans s.dev.imageSwitched_mode
    have hpress := (Device.press_of_body hbody).trans s.dev.imageSwitched_press
    rw [heq]
    exact ⟨congrArg Press.bank hpress, congrArg Press.version hpress, (Device.fwVersion_of_body hbody).trans s.dev.imageSwitched_fwVersion,
      congrArg ModeUnit.update hmode, congrArg ModeUnit.updActive hmode, congrArg ModeUnit.updStaged hmode,
      (congrArg Flash.bootBank (Device.flash_of_body hbody)).trans s.dev.imageSwitched_bootBank,
      (congrArg Otp.floor (Device.otp_of_body hbody)).trans s.dev.imageSwitched_floor,
      (Device.chans_of_body hbody).trans s.dev.imageSwitched_chans⟩
  case kept =>
    intro s hh ha
    refine yieldsCells_of_exec (f := fun d => d.updateEnd false) rfl hh ?_
    have hbody := Device.updateEnd_kept ha
    have hmode := Device.mode_of_body (d := s.dev.switchOver) hbody
    exact ⟨Device.press_of_body (d := s.dev.switchOver) hbody, congrArg ModeUnit.update hmode, congrArg ModeUnit.updActive hmode, Device.flash_of_body (d := s.dev.switchOver) hbody,
      Device.otp_of_body (d := s.dev.switchOver) hbody, Device.chans_of_body (d := s.dev.switchOver) hbody⟩
  case noSwitch => exact fun s b hh ha => yieldsCells_of_exec (f := fun d => d.updateEnd b) rfl hh (Device.updateEnd_idle ha b)
  case ret => exact fun s j hh hr => yieldsCells_of_exec (f := Device.retComplete) rfl hh (Device.retComplete_ends hr)
  case noRet => exact fun s hh hr => yieldsCells_of_exec (f := Device.retComplete) rfl hh (Device.retComplete_idle hr)

end Sys2Proof.Machine
end

section
/-! PROOFS. Error lines, shadows and the journal in flash (R313, R472..R478, R488..R490, R521..R524). -/

namespace Sys2Proof.Machine

/-! ### Error lines and shadows -/

section
variable {d : Device}

/-- An event that is recorded drives FAULT_N of a running device (R354, R478). -/
theorem Device.Records.faultN {old : Device} {b u k t : Nat} (h : old.Records d b u k t) (hr : d.running = true) :
    d.settle.pins.faultN = true := by
  obtain ⟨hoff, hheld⟩ := d.running_iff_ne.mp hr
  refine d.settle_outputsFollow.faultN.mpr ⟨hoff, hheld, Or.inr ?_⟩
  show d.flt.pf ≠ 0
  rw [h.pf]
  exact setBit_ne_zero _ _

/-- An event fed by a block in an open shadow lies in that shadow (R489). -/
theorem Device.shadowOf_fed {e : ErrEvent} {b : ShadowBlock} {x : Shadow} (hb : e.fedBy = some b) (hn : neverConseq e = false)
    (hx : d.flt.shadows.find? (fun y => y.block == b) = some x) : d.shadowOf e = some x := by
  simp only [Device.shadowOf, hn, hb, Bool.false_eq_true, if_false, hx]

/-- A consequential event is flagged and kept with its cause; nothing is latched of it (R488, R489). -/
theorem Device.raiseErrAs_conseq {e : ErrEvent} {x : Shadow} (h : d.shadowOf e = some x) (t : Nat) (ov : Option Nat) (c : Nat) :
    (d.raiseErrAs e t ov c).flt.pf = d.flt.pf ∧ (d.raiseErrAs e t ov c).flt.events = d.flt.events ∧
      (d.raiseErrAs e t ov c).flt.latched = d.flt.latched ∧
      (d.raiseErrAs e t ov c).flt.shadowFlags = setBit d.flt.shadowFlags e.bit.val ∧
      (d.raiseErrAs e t ov c).flt.conseq = d.flt.conseq ++ [(e, x.cause)] := by
  unfold Device.raiseErrAs
  simp only [h, Option.isSome_some, if_true, apply_ite Device.flt, apply_ite Proofreader.pf, apply_ite Proofreader.events,
    apply_ite Proofreader.latched, apply_ite Proofreader.shadowFlags, apply_ite Proofreader.conseq, Device.journal_flt_pf,
    Device.journal_flt_events, Device.journal_flt_latched, Device.journal_flt_shadowFlags, Device.journal_flt_conseq,
    Device.setEngine_flt, ite_self, and_self]

/-- An error line that rises reaches the Proofreader as the event does. -/
theorem Device.errorLine_flt (d : Device) (e : ErrEvent) (t : Nat) : (d.errorLine e t).flt = ((d.at t).raiseErr e t).flt := by
  unfold Device.errorLine
  dsimp only
  split <;> rfl

theorem Device.errorLine_chans (d : Device) (e : ErrEvent) (t : Nat) : (d.errorLine e t).chans = d.chans := by
  have hraised : ((d.at t).raiseErr e t).chans = d.chans := Device.raiseErrAs_chans ..
  unfold Device.errorLine
  dsimp only
  split <;> exact hraised

theorem Device.errorLine_mode (d : Device) (e : ErrEvent) (t : Nat) : (d.errorLine e t).mode = d.mode := by
  have hraised : ((d.at t).raiseErr e t).mode = d.mode := Device.raiseErrAs_mode ..
  unfold Device.errorLine
  dsimp only
  split <;> exact hraised

/-- A detector's own event of Case memory marks its region (R513); another bit leaves the ready bits alone. -/
theorem Device.errorLine_ready {e : ErrEvent} (hi : e.inj = false) (t : Nat) : (d.errorLine e t).ready =
    if e.bit.val = 47 then { d.ready with caseBad := setBit d.ready.caseBad e.region.val, caseClr := setBit d.ready.caseClr e.region.val }
    else d.ready := by
  have hraised : ((d.at t).raiseErr e t).ready = d.ready := Device.raiseErrAs_ready ..
  simp only [Device.errorLine, hi, Bool.false_eq_true, false_and, not_false_eq_true, and_true, apply_ite Device.ready, hraised]

theorem Device.errorLine_records {e : ErrEvent} (hf : e.fedBy = none) (hr : e.real = true) (hi : e.inj = false) (t : Nat) :
    d.Records (d.errorLine e t) e.bit.val e.unit.val e.check.toNat t :=
  ((d.at t).raiseErrAs_records e t none 0 hf hr hi).of_flt (d.errorLine_flt e t) rfl

/-- A shadow that ends is gone, with what it kept of its block. -/
def Device.shadowGone (d : Device) (b : ShadowBlock) (cause : Nat) : Device :=
  { d with flt := { d.flt with
    shadows := d.flt.shadows.filter fun x => x.block ≠ b
    conseq := d.flt.conseq.filter fun c => !(c.1.fedBy == some b && c.2 == cause) } }

theorem Device.shadowEnd_closed {b : ShadowBlock} (h : d.flt.shadows.find? (fun y => y.block == b) = none) (l : List ErrEvent) :
    d.shadowEnd b l = d := by
  simp only [Device.shadowEnd, h]

theorem Device.shadowEnd_clear {b : ShadowBlock} {x : Shadow} (h : d.flt.shadows.find? (fun y => y.block == b) = some x) :
    d.shadowEnd b [] = d.shadowGone b x.cause := by
  simp only [Device.shadowEnd, h, List.filter_nil, List.foldl_nil]
  rfl

/-- A consequential event whose detector still fails rises as an event of its own (R490). -/
theorem Device.shadowEnd_persists {b : ShadowBlock} {x : Shadow} {e : ErrEvent}
    (h : d.flt.shadows.find? (fun y => y.block == b) = some x) (he : (e, x.cause) ∈ d.flt.conseq) :
    d.shadowEnd b [e] = (d.shadowGone b x.cause).raiseErrAs { e with fedBy := none } d.time.now none x.cause := by
  have hlive : ([e].filter fun e => d.flt.conseq.any fun c => c.1 == e && c.2 == x.cause) = [e] :=
    List.filter_cons_of_pos (List.any_eq_true.mpr ⟨_, he, by simp⟩)
  simp only [Device.shadowEnd, h, hlive, List.foldl_cons, List.foldl_nil]
  rfl

theorem Device.shadowOf_unfed {e : ErrEvent} (h : e.fedBy = none) : d.shadowOf e = none := by
  simp only [Device.shadowOf, h, ite_self]

end

/-! ### The journal (R521..R524) -/

section
variable {d : Device}

theorem Flash.needsErase_within {f : Flash} (h : f.jcount % 1024 ≠ 0) : f.needsErase = false := by simp [Flash.needsErase, h]

/-- Within a sector a record is programmed at the next index. -/
theorem Flash.program_within {f : Flash} (h : f.jcount % 1024 ≠ 0) (r : JRec) :
    f.program r = { f with journal := tabInsert f.journal f.jcount (r.bytes f.jcount), jcount := (f.jcount + 1) % 2 ^ 32 } := by
  simp only [Flash.program, if_neg h]

theorem Device.journalProgram_empty (h : d.aon.jbuf = []) : d.journalProgram = d := if_pos (by simp [h])

/-- The one buffered record leaves the buffer for the flash. -/
theorem Device.journalProgram_one {r : JRec} (hs : d.imp.die.shutdown = false) (hv : d.aon.vddAon = true) (hb : d.aon.jbuf = [r])
    (hj : d.flash.jcount % 1024 ≠ 0) :
    d.journalProgram = { d with flash := d.flash.program r, aon := { d.aon with jbuf := [] } } := by
  obtain ⟨room, hroom⟩ : ∃ room, min 4 (1024 - d.flash.jcount % 1024) = room + 1 := Nat.exists_eq_add_one.mpr (by omega)
  simp only [Device.journalProgram, hs, hv, hb, Flash.needsErase_within hj, List.isEmpty_cons, Bool.not_true, Bool.or_self,
    Bool.false_eq_true, if_false, if_neg hj, hroom, List.take_succ_cons, List.take_nil, List.drop_succ_cons, List.drop_nil,
    List.foldl_cons, List.foldl_nil]

/-- A sector of an older turn is to be erased before it is written. -/
theorem Device.journalProgram_erases (hs : d.imp.die.shutdown = false) (hv : d.aon.vddAon = true) (hb : d.aon.jbuf ≠ [])
    (hn : d.flash.needsErase = true) (he : d.flash.erases = []) : d.journalProgram =
      { d with flash := { d.flash with erases := [{ sector := 0x202 + journalSector d.flash.jcount, running := false }] } } := by
  unfold Device.journalProgram
  rw [if_neg (by simp [hs, hv, hb]), if_pos hn, if_neg (by simp [he]), he]
  rfl

/-- The hourly record joins the buffer and the next hour starts. -/
theorem Device.hourlyHistory_record (hv : d.aon.vddAon = true) : ∃ pay, d.hourlyHistory =
    { d.journal 11 d.modeCode 255 d.time.now 0 0 0 pay with
      aon := { (d.journal 11 d.modeCode 255 d.time.now 0 0 0 pay).aon with
        hours := d.aon.hours + 1, hourMin := 0, hourMax := 0, hourSum := 0, hourCount := 0, hourDx := [0, 0, 0, 0], hotSeconds := 0 } } :=
  ⟨_, if_neg (by simp [hv])⟩

/-! ### Erases (R313) -/

theorem Device.eraseStart_first {e : Erase} {l : List Erase} (he : d.flash.erases = e :: l) (hr : ∀ x ∈ e :: l, x.running = false)
    (ha : d.eraseAllowed = true) :
    d.eraseStart = { d with flash := { d.flash with erases := { e with running := true } :: l, busy := true } } := by
  have hidle : (e :: l).any (·.running) = false := List.any_eq_false.mpr fun x hx => by simp [hr x hx]
  simp only [Device.eraseStart, he, hidle, ha, Bool.not_true, Bool.or_self, Bool.false_eq_true, if_false]

theorem Device.eraseStart_barred (ha : d.eraseAllowed = false) : d.eraseStart = d := if_pos (by simp [ha])

/-- The sector's contents are gone. -/
theorem Device.eraseComplete_one {e : Erase} (he : d.flash.erases = [e]) (hr : e.running = true) : d.eraseComplete =
    { d with flash := { d.flash with
        journal := if 0x202 ≤ e.sector ∧ e.sector ≤ 0x241 then d.flash.journal.filter fun r => journalSector r.1 ≠ e.sector - 0x202
                   else d.flash.journal
        configs := if e.sector = 0x200 ∨ e.sector = 0x201 then tabErase d.flash.configs (e.sector - 0x200) else d.flash.configs
        customer := if 0x242 ≤ e.sector then d.flash.customer.filter fun x => x.1 / 65536 ≠ e.sector - 0x242 else d.flash.customer
        busy := false
        erases := [] } } := by
  simp only [Device.eraseComplete, he, List.find?_cons_of_pos, hr, List.filter_cons, Bool.not_true, Bool.false_eq_true, if_false,
    List.filter_nil]

theorem Device.eraseComplete_idle (he : d.flash.erases = []) : d.eraseComplete = d := by
  simp only [Device.eraseComplete, he, List.find?_nil]

end

/-- Settles O47: error lines and shadows through what is recorded of an event, the journal and erases by what each operation answers. -/
theorem errorsAndTheJournal : Obligations.ErrorsAndTheJournal := by
  refine ⟨⟨?line, ?conseq, ?closed, ?clear, ?persists⟩, ?empty, ?program, ?erases, ?hourly, ?start, ?barred, ?complete, ?idle⟩
  case line =>
    intro s e t hh hr hf hreal hinj
    refine yieldsCells_of_exec (f := fun d => d.errorLine e t) rfl hh ?_
    have hrecords := Device.errorLine_records (d := s.dev) hf hreal hinj t
    have hmode := s.dev.errorLine_mode e t
    refine ⟨hrecords, hrecords.faultN ?_, ?_, ?_, Device.errorLine_chans .., hmode⟩
    · rw [Device.running_iff_ne, hmode, ← Device.running_iff_ne]
      exact hr
    · intro hb
      rw [Device.errorLine_ready hinj, if_pos hb]
      exact ⟨bit_setBit .., bit_setBit ..⟩
    · intro hb
      rw [Device.errorLine_ready hinj, if_neg hb]
  case conseq =>
    intro s e t b x hh hb _ _ hn hx
    refine yieldsCells_of_exec (f := fun d => d.errorLine e t) rfl hh ?_
    rw [Device.errorLine_flt]
    exact Device.raiseErrAs_conseq (d := s.dev.at t) (Device.shadowOf_fed hb hn hx) t none 0
  case closed => exact fun s b hh hx l => yieldsCells_of_exec (f := fun d => d.shadowEnd b l) rfl hh (Device.shadowEnd_closed hx l)
  case clear =>
    intro s b x hh hx
    refine yieldsCells_of_exec (f := fun d => d.shadowEnd b []) rfl hh ?_
    rw [Device.shadowEnd_clear hx]
    exact ⟨rfl, rfl, rfl⟩
  case persists =>
    intro s b x e hh hx he
    refine yieldsCells_of_exec (f := fun d => d.shadowEnd b [e]) rfl hh ?_
    rw [Device.shadowEnd_persists hx he, Device.raiseErrAs_pf, Device.shadowOf_unfed rfl]
    exact bit_setBit ..
  case empty => exact fun s hb => yields_of_exec (f := Device.journalProgram) rfl (Device.journalProgram_empty hb)
  case program =>
    intro s r hs hv hb hj
    refine yields_of_exec (f := Device.journalProgram) rfl ?_
    rw [Device.journalProgram_one hs hv hb hj, Flash.program_within hj]
    exact ⟨rfl, tabGet_insert_self .., rfl, fun k hk => tabGet_insert_ne _ _ _ _ _ (Ne.symm hk)⟩
  case erases =>
    intro s hs hv hb hn he
    refine yields_of_exec (f := Device.journalProgram) rfl ?_
    rw [Device.journalProgram_erases hs hv hb hn he]
    exact ⟨rfl, rfl, rfl⟩
  case hourly =>
    intro s hv
    refine yields_of_exec (f := Device.hourlyHistory) rfl ?_
    obtain ⟨pay, heq⟩ := Device.hourlyHistory_record hv
    rw [heq]
    refine ⟨rfl, rfl, rfl, fun hroom => ?_, Device.journal_flt_pf .., Device.journal_chans ..⟩
    obtain ⟨r, hbuf, hkind, _⟩ := Device.journal_buffered hroom 11 s.dev.modeCode 255 s.dev.time.now 0 0 0 pay
    exact ⟨r, hbuf, hkind⟩
  case start =>
    intro s e l he hr hs ht hd
    exact yields_of_exec (f := Device.eraseStart) rfl (Device.eraseStart_first he hr (by simp [Device.eraseAllowed, hs, ht, hd]))
  case barred =>
    intro s h
    refine yields_of_exec (f := Device.eraseStart) rfl (Device.eraseStart_barred ?_)
    rcases h with hshut | hhot | hhold
    · simp [Device.eraseAllowed, hshut]
    · simp [Device.eraseAllowed, Rat.not_lt.mpr hhot]
    · simp [Device.eraseAllowed, hhold]
  case complete =>
    intro s e he hr
    refine yields_of_exec (f := Device.eraseComplete) rfl ?_
    rw [Device.eraseComplete_one he hr]
    refine ⟨rfl, rfl, fun hlow hhigh => if_pos ⟨hlow, hhigh⟩, fun hsector => ?_, rfl, rfl⟩
    show tabFind (if e.sector = 0x200 ∨ e.sector = 0x201 then _ else _) _ = none
    rw [if_pos hsector]
    exact tabFind_erase_self ..
  case idle => exact fun s he => yields_of_exec (f := Device.eraseComplete) rfl (Device.eraseComplete_idle he)

end Sys2Proof.Machine
end

section
/-! PROOFS. Reactions, Press failover and the Proofreader's self-compare (R480..R487). -/

namespace Sys2Proof.Machine

/-! ### What a notice leaves alone of the commands (R374) -/

section
variable (d : Device)

theorem Device.msi_cmd (f v : Nat) : (d.msi f v).cmd = d.cmd := by
  unfold Device.msi
  split <;> rfl

theorem Device.cause_cmd (f b : Nat) : (d.cause f b).cmd = d.cmd := by
  unfold Device.cause
  dsimp only
  split
  · exact Device.msi_cmd ..
  · rfl

theorem Device.ringPut_cmd (r : Ring) (p : Nat) (l : List Byte) (host : Bool) : (d.ringPut r p l host).cmd = d.cmd := rfl

theorem Device.produceRaw_cmd (q : Nat) (l : List Byte) (n : Nat) (irq : Bool) : (d.produceRaw q l n irq).1.cmd = d.cmd := by
  unfold Device.produceRaw
  split
  · rfl
  · split
    · simp only [apply_ite Device.cmd, Device.msi_cmd, Device.setRing_cmd, Device.ringPut_cmd, ite_self]
    · dsimp only
      split
      · rw [Device.cause_cmd, Device.setRing_cmd]
      · rw [Device.setRing_cmd]

theorem Device.mismatchReset_cmd (q : Nat) (inj real : Bool) : (d.mismatchReset q inj real).cmd = d.cmd := by
  unfold Device.mismatchReset
  split
  · rfl
  · exact (Device.raiseErrAs_cmd ..).trans rfl

theorem Device.notice_cmd (f kind i stamp : Nat) (l : List Byte) : (d.notice f kind i stamp l).cmd = d.cmd := by
  unfold Device.notice
  dsimp only
  split
  · rfl
  · simp only [apply_ite Device.cmd, Device.cause_cmd, Device.produceRaw_cmd, Device.setFn_cmd, Device.mismatchReset_cmd, ite_self]

end

/-! ### Reactions (R480..R482) -/

section
variable {d : Device} {l : Latched}

theorem Device.parkTargets_of_body {d e : Device} (h : e.body = d.body) (x : ErrEvent) : e.parkTargets x = d.parkTargets x :=
  (congrArg (Device.parkTargets · x) h :)

/-- The Proofreader's latch is empty. -/
def Device.unlatched (d : Device) : Device := { d with flt := { d.flt with latched := [] } }

theorem Device.faultReaction_none (h : d.flt.latched = []) : d.faultReaction = d := by
  have hflt : { d.flt with latched := [] } = d.flt := by rw [← h]
  simp only [Device.faultReaction, h, List.foldl_nil, hflt]

/-- One latched event's reaction is carried out alone. -/
theorem Device.faultReaction_one (h : d.flt.latched = [l]) : d.faultReaction = d.unlatched.react l := by
  simp only [Device.faultReaction, h, List.foldl_cons, List.foldl_nil, insertBySlot]
  rfl

/-- LOG does nothing. -/
theorem Device.react_log (hi : l.ev.inj = false) (hr : l.reaction = 0) : d.react l = d := by
  simp only [Device.react, hi, hr, Bool.false_and, Bool.false_eq_true, if_false, ite_self, if_true]

/-- PARK_CHANNELS parks the event's channels from 20 ns after it. -/
theorem Device.react_park (hi : l.ev.inj = false) (hr : l.reaction = 2) (hp : d.mode.phase ≠ .returned) :
    d.react l = (d.faultNotice l).parkAll ((d.faultNotice l).parkTargets l.ev) 2 (l.stamp + 320) := by
  simp only [Device.react, hi, hr, hp, Bool.false_and, Bool.false_eq_true, if_false, Nat.reduceEqDiff]

/-- SAFE is asked for from 20 ns after the event. -/
theorem Device.react_safe (hi : l.ev.inj = false) (hr : l.reaction = 6) (hp : d.mode.phase ≠ .returned) :
    d.react l = (d.faultNotice l).askMode (l.stamp + 320) (d.faultNotice l).cmd.nextAcc (.safe 2) := by
  simp only [Device.react, hi, hr, hp, Bool.false_and, Bool.false_eq_true, if_false, Nat.reduceEqDiff]

theorem Device.faultNotice_body (d : Device) (l : Latched) : (d.faultNotice l).body = d.body := Device.notice_body ..
theorem Device.faultNotice_cmd (d : Device) (l : Latched) : (d.faultNotice l).cmd = d.cmd := Device.notice_cmd ..

end

/-! ### The Press (R485) -/

section
variable {d : Device} {old : Device} {b u k t : Nat}

/-- A shadow that opens leaves what is recorded of an event. -/
theorem Device.Records.openShadow (h : old.Records d b u k t) (s : ShadowBlock) (c : Nat) (till : Option Nat) :
    old.Records (d.openShadow s c till) b u k t := ⟨h.pf, h.event, h.word, h.reaction⟩

theorem Device.Records.takeover (h : old.Records d b u k t) (c : Nat) : old.Records (d.takeover c) b u k t :=
  ⟨h.pf, h.event, h.word, h.reaction⟩

/-- The device on which a lockstep mismatch has been latched. -/
def Device.lockstepLatched (d : Device) (t : Nat) : Device := (d.at t).raiseErr (errAt 57 0 5 none) t

theorem Device.lockstepLatched_records (d : Device) (t : Nat) : d.Records (d.lockstepLatched t) 57 0 5 t :=
  ((d.at t).raiseErr_records (b := 57) (u := 0) (k := 5) none t (by decide) (by decide) (by decide)).of_flt rfl rfl

theorem Device.lockstepLatched_press (d : Device) (t : Nat) : (d.lockstepLatched t).press = d.press := Device.raiseErrAs_press ..
theorem Device.lockstepLatched_mode (d : Device) (t : Nat) : (d.lockstepLatched t).mode = d.mode := Device.raiseErrAs_mode ..
theorem Device.lockstepLatched_ready (d : Device) (t : Nat) : (d.lockstepLatched t).ready = d.ready := Device.raiseErrAs_ready ..
theorem Device.lockstepLatched_cmd (d : Device) (t : Nat) : (d.lockstepLatched t).cmd = d.cmd := Device.raiseErrAs_cmd ..
theorem Device.lockstepLatched_chans (d : Device) (t : Nat) : (d.lockstepLatched t).chans = d.chans := Device.raiseErrAs_chans ..

theorem Device.lockstepLatched_staying (hu : d.mode.updActive = false) (t : Nat) : ¬(d.lockstepLatched t).mode.updActive = true := by
  rw [Device.lockstepLatched_mode, hu]
  exact Bool.false_ne_true

/-- The ready standby pair takes over. -/
theorem Device.pressMismatch_takeover (hu : d.mode.updActive = false) (hs : d.press.standbyReady = true) (t : Nat) :
    d.pressMismatch false t = (d.lockstepLatched t).takeover d.flt.nextId := by
  have hready : (d.lockstepLatched t).press.standbyReady = true := by rw [Device.lockstepLatched_press, hs]
  exact (if_neg (Device.lockstepLatched_staying hu t)).trans ((if_neg Bool.false_ne_true).trans (if_pos hready))

/-- Without a ready standby pair the Press stops and the only pair reloads. -/
theorem Device.pressMismatch_stops (hu : d.mode.updActive = false) (hs : d.press.standbyReady = false) (t : Nat) :
    d.pressMismatch false t =
      { (d.lockstepLatched t).openShadow .activePress d.flt.nextId none with
        press := { (d.lockstepLatched t).press with active := false, alt := true, reloading := some true }
        ready := { (d.lockstepLatched t).ready with blkClr := setBit (d.lockstepLatched t).ready.blkClr bPRESS } } := by
  have hready : ¬(d.lockstepLatched t).press.standbyReady = true := by
    rw [Device.lockstepLatched_press, hs]
    exact Bool.false_ne_true
  exact (if_neg (Device.lockstepLatched_staying hu t)).trans ((if_neg Bool.false_ne_true).trans (if_neg hready))

/-- A mismatch of the standby pair has it reload. -/
theorem Device.pressMismatch_standby (hu : d.mode.updActive = false) (t : Nat) :
    d.pressMismatch true t =
      { (d.lockstepLatched t).openShadow .standbyPress d.flt.nextId none with
        press := { (d.lockstepLatched t).press with standbyReady := false, alt := true, reloading := some false } } :=
  (if_neg (Device.lockstepLatched_staying hu t)).trans (if_pos rfl)

theorem Device.pressReload_idle (h : d.press.reloading = none) (ok : Bool) : d.pressReload ok = d := by
  simp only [Device.pressReload, h]

/-- The reloaded standby pair is ready again. -/
theorem Device.pressReload_standby (h : d.press.reloading = some false) : d.pressReload true = { d with
    press := { d.press with reloading := none, standbyReady := true, standbyOut := false, alt := false }
    ready := { d.ready with blkNext := setBit d.ready.blkNext bPRESSSB } } := by
  simp only [Device.pressReload, h, if_true]

/-- A standby pair that does not reload is out of service. -/
theorem Device.pressReload_standbyOut (h : d.press.reloading = some false) : d.pressReload false = { d with
    press := { d.press with reloading := none, standbyOut := true, alt := true }
    ready := { d.ready with blkClr := setBit d.ready.blkClr bPRESSSB } } := by
  simp only [Device.pressReload, h, Bool.false_eq_true, if_false]

/-- The reloaded only pair serves again. -/
theorem Device.pressReload_active (h : d.press.reloading = some true) :
    (d.pressReload true).press = { d.press with reloading := none, active := true } ∧
      (d.pressReload true).ready = { d.ready with blkNext := setBit d.ready.blkNext bPRESS } := by
  simp only [Device.pressReload, h, if_true]
  split <;> exact ⟨rfl, rfl⟩

/-- An only pair that does not reload has SAFE carried out. -/
theorem Device.pressReload_dead (h : d.press.reloading = some true) : d.pressReload false =
    Device.askMode { d with press := { d.press with reloading := none, dead := true } } d.nextTick d.cmd.nextAcc (.safe 2) := by
  simp only [Device.pressReload, h, Bool.false_eq_true, if_false]

end

/-! ### What is latched of an event (R474, R483, R487) -/

section
variable (d : Device) {e : ErrEvent} (t : Nat) (ov : Option Nat) (c : Nat)

/-- An event outside every shadow is latched with the reaction of the moment, or with the one that its rule fixes. -/
theorem Device.raiseErrAs_latched (h : e.fedBy = none) : (d.raiseErrAs e t ov c).flt.latched = d.flt.latched ++
    [{ ev := e, id := d.flt.nextId, stamp := t, reaction := if d.mode.phase = .returned then 0 else ov.getD (d.flt.reaction e.bit.val),
       pf := setBit d.flt.pf e.bit.val }] := by
  unfold Device.raiseErrAs
  simp only [Device.shadowOf_unfed h, Option.isSome_none, Bool.false_eq_true, if_false, apply_ite Device.flt,
    apply_ite Proofreader.latched, Device.journal_flt_latched, Device.setEngine_flt, ite_self]

end

/-- Settles O48: a reaction at a time, the Press by which pair was hit and which one reloads. -/
theorem reactionsAndFailover : Obligations.ReactionsAndFailover := by
  refine ⟨⟨?none, ?log, ?park, ?safe⟩, ?takeover, ?stops, ?standby, ?standbyReload, ?activeReload, ?noReload, ?mismatch⟩
  case none => exact fun s hh hl => yieldsCells_of_exec (f := Device.faultReaction) rfl hh (Device.faultReaction_none hl)
  case log =>
    exact fun s l hh hl hi hr =>
      yieldsCells_of_exec (f := Device.faultReaction) rfl hh ((Device.faultReaction_one hl).trans (Device.react_log hi hr))
  case park =>
    intro s l ch hh hl hi hr hp hch ha hpend
    refine yieldsCells_of_exec (f := Device.faultReaction) rfl hh ?_
    have hbody := s.dev.unlatched.faultNotice_body l
    have hchan : (s.dev.unlatched.faultNotice l).chan ch = s.dev.chan ch := (Device.chan_of_body hbody ch).trans rfl
    have htargets : (s.dev.unlatched.faultNotice l).parkTargets l.ev = s.dev.parkTargets l.ev :=
      (Device.parkTargets_of_body hbody l.ev).trans rfl
    rw [Device.faultReaction_one hl, Device.react_park (d := s.dev.unlatched) hi hr hp, htargets]
    exact Device.parkAll_parks hch (by rwa [hchan]) (by rwa [hchan])
  case safe =>
    intro s l hh hl hi hr hp
    refine yieldsCells_of_exec (f := Device.faultReaction) rfl hh ?_
    have hbody := s.dev.unlatched.faultNotice_body l
    have hmode : (s.dev.unlatched.faultNotice l).mode = s.dev.mode := (Device.mode_of_body hbody).trans rfl
    rw [Device.faultReaction_one hl, Device.react_safe (d := s.dev.unlatched) hi hr hp, Device.faultNotice_cmd]
    exact ⟨congrArg (·.pending ++ _) hmode, (Device.chans_of_body hbody).trans rfl⟩
  case takeover =>
    intro s t hh hu hs
    refine yieldsCells_of_exec (f := fun d => d.pressMismatch false t) rfl hh ?_
    rw [Device.pressMismatch_takeover hu hs]
    refine ⟨(s.dev.lockstepLatched_records t).takeover .., ?_, s.dev.lockstepLatched_cmd t, s.dev.lockstepLatched_chans t⟩
    rw [← s.dev.lockstepLatched_press t]
    rfl
  case stops =>
    intro s t hh hu hs
    refine yieldsCells_of_exec (f := fun d => d.pressMismatch false t) rfl hh ?_
    rw [Device.pressMismatch_stops hu hs, s.dev.lockstepLatched_press, s.dev.lockstepLatched_ready]
    exact ⟨((s.dev.lockstepLatched_records t).openShadow .activePress s.dev.flt.nextId none).of_flt rfl rfl, rfl, rfl⟩
  case standby =>
    intro s t hh hu
    refine yieldsCells_of_exec (f := fun d => d.pressMismatch true t) rfl hh ?_
    rw [Device.pressMismatch_standby hu, s.dev.lockstepLatched_press]
    exact ⟨((s.dev.lockstepLatched_records t).openShadow .standbyPress s.dev.flt.nextId none).of_flt rfl rfl, rfl,
      s.dev.lockstepLatched_ready t⟩
  case standbyReload =>
    exact fun s hh h => ⟨yieldsCells_of_exec (f := fun d => d.pressReload true) rfl hh (Device.pressReload_standby h),
      yieldsCells_of_exec (f := fun d => d.pressReload false) rfl hh (Device.pressReload_standbyOut h)⟩
  case activeReload =>
    refine fun s hh h => ⟨yieldsCells_of_exec (f := fun d => d.pressReload true) rfl hh (Device.pressReload_active h),
      yieldsCells_of_exec (f := fun d => d.pressReload false) rfl hh ?_⟩
    rw [Device.pressReload_dead h]
    exact ⟨rfl, rfl⟩
  case noReload => exact fun s b hh h => yieldsCells_of_exec (f := fun d => d.pressReload b) rfl hh (Device.pressReload_idle h b)
  case mismatch =>
    intro s t hh
    refine yieldsCells_of_exec (f := fun d => d.proofreaderMismatch t) rfl hh ?_
    have hrecords := (s.dev.at t).raiseErrAs_records (errAt 63 0 5 none) t (some 6) 0 rfl rfl rfl
    refine ⟨⟨hrecords.pf, hrecords.event, hrecords.word, hrecords.reaction⟩, rfl, fun hp => ?_, (Device.raiseErrAs_chans ..).trans rfl⟩
    have hlatched := (s.dev.at t).raiseErrAs_latched (e := errAt 63 0 5 none) t (some 6) 0 rfl
    exact ⟨_, hlatched ▸ List.mem_append_right _ (List.mem_singleton_self _), rfl, if_neg hp⟩

end Sys2Proof.Machine
end

section
/-! PROOFS. Readiness: blocks, engines, Case memory, wiped regions and delay scans (R459, R468, R484, R485, R508, R513). -/

namespace Sys2Proof.Machine

/-! ### The end of a block's reset (R386, R388, R488) -/

section
variable {d : Device} {b u t : Nat} {passed : Bool}

/-- Of what lasts, the end of a block's reset changes the resets under way and the shadows. -/
theorem Device.resetDone_body (d : Device) (b u t : Nat) (passed : Bool) : ∃ resets shadows, (d.resetDone b u t passed).body =
    ({ d with resets := resets, flt := { d.flt with shadows := shadows } } : Device).body := by
  unfold Device.resetDone
  dsimp only
  split
  · exact ⟨d.resets, d.flt.shadows, rfl⟩
  · exact ⟨_, _, List.foldlRecOn _ _ (motive := fun e : Device => e.body = _) rfl fun e he r _ => (Device.final?_body ..).trans he⟩

theorem Device.resetDone_ready (d : Device) (b u t : Nat) (passed : Bool) : (d.resetDone b u t passed).ready = d.ready := by
  obtain ⟨_, _, h⟩ := d.resetDone_body b u t passed
  exact (congrArg Device.ready h :)

theorem Device.resetDone_time (d : Device) (b u t : Nat) (passed : Bool) : (d.resetDone b u t passed).time = d.time := by
  obtain ⟨_, _, h⟩ := d.resetDone_body b u t passed
  exact (congrArg Device.time h :)

theorem Device.resetDone_press (d : Device) (b u t : Nat) (passed : Bool) : (d.resetDone b u t passed).press = d.press := by
  obtain ⟨_, _, h⟩ := d.resetDone_body b u t passed
  exact (congrArg Device.press h :)

theorem Device.resetDone_axd (d : Device) (b u t : Nat) (passed : Bool) (a : Nat) : (d.resetDone b u t passed).axd a = d.axd a := by
  obtain ⟨_, _, h⟩ := d.resetDone_body b u t passed
  exact (congrArg (Device.axd · a) h :)

theorem Device.resetDone_engine (d : Device) (b u t : Nat) (passed : Bool) (k : Nat) :
    (d.resetDone b u t passed).engine k = d.engine k := by
  obtain ⟨_, _, h⟩ := d.resetDone_body b u t passed
  exact (congrArg (Device.engine · k) h :)

/-- Without a reset under way there is none to end. -/
theorem Device.resetDone_unasked (h : d.resets = []) : d.resetDone b u t passed = d := by
  unfold Device.resetDone
  rw [h]
  rfl

end

/-! ### What a block does as it becomes able to serve (R504) -/

section
variable {d : Device} {b t : Nat}

theorem Device.each_ready {f : Device → Nat → Device} (hf : ∀ d x, (f d x).ready = d.ready) (l : List Nat) (d : Device) :
    (d.each l f).ready = d.ready :=
  List.foldlRecOn _ _ (motive := fun e : Device => e.ready = d.ready) rfl fun e he x _ => (hf e x).trans he

theorem Device.readConfig_ready (d : Device) : d.readConfig.ready = d.ready := by
  unfold Device.readConfig
  split <;> rfl

theorem Device.rejoin_ready (d : Device) : d.rejoin.ready = d.ready := by
  unfold Device.rejoin
  split
  · exact (congrArg Device.ready (Device.regNotice_body _ d.reg) :)
  · rfl

/-- No block sets its own ready bit. -/
theorem Device.blockServes_ready (d : Device) (b t : Nat) : (d.blockServes b t).ready = d.ready := by
  unfold Device.blockServes
  split
  · rfl
  split
  · exact d.readConfig_ready
  split
  · refine Device.each_ready (fun d l => ?_) _ d
    split <;> rfl
  split
  · exact Device.each_ready (fun d a => Device.setAxd_ready d a _) _ d
  split
  · dsimp only
    exact Device.journal_ready ..
  split
  · exact d.rejoin_ready
  split <;> rfl

theorem Device.blockServes_timebase (hb : b = bTIMEBASE) : (d.blockServes b t).time.running = true := by subst hb; rfl
theorem Device.blockServes_press (hb : b = bPRESS) : (d.blockServes b t).press.active = true := by subst hb; rfl

/-- An auxiliary DAC's output at mid-scale. -/
def Device.axdServes (d : Device) (a : Nat) : Device := d.setAxd a { d.axd a with out := some 0x20000 }

theorem Device.axdServes_out (d : Device) (k a : Nat) : ((d.axdServes k).axd a).out = if a = k then some 0x20000 else (d.axd a).out := by
  by_cases h : a = k
  · rw [if_pos h, h]
    exact congrArg Axd.out (Device.setAxd_get ..)
  · rw [if_neg h]
    exact congrArg Axd.out (Device.setAxd_get_ne _ _ _ _ h)

theorem Device.each_axdServes_out (l : List Nat) (d : Device) (a : Nat) :
    ((d.each l Device.axdServes).axd a).out = if a ∈ l then some 0x20000 else (d.axd a).out := by
  induction l generalizing d with
  | nil => rfl
  | cons k l ih =>
    refine (ih (d.axdServes k)).trans ?_
    rw [Device.axdServes_out]
    by_cases hl : a ∈ l <;> by_cases hk : a = k <;> simp [hl, hk]

theorem Device.blockServes_axd (hb : b = bAXD) {a : Nat} (ha : a < 16) : ((d.blockServes b t).axd a).out = some 0x20000 := by
  subst hb
  exact (Device.each_axdServes_out (List.range 16) d a).trans (if_pos (List.mem_range.mpr ha))

/-! ### BLOCK_READY (R508) -/

/-- Kept delay blocks that are verified change memory devices alone. -/
theorem Device.keptVerified_offMemDevs (d : Device) (u : ReadyUnit) (ok : Bool) : (d.keptVerified u ok).offMemDevs = d.offMemDevs := by
  unfold Device.keptVerified
  split
  · refine List.foldlRecOn _ _ (motive := fun e : Device => e.offMemDevs = d.offMemDevs) rfl fun e he m _ => ?_
    dsimp only
    split <;> exact he
  · rfl

theorem Device.keptVerified_failed (d : Device) (u : ReadyUnit) : d.keptVerified u false = d := rfl

theorem Device.keptVerified_other {u : ReadyUnit} (h : u ≠ .blk 12) (ok : Bool) : d.keptVerified u ok = d :=
  if_neg (by simp [h])

/-- The number under which RESET_BLOCK lists a block, for a block that has a reset. -/
def resetNumber (b : Nat) : Nat := if b = bCALIB then 50 else if b = bZHEPIN then 55 else if b = bPRESSSB then 57 else if b = bFLASH then 62 else 255

/-- The ready bit of a block is announced for the next boundary. -/
def Ready.announce (r : Ready) (b : Nat) : Ready := { r with blkNext := setBit r.blkNext b }

/-- A block that serves has its ready bit announced. -/
def Device.blockAnnounced (d : Device) (b : Nat) : Device := { d with ready := d.ready.announce b }

theorem Device.blockReady_serves {b : Fin 22} (hr : d.running = true) (hp : b.val = bPCIE → d.aon.perstHigh = true) :
    d.blockReady (.blk b) true =
      ((d.blockServes b.val d.time.now).resetDone (resetNumber b.val) 0 d.time.now true).blockAnnounced b.val := by
  have hperst : ¬(b.val = bPCIE ∧ d.aon.perstHigh = false) := fun ⟨hb, hlow⟩ => by simp [hp hb] at hlow
  unfold Device.blockReady
  rw [if_neg (by simp [hr])]
  dsimp only
  rw [if_pos rfl, if_neg (by simpa using hperst)]
  rfl

section
variable {b : Fin 22} (hr : d.running = true) (hp : b.val = bPCIE → d.aon.perstHigh = true)
include hr hp

/-- A block that begins to serve, off the memory devices whose kept delay blocks are verified with it. -/
theorem Device.blockBegins_offMemDevs : ((d.blockReady (.blk b) true).keptVerified (.blk b) true).offMemDevs =
    (((d.blockServes b.val d.time.now).resetDone (resetNumber b.val) 0 d.time.now true).blockAnnounced b.val).offMemDevs := by
  rw [Device.keptVerified_offMemDevs, Device.blockReady_serves hr hp]

theorem Device.blockBegins_ready : ((d.blockReady (.blk b) true).keptVerified (.blk b) true).ready = d.ready.announce b.val :=
  (congrArg Device.ready (Device.blockBegins_offMemDevs hr hp) :).trans
    (congrArg (Ready.announce · b.val) ((Device.resetDone_ready ..).trans (Device.blockServes_ready ..)))

theorem Device.blockBegins_time : ((d.blockReady (.blk b) true).keptVerified (.blk b) true).time = (d.blockServes b.val d.time.now).time :=
  (congrArg Device.time (Device.blockBegins_offMemDevs hr hp) :).trans (Device.resetDone_time ..)

theorem Device.blockBegins_press : ((d.blockReady (.blk b) true).keptVerified (.blk b) true).press = (d.blockServes b.val d.time.now).press :=
  (congrArg Device.press (Device.blockBegins_offMemDevs hr hp) :).trans (Device.resetDone_press ..)

theorem Device.blockBegins_axd (a : Nat) :
    ((d.blockReady (.blk b) true).keptVerified (.blk b) true).axd a = (d.blockServes b.val d.time.now).axd a :=
  (congrArg (Device.axd · a) (Device.blockBegins_offMemDevs hr hp) :).trans (Device.resetDone_axd ..)

end

/-- An engine that has passed its test. -/
def Device.engineServes (d : Device) (e : Nat) : Device := d.setEngine e { d.engine e with faulty := false, tested := true, errored := false }

/-- The ready bit of an engine that serves is announced for the next boundary. -/
def Device.engineAnnounced (d : Device) (e : Nat) : Device := { d with ready := { d.ready with engNext := setBit d.ready.engNext e } }

theorem Device.blockReady_engine {e : Fin 72} (hr : d.running = true) : d.blockReady (.engine e) true =
    ((d.engineServes e.val).resetDone (e.val / 8) e.val d.time.now true).engineAnnounced e.val := by
  unfold Device.blockReady
  rw [if_neg (by simp [hr])]
  rfl

/-- An engine that fails is held faulty before its bit is raised (R484). -/
def Device.engineFailed (d : Device) (e : Nat) : Device := d.setEngine e { d.engine e with faulty := true, tested := false }

theorem Device.blockReady_engineFails {e : Fin 72} (hr : d.running = true) (hs : d.resets = []) : d.blockReady (.engine e) false =
    (d.engineFailed e.val).raiseErr (errAt (e.val / 8) (e.val % 8) 10 none) d.time.now := by
  unfold Device.blockReady
  rw [if_neg (by simp [hr])]
  dsimp only
  rw [if_neg Bool.false_ne_true, Device.resetDone_unasked (d := d.setEngine e.val _) hs]
  rfl

theorem Device.blockReady_case {r : Fin 8} (hr : d.running = true) :
    d.blockReady (.caseRegion r) true = { d with ready := { d.ready with caseNext := setBit d.ready.caseNext r.val } } := by
  unfold Device.blockReady
  rw [if_neg (by simp [hr])]
  rfl

theorem Device.blockReady_caseFails {r : Fin 8} (hr : d.running = true) : d.blockReady (.caseRegion r) false =
    ({ d with ready := { d.ready with caseBad := setBit d.ready.caseBad r.val } } : Device).raiseErr (errAt 47 0 1 none) d.time.now := by
  unfold Device.blockReady
  rw [if_neg (by simp [hr])]
  rfl

theorem Device.blockReady_pressFails (hr : d.running = true) :
    d.blockReady (.blk 16) false = d.raiseErr (errAt 63 0 10 none) d.time.now := by
  unfold Device.blockReady
  rw [if_neg (by simp [hr])]
  rfl

theorem Device.blockReady_standbyFails (hr : d.running = true) (hs : d.resets = []) : d.blockReady (.blk 17) false =
    { d with press := { d.press with standbyOut := true, standbyReady := false, alt := true } } := by
  have hdone : d.resetDone 57 0 d.time.now false = d := Device.resetDone_unasked hs
  unfold Device.blockReady
  rw [if_neg (by simp [hr])]
  exact congrArg (fun e : Device => { e with press := { d.press with standbyOut := true, standbyReady := false, alt := true } }) hdone

theorem Device.blockReady_otherFails {b : Fin 22} (hr : d.running = true) (h16 : b.val ≠ 16) (h17 : b.val ≠ 17) :
    d.blockReady (.blk b) false = d := by
  unfold Device.blockReady
  rw [if_neg (by simp [hr])]
  dsimp only
  rw [if_neg Bool.false_ne_true, if_neg (c := b.val = bPRESS) h16, if_neg (c := b.val = bPRESSSB) h17]

end

/-! ### Regions of main memory (R468) -/

/-- Entries that a filter by index lets pass are read as before, the others as unlisted. -/
theorem tabGet_filter {α : Type} (e : α) (p : Nat → Bool) (t : Tab α) (i : Nat) :
    tabGet e (t.filter fun x => p x.1) i = if p i = true then tabGet e t i else e := by
  induction t with
  | nil => simp [tabGet]
  | cons x t ih =>
    obtain ⟨k, v⟩ := x
    by_cases hk : k = i
    · subst hk
      cases hp : p k <;> simp [tabGet, ih, hp]
    · cases hp : p k <;> simp [tabGet, ih, hp, hk]

section
variable {d : Device} {r : Nat}

/-- A region's bytes are gone from the store. -/
def Device.regionZeroed (d : Device) (r : Nat) : Device :=
  { d with store := { d.store with mem := d.store.mem.filter fun c => c.1 / 2 ^ 28 ≠ r } }

/-- During BRING-UP a region wiped in order sets its ready bit. -/
theorem Device.regionWiped_bringUp (ho : d.mem.outOfService = false) (hb : d.blk bMEMCTL = true) (hm : d.mode.phase = .bringUp)
    (hr : r = 0 ∨ bit (d.ready.region ||| d.ready.regionNext) (r - 1) = true) : d.regionWiped r =
      { d.regionZeroed r with
        ready := { d.ready with regionNext := setBit d.ready.regionNext r }
        mem := { d.mem with wipeAt := if r = 63 then none else d.mem.wipeAt.map fun _ => r + 1 }
        mode := { d.mode with memPark := d.mode.memPark && r ≠ 0 } } := by
  unfold Device.regionWiped
  dsimp only
  rw [if_neg (by simp [ho, hb]), if_pos (by simpa [hm] using hr), if_neg (by simp [hm])]
  rfl

theorem Device.regionZeroed_inside (d : Device) {a : Nat} (h : a / 2 ^ 28 = r) : cellGet (d.regionZeroed r).store.mem a = 0 :=
  (tabGet_filter 0 (fun k => decide (k / 2 ^ 28 ≠ r)) d.store.mem a).trans (if_neg fun hd => (of_decide_eq_true hd : a / 2 ^ 28 ≠ r) h)

theorem Device.regionZeroed_outside (d : Device) {a : Nat} (h : a / 2 ^ 28 ≠ r) :
    cellGet (d.regionZeroed r).store.mem a = cellGet d.store.mem a :=
  (tabGet_filter 0 (fun k => decide (k / 2 ^ 28 ≠ r)) d.store.mem a).trans (if_pos (decide_eq_true h))

end

/-! ### Delay scans (R459) -/

section
variable {d : Device} {m : Nat}

/-- A device whose scan is over. -/
def Device.scanOver (d : Device) (m : Nat) : Device := d.setMemDev m { d.memDev m with scanning := none }

/-- A result that no job asked for changes nothing while no change of rate waits. -/
theorem Device.noteScan_unasked (hj : d.mem.jobs = []) (hf : d.mem.freq = none) (m result : Nat) : d.noteScan m result = d := by
  have hsame : ({ d with mem := { d.mem with jobs := [] } } : Device) = d := by rw [← hj]
  have hidle : d.startFreq = d := by simp only [Device.startFreq, hf]
  simp only [Device.noteScan, hj, List.map_nil, List.filter_nil, List.foldl_nil]
  rw [hsame, hidle]

section
variable (hr : d.running = true) (hs : (d.memDev m).state = .training) (hn : (d.memDev m).scanning = none)
include hr hs hn

/-- A training device whose scan finds a setting enters service with its block. -/
theorem Device.scanComplete_found (hf : d.mem.freq = none) (hj : d.mem.jobs = []) (hq : d.mem.restores = []) (b : List Byte) : d.scanComplete m (some b) =
    d.setMemDev m { d.memDev m with scanning := none, block := scanBlock b d.mem.rate d.time.now, state := .inService } := by
  simp only [Device.scanComplete, hr, hs, hn, hq, Bool.not_true, Option.isNone_none, ne_eq, not_true_eq_false, decide_false, Bool.and_false,
    Bool.or_self, Bool.false_eq_true, if_false, Option.getD_none, if_true, List.any_nil, Bool.false_and]
  exact Device.noteScan_unasked (d := d.setMemDev m _) hj hf m 0

/-- A training device whose scan finds none is retired. -/
theorem Device.scanComplete_lost : d.scanComplete m none =
    ((d.scanOver m).retire m 10).noteScan m 1 := by
  simp only [Device.scanComplete, hr, hs, hn, Bool.not_true, Option.isNone_none, ne_eq, not_true_eq_false, decide_false, Bool.and_false,
    Bool.or_self, Bool.false_eq_true, if_false, Option.getD_none, reduceCtorEq, Device.scanOver]

end

/-- The only device to be retired is retired with its bit raised; main memory stays in service. -/
theorem Device.retire_only {check : Nat} (hs : (d.memDev m).state ≠ .retired) (hq : d.mem.restores = [])
    (ho : ∀ k, k ≠ m → (d.memDev k).state ≠ .retired ∧ (d.memDev k).state ≠ .rebuilding) : d.retire m check =
      (d.setMemDev m { d.memDev m with state := .retired, copies := [], scanning := none }).raiseErr (errAt (41 + m) 0 check none) d.time.now := by
  have hothers : (memDevices.any fun k => k ≠ m && ((d.memDev k).state == .retired || (d.memDev k).state == .rebuilding)) = false :=
    List.any_eq_false.mpr fun k _ => by
      by_cases hk : k = m
      · simp [hk]
      · obtain ⟨hretired, hrebuilding⟩ := ho k hk
        simp [hretired, hrebuilding]
  unfold Device.retire
  dsimp only
  rw [if_neg hs, hothers, if_neg (by simp), Device.endRestore_unasked (d := d.setMemDev m _) hq]
  rfl

end

/-- Settles O21: BLOCK_READY by the unit and its outcome; a wiped region; a delay scan by what it finds. -/
theorem readinessEventsSetTheirBits : Obligations.ReadinessEventsSetTheirBits := by
  refine ⟨?blocks, ?engine, ?engineFails, ?region, ?pressFails, ?standbyFails, ?otherFails, ?wiped, ?found, ?lost⟩
  case blocks =>
    intro s b hh hr hp
    refine yieldsCells_of_exec (f := fun d => (d.blockReady (.blk b) true).keptVerified (.blk b) true) rfl hh ?_
    have hready := Device.blockBegins_ready hr hp
    have htime := Device.blockBegins_time hr hp
    have hpress := Device.blockBegins_press hr hp
    refine ⟨(congrArg Ready.blkNext hready).trans rfl, (congrArg Ready.blk hready).trans rfl, (congrArg Ready.eng hready).trans rfl,
      fun hb => ?_, fun hb => ?_, fun hb a ha => ?_⟩
    · exact (congrArg Timebase.running htime).trans (Device.blockServes_timebase hb)
    · exact (congrArg Press.active hpress).trans (Device.blockServes_press hb)
    · exact (congrArg Axd.out (Device.blockBegins_axd hr hp a)).trans (Device.blockServes_axd hb ha)
  case engine =>
    intro s e hh hr
    refine yieldsCells_of_exec (f := fun d => (d.blockReady (.engine e) true).keptVerified (.engine e) true) rfl hh ?_
    rw [Device.keptVerified_other (u := .engine e) (by simp), Device.blockReady_engine hr]
    have hready := (s.dev.engineServes e.val).resetDone_ready (e.val / 8) e.val s.dev.time.now true
    have hengine := (s.dev.engineServes e.val).resetDone_engine (e.val / 8) e.val s.dev.time.now true e.val
    exact ⟨congrArg (fun r : Ready => setBit r.engNext e.val) hready, (congrArg Ready.eng hready).trans rfl,
      (congrArg Engine.faulty hengine).trans (congrArg Engine.faulty (Device.setEngine_get ..))⟩
  case engineFails =>
    intro s e hh hr hs
    refine yieldsCells_of_exec (f := fun d => (d.blockReady (.engine e) false).keptVerified (.engine e) false) rfl hh ?_
    rw [Device.keptVerified_failed, Device.blockReady_engineFails hr hs]
    obtain ⟨errored, hengine⟩ := (s.dev.engineFailed e.val).raiseErrAs_engine (errAt (e.val / 8) (e.val % 8) 10 none) s.dev.time.now none 0 e.val
    refine ⟨?_, (Device.raiseErrAs_ready ..).trans rfl,
      ((s.dev.engineFailed e.val).raiseErr_records none s.dev.time.now (by omega) (by omega) (by decide)).of_flt rfl rfl⟩
    rw [Device.raiseErr, hengine, Device.engineFailed, Device.setEngine_get]
  case region =>
    refine fun s r hh hr =>
      ⟨yieldsCells_of_exec (f := fun d => (d.blockReady (.caseRegion r) true).keptVerified (.caseRegion r) true) rfl hh ?_,
        yieldsCells_of_exec (f := fun d => (d.blockReady (.caseRegion r) false).keptVerified (.caseRegion r) false) rfl hh ?_⟩
    · rw [Device.keptVerified_other (u := .caseRegion r) (by simp), Device.blockReady_case hr]
    · rw [Device.keptVerified_failed, Device.blockReady_caseFails hr]
      exact ⟨Device.raiseErrAs_ready .., (Device.raiseErr_records _ none _ (by decide) (by decide) (by decide)).of_flt rfl rfl⟩
  case pressFails =>
    intro s hh hr
    refine yieldsCells_of_exec (f := fun d => (d.blockReady (.blk 16) false).keptVerified (.blk 16) false) rfl hh ?_
    rw [Device.keptVerified_failed, Device.blockReady_pressFails hr]
    exact Device.raiseErr_records _ none _ (by decide) (by decide) (by decide)
  case standbyFails =>
    exact fun s hh hr hs => yieldsCells_of_exec (f := fun d => (d.blockReady (.blk 17) false).keptVerified (.blk 17) false) rfl hh
      (Device.blockReady_standbyFails hr hs)
  case otherFails =>
    exact fun s b hh hr h16 h17 => yieldsCells_of_exec (f := fun d => (d.blockReady (.blk b) false).keptVerified (.blk b) false) rfl hh
      (Device.blockReady_otherFails hr h16 h17)
  case wiped =>
    intro s r hh ho hb hm hr
    refine yieldsCells_of_exec (f := fun d => d.regionWiped r.val) rfl hh ?_
    rw [Device.regionWiped_bringUp ho hb hm hr]
    exact ⟨rfl, fun a ha => s.dev.regionZeroed_inside ha, fun a ha => s.dev.regionZeroed_outside ha, rfl, rfl⟩
  case found =>
    intro s m b hh hr hs hn hf hj hq
    refine yieldsCells_of_exec (f := fun d => d.scanComplete m.val (some b)) rfl hh ?_
    rw [Device.scanComplete_found hr hs hn hf hj hq, Device.setMemDev_get]
    exact ⟨rfl, rfl, fun k hk => Device.setMemDev_get_ne _ _ k _ hk⟩
  case lost =>
    intro s m hh hr hs hn hf hj hq ho
    refine yieldsCells_of_exec (f := fun d => d.scanComplete m.val none) rfl hh ?_
    rw [Device.scanComplete_lost hr hs hn]
    have hsame : ((s.dev.scanOver m.val).memDev m.val).state = .training := (congrArg MemDev.state (Device.setMemDev_get ..)).trans hs
    have hother (k : Nat) (hk : k ≠ m.val) : (s.dev.scanOver m.val).memDev k = s.dev.memDev k := Device.setMemDev_get_ne _ _ k _ hk
    have honly := Device.retire_only (d := s.dev.scanOver m.val) (m := m.val) (check := 10) (by simp [hsame]) hq fun k hk => by
      rw [hother k hk]
      exact ho k hk
    have hmem : ((s.dev.scanOver m.val).retire m.val 10).mem = _ := (congrArg Device.mem honly).trans (Device.raiseErrAs_mem ..)
    rw [Device.noteScan_unasked ((congrArg MemUnit.jobs hmem).trans hj) ((congrArg MemUnit.freq hmem).trans hf)]
    refine ⟨Device.retire_retired .., ?_⟩
    rw [honly]
    exact (Device.raiseErr_records _ none s.dev.time.now (by omega) (by decide) (by decide)).of_flt rfl rfl

end Sys2Proof.Machine
end

section
/-! PROOFS. PCIe resets, REFCLK, the debug port and the die's shutdown (R312, R352, R515, R537, R556). -/

namespace Sys2Proof.Machine

section
variable {d : Device} {t : Nat}

/-! ### The endpoint (R352, R537) -/

/-- The FLRs of a list of functions wait for the next boundary in the list's order. -/
theorem Device.each_flr (l : List Nat) (d : Device) : (d.each l fun d f => d.waitBoundary (.flr f)) =
    { d with sched := d.sched ++ l.map fun f => { tick := d.nextTick, acc := d.cmd.nextAcc, act := .flr f } } := by
  induction l generalizing d with
  | nil => simp [Device.each]
  | cons f l ih =>
    refine (ih (d.waitBoundary (.flr f))).trans ?_
    simp only [Device.waitBoundary, List.append_assoc, List.singleton_append, List.map_cons]
    rfl

/-- The endpoint in reset, its ready bit to be cleared. -/
def Device.perstLow (d : Device) (t : Nat) : Device :=
  { d.at t with aon := { d.aon with perstHigh := false }, ready := { d.ready with blkClr := setBit d.ready.blkClr bPCIE } }

theorem Device.perstFall_running (hr : d.running = true) :
    d.perstFall t = (d.perstLow t).each functions fun d f => d.waitBoundary (.flr f) := if_pos hr

theorem Device.perstRise_reached (hr : d.running = true) (hq : d.blk bQUEUE = true) : d.perstRise t =
    { d.at t with aon := { d.aon with perstHigh := true }, ready := { d.ready with blkNext := setBit d.ready.blkNext bPCIE } } :=
  (if_pos hr).trans (if_pos hq)

theorem Device.flrRequest_taken (hr : d.running = true) (hu : d.pcieUp = true) (f : Nat) : d.flrRequest f = d.waitBoundary (.flr f) :=
  if_pos (by simp [hr, hu])

theorem Device.vfRemoval_taken (hr : d.running = true) (hu : d.pcieUp = true) (n : Nat) : d.vfRemoval n =
    if n < d.numVFs then d.waitBoundary (.numVFs n) else { d with numVFs := n } := if_neg (by simp [hr, hu])

/-! ### REFCLK and the debug port (R515, R556) -/

/-- The device that sees REFCLK gone, before bit 60 is raised. -/
def Device.refclkGone (d : Device) (t : Nat) : Device := ({ d with aon := { d.aon with refclk := false } } : Device).at t

theorem Device.refclkLoss_seen (hr : d.running = true) (hc : d.aon.refclk = true) :
    d.refclkLoss t = (d.refclkGone t).raiseErr (errAt 60 0 10 none) t := if_pos (by simp [hr, hc])

theorem Device.jtagAttempt_barred (hr : d.running = true) (hl : d.otp.lc ≠ 1) :
    d.jtagAttempt t = (d.at t).raiseErr (errAt 63 0 9 none) t := if_neg (by simp [hr, hl])

theorem Device.running_of_mode {e : Device} (h : e.mode = d.mode) (hr : d.running = true) : e.running = true := by
  rwa [Device.running, h]

/-! ### The die's shutdown (R312) -/

/-- Journal records leave what is recorded of an event. -/
theorem Device.Records.journal {old : Device} {b u k : Nat} (h : old.Records d b u k t) (kind m x s e c w : Nat) (l : List Byte) :
    old.Records (d.journal kind m x s e c w l) b u k t where
  pf := (Device.journal_flt_pf ..).trans h.pf
  event := (Device.journal_flt_events ..).trans h.event
  word := (congrArg (tabGet {} · _) (Device.journal_flt_words ..)).trans h.word
  reaction := by
    rw [Device.journal_flt_latched]
    exact h.reaction

/-- The device on which the die's shutdown has been latched and journalled. -/
def Device.shutdownLatched (d : Device) (sensor t : Nat) : Device :=
  let x := (d.at t).raiseErrAs (errAt 59 0 11 none) t (some 6) 0
  x.journal 4 x.modeCode 59 t 0 0 0 ([BitVec.ofNat 8 sensor] ++ le16 (ofSigned 16 (tabGet noReading x.aon.dieSensors sensor).value) ++ le64 t)

theorem Device.shutdownLatched_records (d : Device) (sensor t : Nat) : d.Records (d.shutdownLatched sensor t) 59 0 11 t := by
  have hraised : (d.at t).Records ((d.at t).raiseErrAs (errAt 59 0 11 none) t (some 6) 0) 59 0 11 t :=
    (d.at t).raiseErrAs_records (errAt 59 0 11 none) t (some 6) 0 rfl rfl rfl
  exact (hraised.journal ..).of_flt rfl rfl

theorem Device.shutdownLatched_mode (d : Device) (sensor t : Nat) : (d.shutdownLatched sensor t).mode = d.mode :=
  (Device.journal_mode ..).trans (Device.raiseErrAs_mode ..)

theorem Device.shutdownLatched_cmd (d : Device) (sensor t : Nat) : (d.shutdownLatched sensor t).cmd = d.cmd :=
  (Device.journal_cmd ..).trans (Device.raiseErrAs_cmd ..)

theorem Device.shutdownLatched_time (d : Device) (sensor t : Nat) : (d.shutdownLatched sensor t).time = (d.at t).time :=
  (Device.journal_time ..).trans (Device.raiseErrAs_time ..)

/-- The shutdown's reaction is SAFE whatever is configured. -/
theorem Device.shutdownLatched_reaction (d : Device) (sensor t : Nat) (hp : d.mode.phase ≠ .returned) :
    ∃ l ∈ (d.shutdownLatched sensor t).flt.latched, l.ev.bit.val = 59 ∧ l.reaction = 6 := by
  have hlatched := (d.at t).raiseErrAs_latched (e := errAt 59 0 11 none) t (some 6) 0 rfl
  rw [Device.shutdownLatched, Device.journal_flt_latched, hlatched]
  exact ⟨_, List.mem_append_right _ (List.mem_singleton_self _), rfl, if_neg hp⟩

/-- The shutdown gates the die, abandons a running erase and asks for SAFE at the next tick. -/
theorem Device.dieShutdown_running (hr : d.running = true) (sensor : Nat) : ∃ gate unknown busy, d.dieShutdown sensor t =
    { d.shutdownLatched sensor t with
      imp := { (d.shutdownLatched sensor t).imp with die := { (d.shutdownLatched sensor t).imp.die with shutdown := true, gateFrom := gate } }
      flash := { (d.shutdownLatched sensor t).flash with
        erases := (d.shutdownLatched sensor t).flash.erases.filter (fun e => !e.running), unknown := unknown, busy := busy }
      mode := { (d.shutdownLatched sensor t).mode with
        pending := (d.shutdownLatched sensor t).mode.pending ++
          [((d.shutdownLatched sensor t).nextTick, (d.shutdownLatched sensor t).cmd.nextAcc, .safe 2)] } } :=
  ⟨_, _, _, if_neg (by simp [hr])⟩

end

/-- Settles O22: the endpoint by its waiting FLRs, each raised bit by what is recorded of it. -/
theorem linkClockAndDieEventsRaiseTheirBits : Obligations.LinkClockAndDieEventsRaiseTheirBits := by
  refine ⟨⟨?fall, ?rise, ?flr, ?vf⟩, ?loss, ?back, ?debug, ?fieldOpen, ?shutdown⟩
  case fall =>
    intro s t hr
    refine yields_of_exec (f := fun d => d.perstFall t) rfl ?_
    rw [Device.perstFall_running hr, Device.each_flr]
    exact ⟨rfl, rfl, rfl, rfl, rfl, rfl, rfl⟩
  case rise =>
    intro s t hr hq
    refine yields_of_exec (f := fun d => d.perstRise t) rfl ?_
    rw [Device.perstRise_reached hr hq]
    exact ⟨rfl, rfl, rfl, rfl⟩
  case flr =>
    exact fun s f hr hu => yields_of_exec (f := fun d => d.flrRequest f.val) rfl (Device.flrRequest_taken hr hu f.val)
  case vf =>
    exact fun s n hr hu => yields_of_exec (f := fun d => d.vfRemoval n.val) rfl (Device.vfRemoval_taken hr hu n.val)
  case loss =>
    intro s t hr hc
    refine yields_of_exec (f := fun d => d.refclkLoss t) rfl ?_
    rw [Device.refclkLoss_seen hr hc]
    have hrecords : s.dev.Records ((s.dev.refclkGone t).raiseErr (errAt 60 0 10 none) t) 60 0 10 t :=
      (Device.raiseErr_records _ none t (by decide) (by decide) (by decide)).of_flt rfl rfl
    have hmode : ((s.dev.refclkGone t).raiseErr (errAt 60 0 10 none) t).mode = s.dev.mode := Device.raiseErrAs_mode ..
    have htime : ((s.dev.refclkGone t).raiseErr (errAt 60 0 10 none) t).time = (s.dev.refclkGone t).time := Device.raiseErrAs_time ..
    have hrefclk : ((s.dev.refclkGone t).raiseErr (errAt 60 0 10 none) t).aon.refclk = false := Device.raiseErrAs_aon_refclk ..
    exact ⟨hrecords, hrefclk, hrecords.faultN (Device.running_of_mode hmode hr), (congrArg Timebase.frame htime).trans rfl,
      (congrArg Timebase.tick htime).trans rfl, hmode, Device.raiseErrAs_chans ..⟩
  case back => exact fun s t => yields_of_exec (f := fun d => d.refclkReturn t) rfl ⟨rfl, rfl, rfl, rfl, rfl, rfl⟩
  case debug =>
    intro s t hr hl
    refine yields_of_exec (f := fun d => d.jtagAttempt t) rfl ?_
    rw [Device.jtagAttempt_barred hr hl]
    have hrecords : s.dev.Records ((s.dev.at t).raiseErr (errAt 63 0 9 none) t) 63 0 9 t :=
      (Device.raiseErr_records _ none t (by decide) (by decide) (by decide)).of_flt rfl rfl
    have hmode : ((s.dev.at t).raiseErr (errAt 63 0 9 none) t).mode = s.dev.mode := Device.raiseErrAs_mode ..
    exact ⟨hrecords, hrecords.faultN (Device.running_of_mode hmode hr), hmode, Device.raiseErrAs_chans ..⟩
  case fieldOpen => exact fun s t hl => yields_of_exec (f := fun d => d.jtagAttempt t) rfl (if_pos (Or.inl hl))
  case shutdown =>
    intro s t k hr
    refine yields_of_exec (f := fun d => d.dieShutdown k.val t) rfl ?_
    obtain ⟨gate, unknown, busy, heq⟩ := Device.dieShutdown_running (t := t) hr k.val
    have hmode := s.dev.shutdownLatched_mode k.val t
    have hnext : (s.dev.shutdownLatched k.val t).nextTick = s.dev.nextTick :=
      (congrArg (fun x : Timebase => Device.nextTick { s.dev with time := x }) (s.dev.shutdownLatched_time k.val t) :)
    rw [heq]
    have hrecords := s.dev.shutdownLatched_records k.val t
    refine ⟨hrecords.of_flt rfl rfl, ?_, rfl, ?_, fun e he => ?_, s.dev.shutdownLatched_reaction k.val t⟩
    · refine (hrecords.of_flt rfl rfl).faultN ?_
      exact Device.running_of_mode (e := s.dev.shutdownLatched k.val t) hmode hr
    · rw [hnext, s.dev.shutdownLatched_cmd]
      exact List.mem_append_right _ (List.mem_singleton_self _)
    · simpa using (List.mem_filter.mp he).2

end Sys2Proof.Machine
end
